-- ==== Sys2Proof/Word.lean ====
section
/-! DEFINITION. The word types of the module and the two plain containers that State is built from:
a sparse map kept in canonical form (registers, memory, tiles) and a fixed array indexed by `Fin`. -/

namespace Sys2Proof

/-- A register word (R7). -/
abbrev Word := BitVec 32
/-- A byte of a frame, an image or memory. -/
abbrev Byte := BitVec 8
/-- A 64-bit word (module time, serial, structure identity). -/
abbrev DWord := BitVec 64

/-- A sparse map from keys to values, kept as a list with strictly rising keys. -/
abbrev Sparse (α : Type) := List (Nat × α)

namespace Sparse

variable {α : Type}

/-- The value at key `k`; an unlisted key reads as `d k`. -/
def get (d : Nat → α) : Sparse α → Nat → α
  | [], k => d k
  | (k', v) :: m, k => if k' = k then v else get d m k

/-- List `k` with value `v`, keeping the keys rising. -/
def insert (k : Nat) (v : α) : Sparse α → Sparse α
  | [] => [(k, v)]
  | (k', v') :: m =>
    if k < k' then (k, v) :: (k', v') :: m
    else if k = k' then (k, v) :: m
    else (k', v') :: insert k v m

/-- Drop every entry of key `k`. -/
def erase (k : Nat) : Sparse α → Sparse α
  | [] => []
  | (k', v') :: m => if k' = k then erase k m else (k', v') :: erase k m

/-- Store `v` at `k`. A value equal to what an unlisted key reads as removes the entry, so equal maps are
equal lists. -/
def set [DecidableEq α] (d : Nat → α) (m : Sparse α) (k : Nat) (v : α) : Sparse α :=
  if v = d k then erase k m else insert k v m

/-- Every key of the list lies above `lo`, the keys rise, and no entry equals the default. -/
def okFrom [DecidableEq α] (d : Nat → α) (lo : Nat) : Sparse α → Bool
  | [] => true
  | (k, v) :: m => decide (lo ≤ k) && decide (v ≠ d k) && okFrom d (k + 1) m

/-- The canonical form. -/
def wf [DecidableEq α] (d : Nat → α) (m : Sparse α) : Bool := okFrom d 0 m

end Sparse

/-- A fixed number of like things. -/
abbrev Arr (n : Nat) (α : Type) := Vector α n

namespace Arr

variable {n : Nat} {α : Type}

/-- Element `i`. -/
def at' (v : Arr n α) (i : Fin n) : α := v[i.val]

/-- The array with element `i` replaced. -/
def put (v : Arr n α) (i : Fin n) (x : α) : Arr n α := v.set i.val x i.isLt

/-- The array with `f` applied to element `i`. -/
def upd (v : Arr n α) (i : Fin n) (f : α → α) : Arr n α := put v i (f (at' v i))

/-- `f` applied to every element with its number. -/
def mapIdx (f : Fin n → α → α) (v : Arr n α) : Arr n α := Vector.ofFn fun i => f i (at' v i)

/-- An array of `n` equal elements. -/
def fill (n : Nat) {α : Type} (x : α) : Arr n α := Vector.replicate n x

/-- Element number `i` when `i` is in range, else `x`. -/
def getD (v : Arr n α) (i : Nat) (x : α) : α := if h : i < n then at' v ⟨i, h⟩ else x

/-- Replace element number `i`; nothing happens out of range. -/
def putD (v : Arr n α) (i : Nat) (x : α) : Arr n α := if h : i < n then put v ⟨i, h⟩ x else v

/-- Apply `f` to element number `i`; nothing happens out of range. -/
def updD (v : Arr n α) (i : Nat) (f : α → α) : Arr n α := if h : i < n then upd v ⟨i, h⟩ f else v

end Arr

/-- Number `i` as an index below `n`, when it is one. -/
def fin? (n i : Nat) : Option (Fin n) := if h : i < n then some ⟨i, h⟩ else none

end Sys2Proof
end

