-- ==== Sys2Proof/Operand.lean ====
section
/-! DEFINITION. The operand types of the commands: who makes an access, what a frame or a measurement carries.
A command's operands are the facts the outside world supplies; everything else is in State. -/

namespace Sys2Proof

/-- Privilege modes of a Mantel core (R49). -/
inductive Mode where
  | machine | supervisor | user
  deriving DecidableEq, Repr

/-- The initiators of a register access (R16, R54). -/
inductive Initiator where
  | core (h : Fin 4) (mode : Mode)
  | session (n : Fin 8)
  | tunnel (c : Fin 4)
  | debug
  deriving DecidableEq, Repr

/-- A bus access of a core or of the debug connection: physical address, size in bytes, value (R51, R53). -/
structure BusWrite where
  addr : Nat
  size : Nat
  value : Nat
  deriving DecidableEq, Repr

/-- A read by a core, by the debug connection, or by any initiator on the register fabric: physical address, size (R51, R53). -/
structure BusRead where
  addr : Nat
  size : Nat
  deriving DecidableEq, Repr

/-- The units that own a pending stage (R17): one per axis and loop, one per other block. -/
inductive ApplyUnit where
  | axis (n : Fin 15)
  | loop (n : Fin 32)
  | hob | ingest | learn | vdrv | cover | gnss | flue | fio | lsw | pwr
  deriving DecidableEq, Repr

/-- The firmware slots (R373). -/
inductive Slot where
  | a | b
  deriving DecidableEq, Repr

/-- The memories whose uncorrectable error resets PD2 (R47, R123). -/
inductive EccSite where
  | grate | woodpile | hob | pager
  deriving DecidableEq, Repr

/-- What an application asks the resident monitor for with an ecall (R49, R61). -/
inductive EcallReq where
  | read (off : Nat) (priv : Bool)
  | write (off : Nat) (value : Word) (priv : Bool)
  | modify (off : Nat) (mask value : Word) (priv : Bool)
  | plicPriority (source : Fin 32) (prio : Fin 8)
  | signal (h : Fin 4)
  deriving DecidableEq, Repr

/-- The transports of a management session (R62). -/
inductive Transport where
  | udp (port : Fin 4) | flue | usb
  deriving DecidableEq, Repr

/-- A register request of a session as it arrives: the OP code, the header fields and the data words (R65). -/
structure SessReq where
  op : Nat
  view : Bool
  flagsRes : Nat
  count : Nat
  seq : Nat
  offset : Nat
  res : Nat
  data : List Word
  deriving DecidableEq, Repr

/-- The fix kinds of a PVT epoch, in the order MIN_FIX compares them (R84, R262). -/
inductive FixKind where
  | none | single | dgnss | rtkFloat | rtkFixed
  deriving DecidableEq, Repr

/-- What one source update measured (R69): an edge or pulse of an incremental input with its direction, or a PVT
epoch with its signed path increment in mm, its fix and its speed in mm/s. -/
inductive Measurement where
  | edge (down : Bool)
  | epoch (incMm : Int) (fix : FixKind) (speedMmS : Nat)
  deriving DecidableEq, Repr

/-- How a source fault began (R84). -/
inductive FaultCause where
  | receiver | phase | barrier | epochs | blendGap | chainLost | chainDown
  deriving DecidableEq, Repr

/-- The two encapsulations of batches (R141). -/
inductive Encap where
  | ethertype | udp
  deriving DecidableEq, Repr

/-- The IPv6 and UDP part of a received frame (R141). -/
structure IpInfo where
  src : Nat
  dst : Nat
  extHeader : Bool
  cksumOk : Bool
  srcPort : Nat
  dstPort : Nat
  deriving DecidableEq, Repr

/-- An Ethernet frame as received on a port: `ip` is present when it is IPv6 with UDP (R141). -/
structure EthFrame where
  fcsOk : Bool
  dstMac : Nat
  srcMac : Nat
  vlan : List Nat
  ethertype : Nat
  ip : Option IpInfo
  payload : List Byte
  deriving DecidableEq, Repr

/-- The dies whose cooling ends an over-temperature (R200, R305): the power die of a valve half, a field output. -/
inductive DieSite where
  | valveHalf (i : Fin 2) | fieldOutput (n : Fin 16)
  deriving DecidableEq, Repr

/-- The input conditions of an analog input (R311). -/
inductive AiCond where
  | open_ | short | over_
  deriving DecidableEq, Repr

/-- The two sides of the field barrier (R299). -/
inductive BarrierSide where
  | field | logic
  deriving DecidableEq, Repr

/-- A CAN frame (R329, R336); an 11-bit identifier stands in bits [28:18] of `id`. -/
structure CanFrame where
  ide : Bool
  id : Nat
  fdf : Bool
  brs : Bool
  esi : Bool
  remote : Bool
  dlc : Nat
  data : List Byte
  deriving DecidableEq, Repr

/-- How an attempt failed (R341 to R343). -/
inductive CanFail where
  | ack | dataBit | other
  deriving DecidableEq, Repr

/-- What the learning unit sampled for an opening measurement (R164, R416): the coil current in mA every 100 ns from the
drive start with whether the driver drove the current up, the quarter of a sample by which the arrival lies after its
sample, whether PEAK_I was reached, and the rail feeding the bank, at the edge and at its lowest, in mV. -/
structure OpenSamples where
  current : List (Nat × Bool)
  quarter : Fin 4
  reached : Bool
  railEdge : Nat
  railMin : Nat
  deriving DecidableEq, Repr

/-- What the learning unit sampled for a closing measurement (R165, R416): the ticks from the switch-off edge to the first
sample, the magnitude of the coil voltage in mV every 100 ns, the quarter of a sample by which the seating lies before its
sample, the coil current at the edge in mA, and the rail, at the edge and at its lowest, in mV. -/
structure CloseSamples where
  start : Nat
  voltage : List Nat
  quarter : Fin 4
  edgeMa : Nat
  railEdge : Nat
  railMin : Nat
  deriving DecidableEq, Repr

/-- The rise of a coil's current (R173): the rail in mV at the edge, the slopes in mA per ms at FP_I1 and FP_I2. -/
structure CoilRise where
  rail : Nat
  s1 : Nat
  s2 : Nat
  deriving DecidableEq, Repr

/-- What a tracking channel holds at an observable epoch (R257). -/
structure ObsIn where
  towKnown : Bool
  halfCyc : Bool
  slip : Bool
  txMs : Nat
  txFrac : Nat
  carrier : Int
  doppler : Int
  lockMs : Nat
  cn0 : Nat
  deriving DecidableEq, Repr

/-- The strongest cell of an acquisition pass (R251): whether the window is the hot one, the cell, and whether its power
lies above the threshold. -/
structure AcqPass where
  signal : Fin 10
  sv : Nat
  hot : Bool
  phase : Nat
  bin : Int
  power : Nat
  above : Bool
  deriving DecidableEq, Repr

/-- A navigation word complete in a channel (R254): its data bits and the verdict of its check. -/
structure NavWordIn where
  bits : List Bool
  ok : Bool
  deriving DecidableEq, Repr

/-- A correlator dump (R253, R254): the six accumulations, the synchronisations found, and a word completed. -/
structure DumpIn where
  acc : Arr 6 Word
  bitSync : Bool
  frameSync : Bool
  word : Option NavWordIn
  deriving DecidableEq, Repr

/-- The deviations that the checks of R260 look at for one signal: two-band range in m, code against carrier in 0.1 m,
Doppler in Hz, each a magnitude where the comparison can be made. -/
structure ObsDev where
  chan : Fin 32
  dual : Option Nat
  codeCarrier : Option Nat
  doppler : Option Nat
  deriving DecidableEq, Repr

/-- What the firmware's solver found at an epoch (R258, R260 to R265). Positions and speeds in mm and mm/s; angles in units of
2^-32 turn; offsets of Galileo, BeiDou, GLONASS and QZSS time in 0.1 ns, as estimated and as broadcast. -/
structure PvtSol where
  devs : List ObsDev
  /-- The channel with the largest post-fit residual and that residual in 0.1 m, of each solution in turn (R260 check 3). -/
  residuals : List (Fin 32 × Nat)
  isb : Arr 4 (Option Int)
  broadcast : Arr 4 (Option Int)
  /-- Age of the SBAS corrections in 0.1 s; ambiguities fixed and validated. -/
  sbasAge : Option Nat
  fixed : Bool
  latNano : Int
  lonNano : Int
  height : Int
  vel : Arr 3 Int
  speed : Nat
  course : Nat
  hAcc : Nat
  vAcc : Nat
  hdop : Nat
  pdop : Nat
  /-- Horizontal distance in µm of the reference point from its last position; its place in the map frame. -/
  distUm : Nat
  east : Int
  north : Int
  /-- GPS time of the epoch in ns, drift in 0.001 ppb, uncertainty in ns, leap seconds where known. -/
  gps : Int
  drift : Int
  unc : Nat
  leap : Option Nat
  /-- Reference times (SECS) of an almanac and an ephemeris completed since the last epoch. -/
  newAlm : Option Nat
  newEph : Option Nat
  deriving DecidableEq, Repr

/-- A frame received on a Flue port with a good CRC: its header fields and payload (R274). -/
structure FlueFrameIn where
  src : Nat
  dest : Nat
  hops : Nat
  seq : Nat
  payload : List Byte
  deriving DecidableEq, Repr

/-- Why a Flue frame is discarded (R274, R275): a bad CRC, or a TYPE not in the table. -/
inductive FlueBad where
  | crc | type
  deriving DecidableEq, Repr

/-- Who signs a request: the key of a slot, or the owner root (R362, R365). -/
inductive Signer where
  | slot (n : Fin 64) | ownerRoot
  deriving DecidableEq, Repr

/-- What Kindling finds of a slot's package at a boot: whether the package signature verifies, and whether the firmware tag and
the wrapped key hold (R374). -/
structure BootSeen where
  sigA : Bool
  tagA : Bool
  sigB : Bool
  tagB : Bool
  deriving DecidableEq, Repr

/-- An enrolment record: the target (a key slot, or the owner root hash), the role, the public key, the module serial or 0,
and who signed it, if anyone (R365). -/
structure EnrolRec where
  target : Signer
  priv : Bool
  key : List Byte
  serial : DWord
  signer : Option Signer
  sigOk : Bool
  deriving DecidableEq, Repr

/-- What MC0 found on a NAND page it read (R395): the slot that holds the page, if any, corrected bits in all and in the
worst 512 bytes, SECS and BREAKS of the block's last write, and whether the page can be corrected. -/
structure NandPage where
  slot : Option Slot
  corrected : Nat
  worst : Nat
  writtenSecs : Nat
  writtenBreaks : Nat
  bad : Bool
  deriving DecidableEq, Repr

/-- What a probe of one channel found (R174): whether FP_I2 was reached within 500 µs, and the rise. -/
structure ProbeRise where
  chan : Fin 128
  reached : Bool
  rise : CoilRise
  deriving DecidableEq, Repr

/-- A management message (R62 to R65): a request to open a session, the answer to a challenge with the key it names and the
verdict on its signature, a register request, a close. -/
inductive SessMsg where
  | open_
  | answer (n : Fin 8) (key : Nat) (sigOk : Bool)
  | request (n : Fin 8) (r : SessReq)
  | close (n : Fin 8)
  deriving DecidableEq, Repr

/-- A life-cycle request (R363): the target state's code, the serial and the nonce it names, who signed it, and the verdict on
the signature. -/
structure LcReq where
  target : Nat
  serial : DWord
  nonce : Nat
  signer : Signer
  sigOk : Bool
  deriving DecidableEq, Repr

end Sys2Proof
end

