-- ==== Sys2Proof/Syntax.lean ====
section
/-! DEFINITION. The commands: one constructor for each row of the opcode table, in the table's order, those without operands
last. A command's operands are what the outside world decides; the rule that gives the row stands beside it. -/

namespace Sys2Proof

inductive Instr where
  /-- MANTEL_CYCLE_BOUNDARY (R13). -/
  | mantelCycleBoundary (corrected : Nat)
  /-- APPLY (R17). -/
  | apply (u : ApplyUnit)
  /-- PENDING_STAGE_TAKEN (R17). -/
  | pendingStageTaken (u : ApplyUnit)
  /-- REGISTER_WRITE (R8). -/
  | registerWrite (i : Initiator) (b : BusWrite)
  /-- SNAPSHOT_LATCH_READ (R16). -/
  | snapshotLatchRead (i : Initiator) (b : BusRead)
  /-- TUNNEL_SEQUENCE_READ (R20). -/
  | tunnelSequenceRead (c : Fin 4) (off : Nat)
  /-- IMAGE_LOAD (R41). -/
  | imageLoad (slot : Slot) (sigOk : Bool) (readbackOk : Bool)
  /-- CAND_DONE (R48). -/
  | candDone (sigOk : Bool)
  /-- UNCORRECTABLE_ERROR (R123). -/
  | uncorrectableError (site : EccSite)
  /-- PD2_RESET_RELEASE (R414). -/
  | pd2ResetRelease (sigOk : Bool) (readbackOk : Bool)
  /-- MTIMECMP_INTERRUPT (R50). -/
  | mtimecmpInterrupt (h : Fin 4)
  /-- CLAIM (R61). -/
  | claim (ctx : Fin 8)
  /-- COMPLETE (R59). -/
  | complete (ctx : Fin 8) (src : Fin 32)
  /-- ECALL (R49). -/
  | ecall (h : Fin 4) (r : EcallReq)
  /-- MSIP (R61). -/
  | msip (i : Initiator) (h : Fin 4) (v : Bool)
  /-- SESSION_OPEN_REQUEST (R64). -/
  | sessionOpenRequest (t : Transport) (peer : Nat)
  /-- CHALLENGE_RESPONSE (R63). -/
  | challengeResponse (n : Fin 8) (key : Nat) (sigOk : Bool)
  /-- CHALLENGE_TIMEOUT (R64). -/
  | challengeTimeout (n : Fin 8)
  /-- READ (R65). -/
  | read (n : Fin 8) (r : SessReq)
  /-- WRITE (R65). -/
  | write (n : Fin 8) (r : SessReq)
  /-- MODIFY (R65). -/
  | modify (n : Fin 8) (r : SessReq)
  /-- SESSION_CLOSE (R64). -/
  | sessionClose (n : Fin 8)
  /-- SESSION_INACTIVITY_TIMEOUT (R64). -/
  | sessionInactivityTimeout (n : Fin 8)
  /-- SOURCE_UPDATE (R78). -/
  | sourceUpdate (n : Fin 15) (t : Nat) (meas : Measurement)
  /-- SRC_FAULT (R84). -/
  | srcFault (n : Fin 15) (c : FaultCause)
  /-- SOURCE_FAULT_CLEARED (R84). -/
  | sourceFaultCleared (n : Fin 15)
  /-- GNSS_GAP (R87). -/
  | gnssGap (n : Fin 15)
  /-- COAST_TIME_EXPIRY (R83). -/
  | coastTimeExpiry (n : Fin 15)
  /-- COAST_DIST_REACHED (R83). -/
  | coastDistReached (n : Fin 15)
  /-- RANGE_EXCEEDED (R71). -/
  | rangeExceeded (n : Fin 15)
  /-- STILL (R80). -/
  | still (n : Fin 15)
  /-- INDEX (R89). -/
  | index (n : Fin 15)
  /-- RESTART (R83). -/
  | restart (n : Fin 15)
  /-- SAVE_OFFSET (R92). -/
  | saveOffset (n : Fin 15)
  /-- CLEAR_COUNTS (R84). -/
  | clearCounts (n : Fin 15)
  /-- AXIS_FRAME_SEND (R88). -/
  | axisFrameSend (n : Fin 15)
  /-- BATCH (R145). -/
  | batch (p : Fin 4) (f : EthFrame)
  /-- NOTIFICATION_FRAME (R155). -/
  | notificationFrame (ring : Fin 64)
  /-- NOTE_RETX (R156). -/
  | noteRetx (ring : Fin 64)
  /-- RING_CLOSE (R144). -/
  | ringClose (ring : Fin 64)
  /-- DISCARD_NOTES (R158). -/
  | discardNotes (ring : Fin 64)
  /-- NEIGHBOUR_SOLICITATION (R141). -/
  | neighbourSolicitation (p : Fin 4) (mac : Nat) (ip : Nat) (target : Nat)
  /-- ECHO_REQUEST (R141). -/
  | echoRequest (p : Fin 4) (mac : Nat) (ip : Nat) (dst : Nat) (body : List Byte)
  /-- FRAME_DROP (R141). -/
  | frameDrop (p : Fin 4) (f : EthFrame)
  /-- PORT_LINK_UP (R140). -/
  | portLinkUp (p : Fin 4)
  /-- PORT_LINK_DOWN (R154). -/
  | portLinkDown (p : Fin 4) (present : Bool) (los : Bool) (txFault : Bool)
  /-- PAGER_VISIT (R127). -/
  | pagerVisit (axis : Fin 16)
  /-- FAR_CHAIN_SWEEP (R125). -/
  | farChainSweep (axis : Fin 16)
  /-- OPENING_MEASUREMENT (R164). -/
  | openingMeasurement (k : Fin 128) (o : OpenSamples)
  /-- CLOSING_MEASUREMENT (R165). -/
  | closingMeasurement (k : Fin 128) (o : CloseSamples)
  /-- FINGERPRINT (R173). -/
  | fingerprint (k : Fin 128) (f : CoilRise)
  /-- PROBE (R174). -/
  | probe (b : Fin 16) (res : List ProbeRise)
  /-- FORGET (R178). -/
  | forget (k : Fin 128)
  /-- LOAD (R178). -/
  | load (k : Fin 128)
  /-- BOOST_END (R184). -/
  | boostEnd (k : Fin 128) (reached : Bool) (mj : Nat) (rail : Nat)
  /-- PEAK_END (R184). -/
  | peakEnd (k : Fin 128) (reached : Bool)
  /-- DECAY_END (R184). -/
  | decayEnd (k : Fin 128) (retMj : Nat) (clampMj : Nat)
  /-- BOOST_START (R189). -/
  | boostStart (b : Fin 16) (rail : Nat)
  /-- BOOST_WAIT_MAX (R189). -/
  | boostWaitMax (k : Fin 128)
  /-- MINIMUM_GAP_END (R187). -/
  | minimumGapEnd (k : Fin 128)
  /-- PWM_PULSE_START (R191). -/
  | pwmPulseStart (k : Fin 128)
  /-- PWM_PULSE_END (R191). -/
  | pwmPulseEnd (k : Fin 128)
  /-- HOLD_FACTOR_RAISE (R196). -/
  | holdFactorRaise (i : Fin 2) (ma : Nat)
  /-- DUTY_CUT (R197). -/
  | dutyCut (k : Fin 128)
  /-- DUTY_CUT_RELEASE (R197). -/
  | dutyCutRelease (k : Fin 128)
  /-- SUP_WARN (R198). -/
  | supWarn (i : Fin 2) (mv : Nat)
  /-- VSOL_WARNING_END (R198). -/
  | vsolWarningEnd (i : Fin 2) (mv : Nat)
  /-- REDUCED_BUDGET_END (R199). -/
  | reducedBudgetEnd (i : Fin 2)
  /-- VALVE_OPEN_FAULT (R200). -/
  | valveOpenFault (k : Fin 128)
  /-- VALVE_SHORT (R200). -/
  | valveShort (k : Fin 128)
  /-- DRIVE_OVERTEMP (R200). -/
  | driveOvertemp (i : Fin 2)
  /-- INPUT_OC (R200). -/
  | inputOc (i : Fin 2)
  /-- BANK_SW (R200). -/
  | bankSw (b : Fin 16)
  /-- VSOL_UV (R200). -/
  | vsolUv (i : Fin 2) (mv : Nat)
  /-- VSOL_UV_RELEASE (R200). -/
  | vsolUvRelease (i : Fin 2) (mv : Nat)
  /-- BW_OV (R200). -/
  | bwOv (i : Fin 2) (mv : Nat)
  /-- BW_LOW (R200). -/
  | bwLow (i : Fin 2) (mv : Nat)
  /-- VDRV_FAULT_CLEAR (R200). -/
  | vdrvFaultClear (k : Fin 128) (mask : Word)
  /-- BELLOWS_FULL (R192). -/
  | bellowsFull (i : Fin 2) (mv : Nat)
  /-- BELLOWS_CONVERTER_START (R193). -/
  | bellowsConverterStart (i : Fin 2) (vsol : Nat) (rail : Nat)
  /-- RESETPOL_WRITE (R202). -/
  | resetpolWrite (c : Nat) (w : Word)
  /-- HOLD_MS_EXPIRY (R203). -/
  | holdMsExpiry (c : Nat)
  /-- TILE_LOAD (R212). -/
  | tileLoad (layer : Fin 4)
  /-- TILE_EXPORT (R212). -/
  | tileExport (layer : Fin 4)
  /-- TILE_DELETE (R212). -/
  | tileDelete (layer : Fin 4)
  /-- SP_VALUE (R232). -/
  | spValue (n : Fin 32) (w : Word)
  /-- FB_SW_VALUE (R232). -/
  | fbSwValue (n : Fin 32) (w : Word)
  /-- SAVE_BANKS (R247). -/
  | saveBanks (n : Fin 32)
  /-- ACQUISITION_PASS (R251). -/
  | acquisitionPass (p : AcqPass)
  /-- CORRELATOR_DUMP (R253). -/
  | correlatorDump (c : Fin 96) (d : DumpIn)
  /-- NAV_FIFO_READ (R254). -/
  | navFifoRead (c : Fin 96)
  /-- CHANNEL_START (R253). -/
  | channelStart (c : Fin 96) (w : Word)
  /-- OBSERVABLE_EPOCH (R256). -/
  | observableEpoch (recs : Arr 32 (Option ObsIn))
  /-- PVT_SOLUTION (R262). -/
  | pvtSolution (sol : PvtSol)
  /-- ANTENNA_OPEN (R250). -/
  | antennaOpen (ma : Nat)
  /-- ANTENNA_SHORT (R250). -/
  | antennaShort (ma : Nat)
  /-- ANTENNA_OK (R250). -/
  | antennaOk (ma : Nat)
  /-- RTCM_WORD (R265). -/
  | rtcmWord (w : Word)
  /-- RTCM_BYTE (R265). -/
  | rtcmByte (b : Byte)
  /-- LINK_FRAME (R284). -/
  | linkFrame (q : Fin 2) (f : FlueFrameIn)
  /-- LINK_FRAME_SEND (R275). -/
  | linkFrameSend (q : Fin 2)
  /-- TIME_FRAME (R286). -/
  | timeFrame (q : Fin 2) (f : FlueFrameIn)
  /-- PRESENCE (R281). -/
  | presence (q : Fin 2) (f : FlueFrameIn)
  /-- PRESENCE_SEND (R281). -/
  | presenceSend (topology : Bool)
  /-- FLUE_PORT_UP (R273). -/
  | fluePortUp (q : Fin 2) (closes : Bool)
  /-- FLUE_PORT_DOWN (R273). -/
  | fluePortDown (q : Fin 2)
  /-- AXIS_FRAME (R291). -/
  | axisFrame (q : Fin 2) (f : FlueFrameIn)
  /-- BATCH_FRAME (R292). -/
  | batchFrame (q : Fin 2) (f : FlueFrameIn)
  /-- RETURN_FRAME (R292). -/
  | returnFrame (q : Fin 2) (f : FlueFrameIn)
  /-- MGMT_FRAME (R293). -/
  | mgmtFrame (q : Fin 2) (f : FlueFrameIn) (msg : Option SessMsg)
  /-- MGMT_RELAY_DATAGRAM (R293). -/
  | mgmtRelayDatagram (p : Fin 4) (mac : Nat) (ip : IpInfo) (payload : List Byte) (msg : Option SessMsg)
  /-- IMAGE_FRAME (R369). -/
  | imageFrame (q : Fin 2) (f : FlueFrameIn) (writeOk : Bool)
  /-- TPIN (R290). -/
  | tpin (rising : Bool)
  /-- UPSTREAM_FRAME (R298). -/
  | upstreamFrame (frame : Option (List Byte))
  /-- DOWNSTREAM_FRAME (R297). -/
  | downstreamFrame (arrives : Bool)
  /-- BARRIER_RELEASE (R299). -/
  | barrierRelease (side : BarrierSide)
  /-- FI_EDGE (R301). -/
  | fiEdge (n : Fin 32) (level : Bool) (slot : Fin 80)
  /-- FO_OVERCURRENT (R305). -/
  | foOvercurrent (n : Fin 16)
  /-- FO_SHORT (R305). -/
  | foShort (n : Fin 16)
  /-- FO_OPEN (R305). -/
  | foOpen (n : Fin 16) (present : Bool)
  /-- FO_OVERTEMP (R305). -/
  | foOvertemp (n : Fin 16)
  /-- FO_FAULT_CLEAR (R305). -/
  | foFaultClear (n : Fin 16) (mask : Word)
  /-- VF_WARN (R308). -/
  | vfWarn (mv : Nat)
  /-- VFIELD_NORMAL (R308). -/
  | vfieldNormal (mv : Nat)
  /-- VF_CUT (R308). -/
  | vfCut (mv : Nat)
  /-- VFIELD_RESTORE (R308). -/
  | vfieldRestore (mv : Nat)
  /-- VF_OVER (R308). -/
  | vfOver (mv : Nat)
  /-- AI_CONVERSION (R309). -/
  | aiConversion (codes : Arr 16 Nat)
  /-- AI_FLAG (R311). -/
  | aiFlag (n : Fin 16) (c : AiCond)
  /-- AI_FLAG_CLEAR (R311). -/
  | aiFlagClear (n : Fin 16) (c : AiCond)
  /-- BURDEN_OPEN (R311). -/
  | burdenOpen (n : Fin 16)
  /-- BURDEN_RECONNECT (R311). -/
  | burdenReconnect (n : Fin 16)
  /-- SS_OC (R313). -/
  | ssOc (n : Fin 8)
  /-- SENSOR_SUPPLY_CONTROL (R313). -/
  | sensorSupplyControl (w : Word)
  /-- LS_SHORT (R320). -/
  | lsShort (n : Fin 16)
  /-- OVERLOAD (R320). -/
  | overload (n : Fin 16)
  /-- LS_OVERTEMP (R322). -/
  | lsOvertemp (n : Fin 16)
  /-- LS_OPEN (R320). -/
  | lsOpen (n : Fin 16) (present : Bool)
  /-- RETRY_WAIT_END (R321). -/
  | retryWaitEnd (n : Fin 16)
  /-- RETRY_COUNTER_RESET (R321). -/
  | retryCounterReset (n : Fin 16)
  /-- THERMAL_RELEASE (R322). -/
  | thermalRelease (n : Fin 16)
  /-- LSW_FAULT_CLEAR (R322). -/
  | lswFaultClear (n : Fin 16) (mask : Word)
  /-- LIMP_ENTRY (R327). -/
  | limpEntry (inputs : Nat)
  /-- LIMP_INPUT_CHANGE (R327). -/
  | limpInputChange (inputs : Nat)
  /-- CONTROLLER_ENABLE (R332). -/
  | controllerEnable (c : Fin 4) (w : Word)
  /-- CONTROLLER_DISABLE (R332). -/
  | controllerDisable (c : Fin 4) (w : Word)
  /-- BUS_INTEGRATION (R332). -/
  | busIntegration (c : Fin 4)
  /-- FRAME_RECEIVED (R337). -/
  | frameReceived (c : Fin 4) (f : CanFrame)
  /-- TX_REQ (R340). -/
  | txReq (c : Fin 4) (i : Fin 128)
  /-- TX_ABORT (R341). -/
  | txAbort (c : Fin 4) (i : Fin 128) (own : Bool)
  /-- TRANSMISSION_DONE (R341). -/
  | transmissionDone (c : Fin 4)
  /-- FAILED_ATTEMPT (R341). -/
  | failedAttempt (c : Fin 4) (k : CanFail)
  /-- RECOVER (R344). -/
  | recover (c : Fin 4)
  /-- RECOVERY_DONE (R344). -/
  | recoveryDone (c : Fin 4)
  /-- TUNNEL_READ (R348). -/
  | tunnelRead (c : Fin 4)
  /-- TUNNEL_WRITE (R348). -/
  | tunnelWrite (c : Fin 4)
  /-- TUNNEL_ENABLE (R349). -/
  | tunnelEnable (c : Fin 4) (w : Word)
  /-- ASH_READ (R356). -/
  | ashRead (i : Initiator) (seq : Word)
  /-- APPLICATION_POST (R357). -/
  | applicationPost (i : Initiator) (code : Nat)
  /-- ASH_CLEAR (R358). -/
  | ashClear (i : Initiator) (key : Nat)
  /-- LIFECYCLE (R363). -/
  | lifecycle (n : Fin 8) (r : LcReq)
  /-- KEY_ENROLMENT (R365). -/
  | keyEnrolment (n : Fin 8) (r : EnrolRec)
  /-- KEY_REVOCATION (R365). -/
  | keyRevocation (n : Fin 8) (r : EnrolRec)
  /-- BEGIN (R368). -/
  | begin_ (n : Fin 8) (bs : List Byte)
  /-- BLOCK (R368). -/
  | block (n : Fin 8) (off : Nat) (bs : List Byte) (writeOk : Bool)
  /-- END (R368). -/
  | end_ (n : Fin 8)
  /-- ABORT (R368). -/
  | abort (n : Fin 8)
  /-- ACTIVATE (R370). -/
  | activate (i : Initiator) (force : Bool) (disarm : Bool) (sigOk : Bool) (readbackOk : Bool)
  /-- ACTIVATION_PAUSE (R371). -/
  | activationPause (fwSame : Bool)
  /-- CONFIRM (R378). -/
  | confirm (i : Initiator)
  /-- ROLLBACK (R378). -/
  | rollback (i : Initiator)
  /-- KINDLING_BOOT (R375). -/
  | kindlingBoot (v : BootSeen)
  /-- VBAT_VALID (R380). -/
  | vbatValid (mv : Nat) (v : BootSeen)
  /-- ARM (R382). -/
  | arm (i : Initiator)
  /-- DISARM (R383). -/
  | disarm (i : Initiator)
  /-- VBAT_WARN (R386). -/
  | vbatWarn (mv : Nat)
  /-- VBAT_OK (R386). -/
  | vbatOk (mv : Nat)
  /-- VBAT_LOW (R387). -/
  | vbatLow (mv : Nat)
  /-- VBAT_OV (R385). -/
  | vbatOv (mv : Nat)
  /-- RESET (R389). -/
  | reset (i : Initiator)
  /-- DIE_HOT (R391). -/
  | dieHot (temp : Int)
  /-- THERMAL (R391). -/
  | thermal (temp : Int)
  /-- RESET_RELEASE (R414). -/
  | resetRelease (v : BootSeen)
  /-- SLEEP (R392). -/
  | sleep (i : Initiator)
  /-- WAKE (R393). -/
  | wake (src : Nat) (v : BootSeen)
  /-- NAND_REFRESH (R395). -/
  | nandRefresh (p : NandPage)
  /-- DRAM_SCRUB (R396). -/
  | dramScrub (dram : Nat) (sram : Nat)
  /-- FLUE_FRAME_DISCARD (R274). -/
  | flueFrameDiscard (q : Fin 2) (k : FlueBad)
  /-- ERROR_FRAME (R343). -/
  | errorFrame (c : Fin 4) (primary : Bool)
  /-- VLS_OC_CLEAR (R320). -/
  | vlsOcClear (mask : Word)
  /-- SS_OC_CLEAR (R313). -/
  | ssOcClear (mask : Word)
  /-- FULL_END (R192). -/
  | fullEnd (i : Fin 2) (mv : Nat)
  /-- CONVERTER_STOP (R193). -/
  | converterStop (i : Fin 2) (vsol : Nat)
  /-- DIE_OT_END (R200). -/
  | dieOtEnd (d : DieSite)
  /-- STRUCTURE_SWAP (R42). -/
  | structureSwap
  /-- CHECK (R48). -/
  | check
  /-- FIRE (R98). -/
  | fire
  /-- OPEN (R98). -/
  | openEv
  /-- CLOSE (R98). -/
  | closeEv
  /-- LEVEL (R98). -/
  | level
  /-- SETPT (R100). -/
  | setpt
  /-- MARK (R101). -/
  | mark
  /-- CANCEL (R106). -/
  | cancel
  /-- REPLACE (R107). -/
  | replace
  /-- FENCE (R113). -/
  | fence
  /-- EVENT_FILING (R160). -/
  | eventFiling
  /-- UPDATE (R147). -/
  | update
  /-- COMMIT (R132). -/
  | commit
  /-- EDGE_EXECUTION (R112). -/
  | edgeExecution
  /-- MARK_INSTANT (R101). -/
  | markInstant
  /-- DELAY_TABLE_SAVE (R176). -/
  | delayTableSave
  /-- COVERAGE_EVALUATION (R216). -/
  | coverageEvaluation
  /-- TILE_FETCH (R214). -/
  | tileFetch
  /-- TILE_WRITE_BACK (R214). -/
  | tileWriteBack
  /-- NEW_JOB (R225). -/
  | newJob
  /-- JOB_CONFIRM (R225). -/
  | jobConfirm
  /-- CLOSE_JOB (R225). -/
  | closeJob
  /-- ARCHIVE (R226). -/
  | archive
  /-- PERIODIC_ARCHIVE (R226). -/
  | periodicArchive
  /-- RESTORE (R225). -/
  | restore
  /-- ARCH_DONE (R226). -/
  | archDone
  /-- LOOP_SAMPLE (R229). -/
  | loopSample
  /-- TRACE_START (R245). -/
  | traceStart
  /-- TRACE_STOP (R245). -/
  | traceStop
  /-- INJ_START (R246). -/
  | injStart
  /-- INJ_STOP (R246). -/
  | injStop
  /-- ANTENNA_BIAS_RETRY (R250). -/
  | antennaBiasRetry
  /-- TIME_HOLDOVER (R269). -/
  | timeHoldover
  /-- TIME_FREE (R269). -/
  | timeFree
  /-- SLEW_DONE (R271). -/
  | slewDone
  /-- TIME_PULSE (R268). -/
  | timePulse
  /-- BURST_START (R259). -/
  | burstStart
  /-- BURST_END (R259). -/
  | burstEnd
  /-- GNSS_RESTART (R252). -/
  | gnssRestart
  /-- CLEAR_NAV (R266). -/
  | clearNav
  /-- SAVE_NAV (R266). -/
  | saveNav
  /-- NAV_PERIODIC_SAVE (R266). -/
  | navPeriodicSave
  /-- TIME_FRAME_SEND (R275). -/
  | timeFrameSend
  /-- DUP_ID_CLEAR (R280). -/
  | dupIdClear
  /-- ROUTE_EXPIRY (R281). -/
  | routeExpiry
  /-- GAP_PLACEMENT (R277). -/
  | gapPlacement
  /-- PLACE_GAP (R277). -/
  | placeGap
  /-- MASTER_LOST (R283). -/
  | masterLost
  /-- MASTER_TAKEOVER (R283). -/
  | masterTakeover
  /-- POSITION_ENUMERATION (R279). -/
  | positionEnumeration
  /-- RENUMBER (R279). -/
  | renumber
  /-- FIELD_BARRIER_FAULT (R299). -/
  | fieldBarrierFault
  /-- LOGIC_BARRIER_FAULT (R299). -/
  | logicBarrierFault
  /-- FO_RELEASED (R308). -/
  | foReleased
  /-- ACK_RELEASE (R308). -/
  | ackRelease
  /-- VLS_UV (R320). -/
  | vlsUv
  /-- VLS_UV_RELEASE (R320). -/
  | vlsUvRelease
  /-- VLS_OC (R320). -/
  | vlsOc
  /-- LIMP_EXIT (R327). -/
  | limpExit
  /-- CLEARING (R360). -/
  | clearing
  /-- WARM_RESTART (R371). -/
  | warmRestart
  /-- BOOT_WATCHDOG (R374). -/
  | bootWatchdog
  /-- SETTINGS_RESTORE (R381). -/
  | settingsRestore
  /-- ARM_WD_KICK (R384). -/
  | armWdKick
  /-- WD_DISARM (R384). -/
  | wdDisarm
  /-- FIRMWARE_WATCHDOG (R389). -/
  | firmwareWatchdog
  /-- DEBUG_RESET (R389). -/
  | debugReset
  /-- WAKE_FOLLOW_SLEEP (R392). -/
  | wakeFollowSleep
  /-- POWER_ON (R46). -/
  | powerOn
  /-- PD0_LOST (R387). -/
  | pd0Lost
  /-- DEBUG_CONNECTION_RESET (R16). -/
  | debugConnectionReset
  deriving DecidableEq, Repr

end Sys2Proof
end

