-- ==== Sys2Proof/Config.lean ====
section
/-! DEFINITION. The free values: what the manual leaves open and no definition of the model fixes. Nothing is known of
them; a claim about them holds whatever they are. -/

namespace Sys2Proof.Config

/-- A value that the manual states no result for, or that a secret or an unmodelled source decides: the n-th one
handed out (log entry 3). -/
opaque freeValue : Nat → Nat

/-- What the SEC AES engine recovers of a package's structure component, from the package header and the component as received:
the plain image, or nothing when ST_TAG or the wrapped key does not hold. It depends on the keys KT and KD, which the module never
exports (R365, R367; log entry 64). -/
opaque openStructure : List Byte → List Byte → Option (List Byte)

end Sys2Proof.Config
end

