-- ==== Sys2Proof/Machine/Bits.lean ====
section
/-! DEFINITION. Bit fields, byte order, rounding and saturation: the numeric helpers every family uses
(R5, R6 and the rounding rules of each chapter). -/

namespace Sys2Proof.Machine

/-- Bits `[h:l]` of a number. -/
def bits (w : Nat) (h l : Nat) : Nat := (w >>> l) % 2 ^ (h - l + 1)

/-- Bits `[h:l]` of a register word. -/
def fld (w : Word) (h l : Nat) : Nat := bits w.toNat h l

/-- Bit `i` of a register word. -/
def bit (w : Word) (i : Nat) : Bool := w.toNat.testBit i

/-- A flag as a number. -/
def b2n (b : Bool) : Nat := if b then 1 else 0

/-- A register word from a number, modulo 2^32. -/
def w32 (n : Nat) : Word := BitVec.ofNat 32 n

/-- A register word from an integer, modulo 2^32. -/
def wInt (i : Int) : Word := BitVec.ofInt 32 i

/-- The two's complement reading of an `n`-bit number (R5). -/
def sx (n : Nat) (x : Nat) : Int :=
  let y := x % 2 ^ n
  if y < 2 ^ (n - 1) then (y : Int) else (y : Int) - (2 ^ n : Nat)

/-- The signed reading of a register word. -/
def sWord (w : Word) : Int := sx 32 w.toNat

/-- The number formed by little-endian bytes (R6). -/
def leNat : List Byte → Nat
  | [] => 0
  | b :: bs => b.toNat + 256 * leNat bs

/-- `n` bytes of `x`, least significant first (R6). -/
def leBytes : Nat → Nat → List Byte
  | 0, _ => []
  | n + 1, x => BitVec.ofNat 8 x :: leBytes n (x / 256)

/-- The number formed by big-endian bytes. -/
def beNat (bs : List Byte) : Nat := leNat bs.reverse

/-- `n` bytes of `bs` from offset `o`; missing bytes read as 0. -/
def sliceAt (bs : List Byte) (o n : Nat) : List Byte :=
  let s := (bs.drop o).take n
  s ++ List.replicate (n - s.length) 0

/-- The little-endian number of `n` bytes at offset `o`. -/
def leAt (bs : List Byte) (o n : Nat) : Nat := leNat (sliceAt bs o n)

/-- Byte `o` of a list as a number; 0 past the end. -/
def byteAt (bs : List Byte) (o : Nat) : Nat := leAt bs o 1

/-- Integer division rounded to nearest, ties away from zero, for a positive divisor. -/
def rdiv (a : Int) (b : Nat) : Int :=
  if b = 0 then 0
  else if 0 ≤ a then ((2 * a.toNat + b) / (2 * b) : Nat)
  else -(((2 * (-a).toNat + b) / (2 * b) : Nat) : Int)

/-- Division of naturals rounded up. -/
def cdiv (a b : Nat) : Nat := if b = 0 then 0 else (a + b - 1) / b

/-- Clamp an integer between two bounds. -/
def clampI (lo hi x : Int) : Int := if x < lo then lo else if hi < x then hi else x

/-- Saturate to a signed 32-bit value. -/
def sat32 (x : Int) : Int := clampI (-(2 ^ 31)) (2 ^ 31 - 1) x

/-- Saturate an unsigned count to `n` bits. -/
def satU (n x : Nat) : Nat := if 2 ^ n - 1 < x then 2 ^ n - 1 else x

/-- DCLK ticks in one microsecond. -/
def usTicks : Nat := 400
/-- DCLK ticks in one millisecond. -/
def msTicks : Nat := 400000
/-- DCLK ticks in one second. -/
def secTicks : Nat := 400000000
/-- DCLK ticks in one Mantel cycle (R13). -/
def cycleTicks : Nat := 1000000

/-- Absolute value as a natural. -/
def absN (i : Int) : Nat := i.natAbs

/-- Whether bit `i` of a number is set. -/
def tb (x i : Nat) : Bool := x.testBit i

/-- A number with bit `i` set. -/
def setBitN (x i : Nat) : Nat := x ||| (1 <<< i)

/-- The number whose bit `i` is `f i`, for `i` below `n`. -/
def bitMap (n : Nat) (f : Nat → Bool) : Nat :=
  (List.range n).foldl (fun a i => if f i then a + 2 ^ i else a) 0

end Sys2Proof.Machine
end

