-- ==== Sys2Proof/Machine/RegMap.lean ====
section
/-! DEFINITION. The register map: every register of the seventeen blocks (R7 and each chapter's register table),
with the bits of each access code (R8), its Reset column (R12) and the shadow set it belongs to (R17). The offsets'
names follow the manual's register names. -/

namespace Sys2Proof.Machine

/-- Which kind of shadow set a register belongs to (R17); the axis and loop sets have one unit per axis or loop. -/
inductive ShadowKind where
  | none | axis | hob | ingest | learn | vdrv | cover | loop | gnss | flue | fio | lsw | pwr
  deriving DecidableEq, Repr

/-- The bits of a register under each access code of R8; bits under no code are RO or reserved. -/
structure AccBits where
  rw : Nat := 0
  rwp : Nat := 0
  w1c : Nat := 0
  w1s : Nat := 0
  wo : Nat := 0
  po : Nat := 0
  deriving DecidableEq, Repr

/-- One row of a register table: name, first offset, (stride, count) of each index, access, Reset value, shadow set. -/
structure RegDef where
  name : String
  base : Nat
  dims : List (Nat × Nat)
  acc : AccBits
  reset : Word
  shadow : ShadowKind
  deriving DecidableEq, Repr

namespace Reg

abbrev GRATE_STATUS : Nat := 0x100000
abbrev GRATE_ERR_LOC : Nat := 0x100004
abbrev GRATE_STRUCT_ID_LO : Nat := 0x100008
abbrev GRATE_STRUCT_ID_HI : Nat := 0x10000c
abbrev GRATE_GENERATION : Nat := 0x100010
abbrev GRATE_SWAP_COUNT : Nat := 0x100014
abbrev GRATE_INFO : Nat := 0x100018
abbrev GRATE_DIGEST (n : Nat) : Nat := 0x100020 + 0x4 * n
abbrev GRATE_TAG (n : Nat) : Nat := 0x100050 + 0x4 * n
abbrev GRATE_RETAIN : Nat := 0x100060
abbrev GRATE_ECC : Nat := 0x100064
abbrev GRATE_CAND_ADDR_LO : Nat := 0x100080
abbrev GRATE_CAND_ADDR_HI : Nat := 0x100084
abbrev GRATE_CAND_LEN : Nat := 0x100088
abbrev GRATE_CAND_CTL : Nat := 0x10008c
abbrev GRATE_CAND_RESULT : Nat := 0x100090
abbrev GRATE_INT_STATUS : Nat := 0x1000a0
abbrev GRATE_INT_EN : Nat := 0x1000a4
abbrev SYS_VENDOR : Nat := 0x0
abbrev SYS_PART : Nat := 0x4
abbrev SYS_SILICON : Nat := 0x8
abbrev SYS_FW_VERSION : Nat := 0xc
abbrev SYS_SERIAL_LO : Nat := 0x10
abbrev SYS_SERIAL_HI : Nat := 0x14
abbrev SYS_LIFECYCLE : Nat := 0x18
abbrev SYS_CAP0 : Nat := 0x20
abbrev SYS_CAP1 : Nat := 0x24
abbrev SYS_STATUS : Nat := 0x30
abbrev SYS_SESSIONS : Nat := 0x34
abbrev SYS_MT_LO : Nat := 0x40
abbrev SYS_MT_HI : Nat := 0x44
abbrev SYS_CYCLE : Nat := 0x48
abbrev SYS_BUSERR_ADDR : Nat := 0x50
abbrev SYS_BUSERR_INFO : Nat := 0x54
abbrev SYS_INT_STATUS : Nat := 0x80
abbrev SYS_INT_EN : Nat := 0x84
abbrev AXIS_STATES : Nat := 0x200000
abbrev AXIS_APPLY : Nat := 0x200004
abbrev AXIS_INT_STATUS : Nat := 0x200010
abbrev AXIS_INT_EN : Nat := 0x200014
abbrev AXIS_AX_SNAP_POS_LO (n : Nat) : Nat := 0x201000 + 0x100 * n
abbrev AXIS_AX_SNAP_POS_HI (n : Nat) : Nat := 0x201004 + 0x100 * n
abbrev AXIS_AX_SNAP_VEL_LO (n : Nat) : Nat := 0x201008 + 0x100 * n
abbrev AXIS_AX_SNAP_VEL_HI (n : Nat) : Nat := 0x20100c + 0x100 * n
abbrev AXIS_AX_SNAP_ACC_LO (n : Nat) : Nat := 0x201010 + 0x100 * n
abbrev AXIS_AX_SNAP_ACC_HI (n : Nat) : Nat := 0x201014 + 0x100 * n
abbrev AXIS_AX_SNAP_MT_LO (n : Nat) : Nat := 0x201018 + 0x100 * n
abbrev AXIS_AX_SNAP_MT_HI (n : Nat) : Nat := 0x20101c + 0x100 * n
abbrev AXIS_AX_SNAP_UPD_LO (n : Nat) : Nat := 0x201020 + 0x100 * n
abbrev AXIS_AX_SNAP_UPD_HI (n : Nat) : Nat := 0x201024 + 0x100 * n
abbrev AXIS_AX_SNAP_STAT (n : Nat) : Nat := 0x201028 + 0x100 * n
abbrev AXIS_AX_SNAP_REVS (n : Nat) : Nat := 0x20102c + 0x100 * n
abbrev AXIS_AX_CFG (n : Nat) : Nat := 0x201030 + 0x100 * n
abbrev AXIS_AX_SCALE (n : Nat) : Nat := 0x201034 + 0x100 * n
abbrev AXIS_AX_OFFSET_LO (n : Nat) : Nat := 0x201038 + 0x100 * n
abbrev AXIS_AX_OFFSET_HI (n : Nat) : Nat := 0x20103c + 0x100 * n
abbrev AXIS_AX_PULSE_SCALE (n : Nat) : Nat := 0x201040 + 0x100 * n
abbrev AXIS_AX_ACC_LIMIT (n : Nat) : Nat := 0x201044 + 0x100 * n
abbrev AXIS_AX_GATE (n : Nat) : Nat := 0x201048 + 0x100 * n
abbrev AXIS_AX_COAST (n : Nat) : Nat := 0x20104c + 0x100 * n
abbrev AXIS_AX_COAST_DIST (n : Nat) : Nat := 0x201050 + 0x100 * n
abbrev AXIS_AX_SRC_CFG (n : Nat) : Nat := 0x201054 + 0x100 * n
abbrev AXIS_AX_INDEX_CFG (n : Nat) : Nat := 0x201058 + 0x100 * n
abbrev AXIS_AX_INDEX_POS (n : Nat) : Nat := 0x20105c + 0x100 * n
abbrev AXIS_AX_BLEND_CFG (n : Nat) : Nat := 0x201060 + 0x100 * n
abbrev AXIS_AX_CMD (n : Nat) : Nat := 0x201064 + 0x100 * n
abbrev AXIS_AX_IDX_POS_LO (n : Nat) : Nat := 0x201068 + 0x100 * n
abbrev AXIS_AX_IDX_POS_HI (n : Nat) : Nat := 0x20106c + 0x100 * n
abbrev AXIS_AX_IDX_MT_LO (n : Nat) : Nat := 0x201070 + 0x100 * n
abbrev AXIS_AX_IDX_MT_HI (n : Nat) : Nat := 0x201074 + 0x100 * n
abbrev AXIS_AX_BLEND_SCALE (n : Nat) : Nat := 0x201078 + 0x100 * n
abbrev AXIS_AX_ERRCNT (n : Nat) : Nat := 0x20107c + 0x100 * n
abbrev AXIS_AX_REJOIN (n : Nat) : Nat := 0x201080 + 0x100 * n
abbrev AXIS_AX_EVT (n : Nat) : Nat := 0x201084 + 0x100 * n
abbrev AXIS_AX_EVT_EN (n : Nat) : Nat := 0x201088 + 0x100 * n
abbrev HOB_STATUS : Nat := 0x300000
abbrev HOB_APPLY : Nat := 0x300004
abbrev HOB_FILL : Nat := 0x300008
abbrev HOB_SHARED_FREE : Nat := 0x30000c
abbrev HOB_NEAR_FILL : Nat := 0x300010
abbrev HOB_LEAD_MAX : Nat := 0x300014
abbrev HOB_FILL_WM : Nat := 0x300018
abbrev HOB_COVER_RES : Nat := 0x30001c
abbrev HOB_COVER_USE : Nat := 0x300020
abbrev HOB_INT_STATUS : Nat := 0x300030
abbrev HOB_INT_EN : Nat := 0x300034
abbrev HOB_PUB_SEQ : Nat := 0x300040
abbrev HOB_PUB_PROMOTED : Nat := 0x300044
abbrev HOB_PUB_COMMITTED : Nat := 0x300048
abbrev HOB_PUB_MISSED : Nat := 0x30004c
abbrev HOB_PUB_LATE : Nat := 0x300050
abbrev HOB_PUB_FILL_MAX : Nat := 0x300054
abbrev HOB_PUB_NEAR_MAX : Nat := 0x300058
abbrev HOB_PUB_LAG_MAX : Nat := 0x30005c
abbrev HOB_AX_HORIZON (n : Nat) : Nat := 0x300100 + 0x4 * n
abbrev HOB_AX_PEND (n : Nat) : Nat := 0x300140 + 0x4 * n
abbrev HOB_RING_RES (n : Nat) : Nat := 0x301000 + 0x10 * n
abbrev HOB_RING_USE (n : Nat) : Nat := 0x301004 + 0x10 * n
abbrev HOB_RING_COMMITTED (n : Nat) : Nat := 0x301008 + 0x10 * n
abbrev HOB_CH_COMMIT (n : Nat) : Nat := 0x302000 + 0x4 * n
abbrev HOB_CH_QUEUE (n : Nat) : Nat := 0x302400 + 0x4 * n
abbrev INGEST_STATUS : Nat := 0x400000
abbrev INGEST_APPLY : Nat := 0x400004
abbrev INGEST_CFG : Nat := 0x400008
abbrev INGEST_UDP : Nat := 0x40000c
abbrev INGEST_TIMING : Nat := 0x400010
abbrev INGEST_CLASS_FLOOR (n : Nat) : Nat := 0x400020 + 0x4 * n
abbrev INGEST_INT_STATUS : Nat := 0x400040
abbrev INGEST_INT_EN : Nat := 0x400044
abbrev INGEST_PUB_SEQ : Nat := 0x400050
abbrev INGEST_PUB_EVENTS : Nat := 0x400054
abbrev INGEST_PUB_BATCHES : Nat := 0x400058
abbrev INGEST_PUB_REFUSED : Nat := 0x40005c
abbrev INGEST_PUB_PEAK : Nat := 0x400060
abbrev INGEST_PUB_NOTE_FILL : Nat := 0x400064
abbrev INGEST_PORT_CFG (n : Nat) : Nat := 0x400100 + 0x40 * n
abbrev INGEST_PORT_STATUS (n : Nat) : Nat := 0x400104 + 0x40 * n
abbrev INGEST_PORT_IP6 (n m : Nat) : Nat := 0x400108 + 0x40 * n + 0x4 * m
abbrev INGEST_PORT_MAC_LO (n : Nat) : Nat := 0x400118 + 0x40 * n
abbrev INGEST_PORT_MAC_HI (n : Nat) : Nat := 0x40011c + 0x40 * n
abbrev INGEST_PORT_RX_BATCH (n : Nat) : Nat := 0x400120 + 0x40 * n
abbrev INGEST_PORT_RX_DROP (n : Nat) : Nat := 0x400124 + 0x40 * n
abbrev INGEST_PORT_TX_FRAMES (n : Nat) : Nat := 0x400128 + 0x40 * n
abbrev INGEST_RING_CFG (n : Nat) : Nat := 0x401000 + 0x40 * n
abbrev INGEST_RING_WINDOW (n : Nat) : Nat := 0x401004 + 0x40 * n
abbrev INGEST_RING_NOTE_HI (n : Nat) : Nat := 0x401008 + 0x40 * n
abbrev INGEST_RING_STATE (n : Nat) : Nat := 0x40100c + 0x40 * n
abbrev INGEST_RING_ACK_BSEQ (n : Nat) : Nat := 0x401010 + 0x40 * n
abbrev INGEST_RING_ACK_EV (n : Nat) : Nat := 0x401014 + 0x40 * n
abbrev INGEST_RING_EV_LIMIT (n : Nat) : Nat := 0x401018 + 0x40 * n
abbrev INGEST_RING_BACKLOG (n : Nat) : Nat := 0x40101c + 0x40 * n
abbrev INGEST_RING_NSEQ (n : Nat) : Nat := 0x401020 + 0x40 * n
abbrev INGEST_RING_REFUSED (n : Nat) : Nat := 0x401024 + 0x40 * n
abbrev INGEST_RING_CMD (n : Nat) : Nat := 0x401028 + 0x40 * n
abbrev LEARN_STATUS : Nat := 0x600000
abbrev LEARN_APPLY : Nat := 0x600004
abbrev LEARN_SAVE_CFG : Nat := 0x600008
abbrev LEARN_FP_CFG : Nat := 0x60000c
abbrev LEARN_INT_STATUS : Nat := 0x600010
abbrev LEARN_INT_EN : Nat := 0x600014
abbrev LEARN_PUB_SEQ : Nat := 0x600020
abbrev LEARN_PUB_VALID : Nat := 0x600024
abbrev LEARN_PUB_REJECT : Nat := 0x600028
abbrev LEARN_PUB_COLD : Nat := 0x60002c
abbrev LEARN_PF_DEF (n : Nat) : Nat := 0x600100 + 0x20 * n
abbrev LEARN_PF_EXTRA (n : Nat) : Nat := 0x600104 + 0x20 * n
abbrev LEARN_PF_BOUND_OPEN (n : Nat) : Nat := 0x600108 + 0x20 * n
abbrev LEARN_PF_BOUND_CLOSE (n : Nat) : Nat := 0x60010c + 0x20 * n
abbrev LEARN_PF_FILTER (n : Nat) : Nat := 0x600110 + 0x20 * n
abbrev LEARN_PF_DETECT (n : Nat) : Nat := 0x600114 + 0x20 * n
abbrev LEARN_PF_SUPPLY (n : Nat) : Nat := 0x600118 + 0x20 * n
abbrev LEARN_PF_PROBE (n : Nat) : Nat := 0x60011c + 0x20 * n
abbrev LEARN_CH_STATE (n : Nat) : Nat := 0x601000 + 0x40 * n
abbrev LEARN_CH_EST_OPEN (n : Nat) : Nat := 0x601004 + 0x40 * n
abbrev LEARN_CH_EST_CLOSE (n : Nat) : Nat := 0x601008 + 0x40 * n
abbrev LEARN_CH_LAST_OPEN (n : Nat) : Nat := 0x60100c + 0x40 * n
abbrev LEARN_CH_LAST_CLOSE (n : Nat) : Nat := 0x601010 + 0x40 * n
abbrev LEARN_CH_FP_R (n : Nat) : Nat := 0x601014 + 0x40 * n
abbrev LEARN_CH_FP_L (n : Nat) : Nat := 0x601018 + 0x40 * n
abbrev LEARN_CH_COUNTS (n : Nat) : Nat := 0x60101c + 0x40 * n
abbrev LEARN_CH_CFG (n : Nat) : Nat := 0x601020 + 0x40 * n
abbrev LEARN_CH_MAN_OPEN (n : Nat) : Nat := 0x601024 + 0x40 * n
abbrev LEARN_CH_MAN_CLOSE (n : Nat) : Nat := 0x601028 + 0x40 * n
abbrev LEARN_CH_CMD (n : Nat) : Nat := 0x60102c + 0x40 * n
abbrev VDRV_STATUS : Nat := 0x500000
abbrev VDRV_APPLY : Nat := 0x500004
abbrev VDRV_INT_STATUS : Nat := 0x500010
abbrev VDRV_INT_EN : Nat := 0x500014
abbrev VDRV_PUB_SEQ : Nat := 0x500020
abbrev VDRV_PUB_ACTUATIONS : Nat := 0x500024
abbrev VDRV_PUB_SKIPPED : Nat := 0x500028
abbrev VDRV_PUB_WAIT_MAX : Nat := 0x50002c
abbrev VDRV_PUB_BOOST (n : Nat) : Nat := 0x500030 + 0x4 * n
abbrev VDRV_PUB_RETURN (n : Nat) : Nat := 0x500038 + 0x4 * n
abbrev VDRV_PUB_CLAMP (n : Nat) : Nat := 0x500040 + 0x4 * n
abbrev VDRV_SUP_CFG (n : Nat) : Nat := 0x500100 + 0x20 * n
abbrev VDRV_SUP_WARN (n : Nat) : Nat := 0x500104 + 0x20 * n
abbrev VDRV_SUP_STATUS (n : Nat) : Nat := 0x500108 + 0x20 * n
abbrev VDRV_SUP_LOAD (n : Nat) : Nat := 0x50010c + 0x20 * n
abbrev VDRV_BW_CFG (n : Nat) : Nat := 0x500200 + 0x20 * n
abbrev VDRV_BW_STATUS (n : Nat) : Nat := 0x500204 + 0x20 * n
abbrev VDRV_BW_INPUT (n : Nat) : Nat := 0x500208 + 0x20 * n
abbrev VDRV_BANK_STATUS (n : Nat) : Nat := 0x500400 + 0x10 * n
abbrev VDRV_BANK_WAITS (n : Nat) : Nat := 0x500404 + 0x10 * n
abbrev VDRV_PF_TIME (n : Nat) : Nat := 0x501000 + 0x20 * n
abbrev VDRV_PF_CURRENT (n : Nat) : Nat := 0x501004 + 0x20 * n
abbrev VDRV_PF_CHOP (n : Nat) : Nat := 0x501008 + 0x20 * n
abbrev VDRV_PF_MODE (n : Nat) : Nat := 0x50100c + 0x20 * n
abbrev VDRV_PF_PWM (n : Nat) : Nat := 0x501010 + 0x20 * n
abbrev VDRV_PF_DUTY (n : Nat) : Nat := 0x501014 + 0x20 * n
abbrev VDRV_CH_STATUS (n : Nat) : Nat := 0x502000 + 0x20 * n
abbrev VDRV_CH_CURRENT (n : Nat) : Nat := 0x502004 + 0x20 * n
abbrev VDRV_CH_DUTY_ACC (n : Nat) : Nat := 0x502008 + 0x20 * n
abbrev VDRV_CH_COUNT (n : Nat) : Nat := 0x50200c + 0x20 * n
abbrev VDRV_CH_CFG (n : Nat) : Nat := 0x502010 + 0x20 * n
abbrev VDRV_CH_RESETPOL (n : Nat) : Nat := 0x502014 + 0x20 * n
abbrev VDRV_CH_FAULT (n : Nat) : Nat := 0x502018 + 0x20 * n
abbrev COVER_STATUS : Nat := 0x700000
abbrev COVER_APPLY : Nat := 0x700004
abbrev COVER_CTL : Nat := 0x700008
abbrev COVER_CELL : Nat := 0x70000c
abbrev COVER_LOOK : Nat := 0x700010
abbrev COVER_THRESH : Nat := 0x700014
abbrev COVER_RATE_K : Nat := 0x700018
abbrev COVER_RATE_CFG : Nat := 0x70001c
abbrev COVER_DUTY : Nat := 0x700020
abbrev COVER_MISC : Nat := 0x700024
abbrev COVER_PREFETCH : Nat := 0x700028
abbrev COVER_ARCH : Nat := 0x70002c
abbrev COVER_INT_STATUS : Nat := 0x700030
abbrev COVER_INT_EN : Nat := 0x700034
abbrev COVER_JOB_STATE : Nat := 0x700040
abbrev COVER_JOB_CMD : Nat := 0x700044
abbrev COVER_JOB_REQ_LO : Nat := 0x700048
abbrev COVER_JOB_REQ_HI : Nat := 0x70004c
abbrev COVER_JOB_ID_LO : Nat := 0x700050
abbrev COVER_JOB_ID_HI : Nat := 0x700054
abbrev COVER_ORIGIN_LAT : Nat := 0x700058
abbrev COVER_ORIGIN_LON : Nat := 0x70005c
abbrev COVER_TILE_ADDR_LO : Nat := 0x700080
abbrev COVER_TILE_ADDR_HI : Nat := 0x700084
abbrev COVER_TILE_XY : Nat := 0x700088
abbrev COVER_TILE_CMD : Nat := 0x70008c
abbrev COVER_TILE_RESULT : Nat := 0x700090
abbrev COVER_STORE : Nat := 0x700094
abbrev COVER_SNAP_MT_LO : Nat := 0x7000c0
abbrev COVER_SNAP_MT_HI : Nat := 0x7000c4
abbrev COVER_SNAP_S_LO : Nat := 0x7000c8
abbrev COVER_SNAP_S_HI : Nat := 0x7000cc
abbrev COVER_SNAP_E : Nat := 0x7000d0
abbrev COVER_SNAP_N : Nat := 0x7000d4
abbrev COVER_SNAP_HEADING : Nat := 0x7000d8
abbrev COVER_SNAP_CURV : Nat := 0x7000dc
abbrev COVER_PUB_SEQ : Nat := 0x700100
abbrev COVER_PUB_EMITTED : Nat := 0x700104
abbrev COVER_PUB_FIRED : Nat := 0x700108
abbrev COVER_PUB_MISSED : Nat := 0x70010c
abbrev COVER_PUB_CANCELLED : Nat := 0x700110
abbrev COVER_PUB_TOO_LATE : Nat := 0x700114
abbrev COVER_PUB_CACHE_MISS : Nat := 0x700118
abbrev COVER_PUB_MARK_LOST : Nat := 0x70011c
abbrev COVER_PUB_CLAIM_REFUSED : Nat := 0x700120
abbrev COVER_PUB_FLOW : Nat := 0x700124
abbrev COVER_SEC_POS (n : Nat) : Nat := 0x701000 + 0x10 * n
abbrev COVER_SEC_CFG (n : Nat) : Nat := 0x701004 + 0x10 * n
abbrev COVER_SEC_STATUS (n : Nat) : Nat := 0x701008 + 0x10 * n
abbrev COVER_SEC_COUNT (n : Nat) : Nat := 0x70100c + 0x10 * n
abbrev LOOP_ENABLED : Nat := 0x800000
abbrev LOOP_AUTO : Nat := 0x800004
abbrev LOOP_APPLY : Nat := 0x800008
abbrev LOOP_INT_STATUS : Nat := 0x800010
abbrev LOOP_INT_EN : Nat := 0x800014
abbrev LOOP_TRACE_CTL : Nat := 0x800100
abbrev LOOP_TRACE_LEVEL : Nat := 0x800104
abbrev LOOP_TRACE_STATUS : Nat := 0x800108
abbrev LOOP_TRACE_TRIG_MT_LO : Nat := 0x800110
abbrev LOOP_TRACE_TRIG_MT_HI : Nat := 0x800114
abbrev LOOP_TRACE_CH_SEL (n : Nat) : Nat := 0x800120 + 0x4 * n
abbrev LOOP_INJ_CTL : Nat := 0x800200
abbrev LOOP_INJ_CFG : Nat := 0x800204
abbrev LOOP_INJ_STATUS : Nat := 0x800208
abbrev LOOP_LP_STATUS (n : Nat) : Nat := 0x801000 + 0x100 * n
abbrev LOOP_LP_TARGET (n : Nat) : Nat := 0x801004 + 0x100 * n
abbrev LOOP_LP_REF (n : Nat) : Nat := 0x801008 + 0x100 * n
abbrev LOOP_LP_FB (n : Nat) : Nat := 0x80100c + 0x100 * n
abbrev LOOP_LP_OUT (n : Nat) : Nat := 0x801010 + 0x100 * n
abbrev LOOP_LP_INT (n : Nat) : Nat := 0x801014 + 0x100 * n
abbrev LOOP_LP_DERIV (n : Nat) : Nat := 0x801018 + 0x100 * n
abbrev LOOP_LP_SAMPLE_MT_LO (n : Nat) : Nat := 0x80101c + 0x100 * n
abbrev LOOP_LP_SAMPLE_MT_HI (n : Nat) : Nat := 0x801020 + 0x100 * n
abbrev LOOP_LP_FB_STAT (n : Nat) : Nat := 0x801024 + 0x100 * n
abbrev LOOP_LP_MODE (n : Nat) : Nat := 0x801028 + 0x100 * n
abbrev LOOP_LP_MAN_OUT (n : Nat) : Nat := 0x80102c + 0x100 * n
abbrev LOOP_LP_SP_MT (n : Nat) : Nat := 0x801030 + 0x100 * n
abbrev LOOP_LP_SP_VALUE (n : Nat) : Nat := 0x801034 + 0x100 * n
abbrev LOOP_LP_FB_SW_MT (n : Nat) : Nat := 0x801038 + 0x100 * n
abbrev LOOP_LP_FB_SW_VALUE (n : Nat) : Nat := 0x80103c + 0x100 * n
abbrev LOOP_LP_CFG (n : Nat) : Nat := 0x801040 + 0x100 * n
abbrev LOOP_LP_FB_GAIN (n : Nat) : Nat := 0x801044 + 0x100 * n
abbrev LOOP_LP_FB_CFG (n : Nat) : Nat := 0x801048 + 0x100 * n
abbrev LOOP_LP_FB_OFFSET (n : Nat) : Nat := 0x80104c + 0x100 * n
abbrev LOOP_LP_GEN_VMAX (n : Nat) : Nat := 0x801050 + 0x100 * n
abbrev LOOP_LP_GEN_AMAX (n : Nat) : Nat := 0x801054 + 0x100 * n
abbrev LOOP_LP_GEN_JMAX (n : Nat) : Nat := 0x801058 + 0x100 * n
abbrev LOOP_LP_OUT_CFG (n : Nat) : Nat := 0x80105c + 0x100 * n
abbrev LOOP_LP_INT_INIT (n : Nat) : Nat := 0x801060 + 0x100 * n
abbrev LOOP_LP_EVT (n : Nat) : Nat := 0x801064 + 0x100 * n
abbrev LOOP_LP_EVT_EN (n : Nat) : Nat := 0x801068 + 0x100 * n
abbrev LOOP_LP_CMD (n : Nat) : Nat := 0x80106c + 0x100 * n
abbrev LOOP_LP_BANKA_KP (n : Nat) : Nat := 0x801080 + 0x100 * n
abbrev LOOP_LP_BANKA_KI (n : Nat) : Nat := 0x801084 + 0x100 * n
abbrev LOOP_LP_BANKA_KD (n : Nat) : Nat := 0x801088 + 0x100 * n
abbrev LOOP_LP_BANKA_KF (n : Nat) : Nat := 0x80108c + 0x100 * n
abbrev LOOP_LP_BANKA_SHIFTS (n : Nat) : Nat := 0x801090 + 0x100 * n
abbrev LOOP_LP_BANKA_INT_MIN (n : Nat) : Nat := 0x801094 + 0x100 * n
abbrev LOOP_LP_BANKA_INT_MAX (n : Nat) : Nat := 0x801098 + 0x100 * n
abbrev LOOP_LP_BANKA_OUT_MIN (n : Nat) : Nat := 0x80109c + 0x100 * n
abbrev LOOP_LP_BANKA_OUT_MAX (n : Nat) : Nat := 0x8010a0 + 0x100 * n
abbrev LOOP_LP_BANKB_KP (n : Nat) : Nat := 0x8010c0 + 0x100 * n
abbrev LOOP_LP_BANKB_KI (n : Nat) : Nat := 0x8010c4 + 0x100 * n
abbrev LOOP_LP_BANKB_KD (n : Nat) : Nat := 0x8010c8 + 0x100 * n
abbrev LOOP_LP_BANKB_KF (n : Nat) : Nat := 0x8010cc + 0x100 * n
abbrev LOOP_LP_BANKB_SHIFTS (n : Nat) : Nat := 0x8010d0 + 0x100 * n
abbrev LOOP_LP_BANKB_INT_MIN (n : Nat) : Nat := 0x8010d4 + 0x100 * n
abbrev LOOP_LP_BANKB_INT_MAX (n : Nat) : Nat := 0x8010d8 + 0x100 * n
abbrev LOOP_LP_BANKB_OUT_MIN (n : Nat) : Nat := 0x8010dc + 0x100 * n
abbrev LOOP_LP_BANKB_OUT_MAX (n : Nat) : Nat := 0x8010e0 + 0x100 * n
abbrev LOOP_TRACE_DATA (n m : Nat) : Nat := 0x810000 + 0x4000 * n + 0x4 * m
abbrev LOOP_INJ_TABLE (n : Nat) : Nat := 0x840000 + 0x4 * n
abbrev LOOP_INJ_CAP (n : Nat) : Nat := 0x850000 + 0x4 * n
abbrev GNSS_STATUS : Nat := 0x900000
abbrev GNSS_CFG : Nat := 0x900004
abbrev GNSS_APPLY : Nat := 0x900008
abbrev GNSS_ANT : Nat := 0x90000c
abbrev GNSS_INT_STATUS : Nat := 0x900010
abbrev GNSS_INT_EN : Nat := 0x900014
abbrev GNSS_EPOCH_STATUS : Nat := 0x900018
abbrev GNSS_EPOCH_EN : Nat := 0x90001c
abbrev GNSS_LEVER : Nat := 0x900020
abbrev GNSS_DIR_CFG : Nat := 0x900024
abbrev GNSS_DIFF_CFG : Nat := 0x900028
abbrev GNSS_CHECK_CFG : Nat := 0x90002c
abbrev GNSS_CHECK_CFG2 : Nat := 0x900030
abbrev GNSS_CHECK_COUNT : Nat := 0x900034
abbrev GNSS_CMD : Nat := 0x900038
abbrev GNSS_TP_CFG : Nat := 0x90003c
abbrev GNSS_TP_MT_LO : Nat := 0x900040
abbrev GNSS_TP_MT_HI : Nat := 0x900044
abbrev GNSS_TP_TIME : Nat := 0x900048
abbrev GNSS_TP_UNC : Nat := 0x90004c
abbrev GNSS_TP_OFFSET : Nat := 0x900050
abbrev GNSS_TP_STATUS : Nat := 0x900054
abbrev GNSS_HOLD_CFG : Nat := 0x900058
abbrev GNSS_RTCM_WORD : Nat := 0x900060
abbrev GNSS_RTCM_BYTE : Nat := 0x900064
abbrev GNSS_RTCM_STATUS : Nat := 0x900068
abbrev GNSS_RTCM_COUNT : Nat := 0x90006c
abbrev GNSS_ISB (n : Nat) : Nat := 0x900070 + 0x4 * n
abbrev GNSS_PVT_SEQ : Nat := 0x900100
abbrev GNSS_PVT_MT_LO : Nat := 0x900104
abbrev GNSS_PVT_MT_HI : Nat := 0x900108
abbrev GNSS_PVT_FIX : Nat := 0x90010c
abbrev GNSS_PVT_LAT : Nat := 0x900110
abbrev GNSS_PVT_LON : Nat := 0x900114
abbrev GNSS_PVT_LATLON_HP : Nat := 0x900118
abbrev GNSS_PVT_HEIGHT : Nat := 0x90011c
abbrev GNSS_PVT_VEL (n : Nat) : Nat := 0x900120 + 0x4 * n
abbrev GNSS_PVT_SPEED : Nat := 0x90012c
abbrev GNSS_PVT_HEADING : Nat := 0x900130
abbrev GNSS_PVT_YAW_RATE : Nat := 0x900134
abbrev GNSS_PVT_PATH_INC : Nat := 0x900138
abbrev GNSS_PVT_ACC : Nat := 0x90013c
abbrev GNSS_PVT_DOP : Nat := 0x900140
abbrev GNSS_PVT_UTC_LO : Nat := 0x900144
abbrev GNSS_PVT_UTC_HI : Nat := 0x900148
abbrev GNSS_PVT_TIME_INFO : Nat := 0x90014c
abbrev GNSS_PVT_TOW : Nat := 0x900150
abbrev GNSS_PVT_CLK_DRIFT : Nat := 0x900154
abbrev GNSS_PVT_DIFF : Nat := 0x900158
abbrev GNSS_OBS_SEQ : Nat := 0x900200
abbrev GNSS_OBS_MT_LO : Nat := 0x900204
abbrev GNSS_OBS_MT_HI : Nat := 0x900208
abbrev GNSS_OBS_INFO : Nat := 0x90020c
abbrev GNSS_OBS_W (n m : Nat) : Nat := 0x900400 + 0x20 * n + 0x4 * m
abbrev GNSS_GC_CFG (n : Nat) : Nat := 0x901000 + 0x40 * n
abbrev GNSS_GC_CODE_RATE (n : Nat) : Nat := 0x901004 + 0x40 * n
abbrev GNSS_GC_CARR_RATE (n : Nat) : Nat := 0x901008 + 0x40 * n
abbrev GNSS_GC_START (n : Nat) : Nat := 0x90100c + 0x40 * n
abbrev GNSS_GC_STATUS (n : Nat) : Nat := 0x901010 + 0x40 * n
abbrev GNSS_GC_IE (n : Nat) : Nat := 0x901014 + 0x40 * n
abbrev GNSS_GC_QE (n : Nat) : Nat := 0x901018 + 0x40 * n
abbrev GNSS_GC_IP (n : Nat) : Nat := 0x90101c + 0x40 * n
abbrev GNSS_GC_QP (n : Nat) : Nat := 0x901020 + 0x40 * n
abbrev GNSS_GC_IL (n : Nat) : Nat := 0x901024 + 0x40 * n
abbrev GNSS_GC_QL (n : Nat) : Nat := 0x901028 + 0x40 * n
abbrev GNSS_GC_NAV (n : Nat) : Nat := 0x90102c + 0x40 * n
abbrev FLUE_STATUS : Nat := 0xa00000
abbrev FLUE_APPLY : Nat := 0xa00004
abbrev FLUE_CFG : Nat := 0xa00008
abbrev FLUE_NODE : Nat := 0xa0000c
abbrev FLUE_MASTER : Nat := 0xa00010
abbrev FLUE_TIME_STATUS : Nat := 0xa00014
abbrev FLUE_OFFSET : Nat := 0xa00018
abbrev FLUE_STEP_COUNT : Nat := 0xa0001c
abbrev FLUE_TIME_CFG : Nat := 0xa00020
abbrev FLUE_TP_CFG : Nat := 0xa00024
abbrev FLUE_TPIN_CFG : Nat := 0xa00028
abbrev FLUE_TPIN_MT_LO : Nat := 0xa0002c
abbrev FLUE_TPIN_MT_HI : Nat := 0xa00030
abbrev FLUE_MGMT_RELAY : Nat := 0xa00034
abbrev FLUE_NODES : Nat := 0xa00038
abbrev FLUE_RET_DROP : Nat := 0xa0003c
abbrev FLUE_INT_STATUS : Nat := 0xa00040
abbrev FLUE_INT_EN : Nat := 0xa00044
abbrev FLUE_CMD : Nat := 0xa00048
abbrev FLUE_ROUTE_QUERY : Nat := 0xa00050
abbrev FLUE_ROUTE_RESULT : Nat := 0xa00054
abbrev FLUE_PORT_STATUS (n : Nat) : Nat := 0xa00100 + 0x20 * n
abbrev FLUE_PORT_DELAY (n : Nat) : Nat := 0xa00104 + 0x20 * n
abbrev FLUE_PORT_RX_FRAMES (n : Nat) : Nat := 0xa00108 + 0x20 * n
abbrev FLUE_PORT_RX_ERR (n : Nat) : Nat := 0xa0010c + 0x20 * n
abbrev FLUE_PORT_TX_FRAMES (n : Nat) : Nat := 0xa00110 + 0x20 * n
abbrev FLUE_PORT_DROP (n : Nat) : Nat := 0xa00114 + 0x20 * n
abbrev FIO_STATUS : Nat := 0xb00000
abbrev FIO_APPLY : Nat := 0xb00004
abbrev FIO_CFG : Nat := 0xb00008
abbrev FIO_CMD : Nat := 0xb0000c
abbrev FIO_INT_STATUS : Nat := 0xb00010
abbrev FIO_INT_EN : Nat := 0xb00014
abbrev FIO_VFIELD : Nat := 0xb00018
abbrev FIO_BARRIER : Nat := 0xb0001c
abbrev FIO_FI_LEVEL : Nat := 0xb00020
abbrev FIO_FI_QUAL : Nat := 0xb00024
abbrev FIO_FO_STATE : Nat := 0xb00028
abbrev FIO_AI_OPEN : Nat := 0xb0002c
abbrev FIO_SS_CTL : Nat := 0xb00030
abbrev FIO_SS_STATUS : Nat := 0xb00034
abbrev FIO_SS_FAULT : Nat := 0xb00038
abbrev FIO_AI_MT_LO : Nat := 0xb00040
abbrev FIO_AI_MT_HI : Nat := 0xb00044
abbrev FIO_AI_DATA (n : Nat) : Nat := 0xb00048 + 0x4 * n
abbrev FIO_FI_CFG (n : Nat) : Nat := 0xb00100 + 0x10 * n
abbrev FIO_FI_COUNT (n : Nat) : Nat := 0xb00104 + 0x10 * n
abbrev FIO_FI_PERIOD (n : Nat) : Nat := 0xb00108 + 0x10 * n
abbrev FIO_FO_CFG (n : Nat) : Nat := 0xb00400 + 0x10 * n
abbrev FIO_FO_STATUS (n : Nat) : Nat := 0xb00404 + 0x10 * n
abbrev FIO_FO_RESETPOL (n : Nat) : Nat := 0xb00408 + 0x10 * n
abbrev FIO_FO_FAULT (n : Nat) : Nat := 0xb0040c + 0x10 * n
abbrev FIO_AI_CFG (n : Nat) : Nat := 0xb00600 + 0x10 * n
abbrev FIO_AI_FLAGS (n : Nat) : Nat := 0xb00604 + 0x10 * n
abbrev LSW_STATUS : Nat := 0xc00000
abbrev LSW_APPLY : Nat := 0xc00004
abbrev LSW_VLS : Nat := 0xc00008
abbrev LSW_SUP_FAULT : Nat := 0xc0000c
abbrev LSW_INT_STATUS : Nat := 0xc00010
abbrev LSW_INT_EN : Nat := 0xc00014
abbrev LSW_LIMP_STATUS : Nat := 0xc00020
abbrev LSW_BRIDGE_CFG (n : Nat) : Nat := 0xc00040 + 0x4 * n
abbrev LSW_CH_CFG (n : Nat) : Nat := 0xc01000 + 0x20 * n
abbrev LSW_CH_PROT (n : Nat) : Nat := 0xc01004 + 0x20 * n
abbrev LSW_CH_STATUS (n : Nat) : Nat := 0xc01008 + 0x20 * n
abbrev LSW_CH_CURRENT (n : Nat) : Nat := 0xc0100c + 0x20 * n
abbrev LSW_CH_TEMP (n : Nat) : Nat := 0xc01010 + 0x20 * n
abbrev LSW_CH_RESETPOL (n : Nat) : Nat := 0xc01014 + 0x20 * n
abbrev LSW_CH_FAULT (n : Nat) : Nat := 0xc01018 + 0x20 * n
abbrev LSW_CH_COUNT (n : Nat) : Nat := 0xc0101c + 0x20 * n
abbrev CAN_CN_CFG (n : Nat) : Nat := 0xd01000 + 0x100 * n
abbrev CAN_CN_NBT (n : Nat) : Nat := 0xd01004 + 0x100 * n
abbrev CAN_CN_DBT (n : Nat) : Nat := 0xd01008 + 0x100 * n
abbrev CAN_CN_TUN_REQ (n : Nat) : Nat := 0xd0100c + 0x100 * n
abbrev CAN_CN_TUN_RSP (n : Nat) : Nat := 0xd01010 + 0x100 * n
abbrev CAN_CN_STATUS (n : Nat) : Nat := 0xd01014 + 0x100 * n
abbrev CAN_CN_COUNT (n : Nat) : Nat := 0xd01018 + 0x100 * n
abbrev CAN_CN_CMD (n : Nat) : Nat := 0xd0101c + 0x100 * n
abbrev CAN_CN_INT_STATUS (n : Nat) : Nat := 0xd01020 + 0x100 * n
abbrev CAN_CN_INT_EN (n : Nat) : Nat := 0xd01024 + 0x100 * n
abbrev CAN_CN_NEW (n m : Nat) : Nat := 0xd01030 + 0x100 * n + 0x4 * m
abbrev CAN_OBJ_CFG (n m : Nat) : Nat := 0xd10000 + 0x10000 * n + 0x80 * m
abbrev CAN_OBJ_ID (n m : Nat) : Nat := 0xd10004 + 0x10000 * n + 0x80 * m
abbrev CAN_OBJ_MASK (n m : Nat) : Nat := 0xd10008 + 0x10000 * n + 0x80 * m
abbrev CAN_OBJ_STATUS (n m : Nat) : Nat := 0xd1000c + 0x10000 * n + 0x80 * m
abbrev CAN_OBJ_DATA (n m i : Nat) : Nat := 0xd10010 + 0x10000 * n + 0x80 * m + 0x4 * i
abbrev CAN_OBJ_RX_ID (n m : Nat) : Nat := 0xd10050 + 0x10000 * n + 0x80 * m
abbrev CAN_OBJ_FLAGS (n m : Nat) : Nat := 0xd10054 + 0x10000 * n + 0x80 * m
abbrev CAN_OBJ_CMD (n m : Nat) : Nat := 0xd10058 + 0x10000 * n + 0x80 * m
abbrev ASH_STATUS : Nat := 0xe00000
abbrev ASH_HEAD : Nat := 0xe00004
abbrev ASH_TAIL : Nat := 0xe00008
abbrev ASH_DROPPED : Nat := 0xe0000c
abbrev ASH_RD_SEQ : Nat := 0xe00010
abbrev ASH_RD_STATUS : Nat := 0xe00014
abbrev ASH_RD_DATA (n : Nat) : Nat := 0xe00020 + 0x4 * n
abbrev ASH_POST_CODE : Nat := 0xe00060
abbrev ASH_POST_DATA (n : Nat) : Nat := 0xe00064 + 0x4 * n
abbrev ASH_CLEAR : Nat := 0xe00090
abbrev ASH_CLEAR_RESULT : Nat := 0xe00094
abbrev ASH_INT_STATUS : Nat := 0xe000a0
abbrev ASH_INT_EN : Nat := 0xe000a4
abbrev SEC_STATUS : Nat := 0xf00000
abbrev SEC_BOOT : Nat := 0xf00004
abbrev SEC_SLOT_VERSION (n : Nat) : Nat := 0xf00010 + 0x4 * n
abbrev SEC_SLOT_ID (n : Nat) : Nat := 0xf00018 + 0x4 * n
abbrev SEC_FW_FLOOR : Nat := 0xf00020
abbrev SEC_STRUCT_FLOOR : Nat := 0xf00024
abbrev SEC_KEY_MAP : Nat := 0xf00028
abbrev SEC_CRED_MAP : Nat := 0xf0002c
abbrev SEC_CRED_PRIV : Nat := 0xf00030
abbrev SEC_DEL_ADDR_LO : Nat := 0xf00040
abbrev SEC_DEL_ADDR_HI : Nat := 0xf00044
abbrev SEC_DEL_OFFSET : Nat := 0xf00048
abbrev SEC_DEL_CMD : Nat := 0xf0004c
abbrev SEC_DEL_STATUS : Nat := 0xf00050
abbrev SEC_ACT_CTL : Nat := 0xf00060
abbrev SEC_ACT_STATUS : Nat := 0xf00064
abbrev SEC_CFG : Nat := 0xf00068
abbrev SEC_LC_NONCE (n : Nat) : Nat := 0xf00070 + 0x4 * n
abbrev SEC_INT_STATUS : Nat := 0xf00080
abbrev SEC_INT_EN : Nat := 0xf00084
abbrev SEC_LC_RESULT : Nat := 0xf00090
abbrev PWR_STATUS : Nat := 0x1000000
abbrev PWR_APPLY : Nat := 0x1000004
abbrev PWR_VBAT : Nat := 0x1000008
abbrev PWR_RESET_CAUSE : Nat := 0x100000c
abbrev PWR_BOOT_COUNT : Nat := 0x1000010
abbrev PWR_SECS : Nat := 0x1000014
abbrev PWR_SECS_BREAKS : Nat := 0x1000018
abbrev PWR_TEMP : Nat := 0x100001c
abbrev PWR_ARM : Nat := 0x1000020
abbrev PWR_ARM_STATUS : Nat := 0x1000024
abbrev PWR_ARM_WD : Nat := 0x1000028
abbrev PWR_ARM_WD_KICK : Nat := 0x100002c
abbrev PWR_CFG : Nat := 0x1000030
abbrev PWR_SLEEP_TIMER : Nat := 0x1000034
abbrev PWR_CMD : Nat := 0x1000038
abbrev PWR_CMD_RESULT : Nat := 0x100003c
abbrev PWR_DOMAINS : Nat := 0x1000040
abbrev PWR_ECC : Nat := 0x1000044
abbrev PWR_NAND : Nat := 0x1000048
abbrev PWR_INT_STATUS : Nat := 0x1000050
abbrev PWR_INT_EN : Nat := 0x1000054

end Reg

/-- Registers of the SYS block. -/
def regsSYS : List RegDef := [
  ⟨"SYS_VENDOR", 0x0, [], {}, 0x434e4c52, .none⟩,
  ⟨"SYS_PART", 0x4, [], {}, 0x11bd8, .none⟩,
  ⟨"SYS_SILICON", 0x8, [], {}, 0x101, .none⟩,
  ⟨"SYS_FW_VERSION", 0xc, [], {}, 0x0, .none⟩,
  ⟨"SYS_SERIAL_LO", 0x10, [], {}, 0x0, .none⟩,
  ⟨"SYS_SERIAL_HI", 0x14, [], {}, 0x0, .none⟩,
  ⟨"SYS_LIFECYCLE", 0x18, [], {}, 0x0, .none⟩,
  ⟨"SYS_CAP0", 0x20, [], {}, 0x10f10, .none⟩,
  ⟨"SYS_CAP1", 0x24, [], {}, 0x20401004, .none⟩,
  ⟨"SYS_STATUS", 0x30, [], {}, 0x0, .none⟩,
  ⟨"SYS_SESSIONS", 0x34, [], {}, 0x0, .none⟩,
  ⟨"SYS_MT_LO", 0x40, [], {}, 0x0, .none⟩,
  ⟨"SYS_MT_HI", 0x44, [], {}, 0x0, .none⟩,
  ⟨"SYS_CYCLE", 0x48, [], {}, 0x0, .none⟩,
  ⟨"SYS_BUSERR_ADDR", 0x50, [], {}, 0x0, .none⟩,
  ⟨"SYS_BUSERR_INFO", 0x54, [], {}, 0x0, .none⟩,
  ⟨"SYS_INT_STATUS", 0x80, [], {w1c := 0x1f}, 0x0, .none⟩,
  ⟨"SYS_INT_EN", 0x84, [], {rw := 0x1f}, 0x0, .none⟩]

/-- Registers of the GRATE block. -/
def regsGRATE : List RegDef := [
  ⟨"GRATE_STATUS", 0x100000, [], {}, 0x0, .none⟩,
  ⟨"GRATE_ERR_LOC", 0x100004, [], {}, 0x0, .none⟩,
  ⟨"GRATE_STRUCT_ID_LO", 0x100008, [], {}, 0x0, .none⟩,
  ⟨"GRATE_STRUCT_ID_HI", 0x10000c, [], {}, 0x0, .none⟩,
  ⟨"GRATE_GENERATION", 0x100010, [], {}, 0x0, .none⟩,
  ⟨"GRATE_SWAP_COUNT", 0x100014, [], {}, 0x0, .none⟩,
  ⟨"GRATE_INFO", 0x100018, [], {}, 0x0, .none⟩,
  ⟨"GRATE_DIGEST[0–11]", 0x100020, [(0x4, 12)], {}, 0x0, .none⟩,
  ⟨"GRATE_TAG[0–3]", 0x100050, [(0x4, 4)], {}, 0x0, .none⟩,
  ⟨"GRATE_RETAIN", 0x100060, [], {}, 0x0, .none⟩,
  ⟨"GRATE_ECC", 0x100064, [], {}, 0x0, .none⟩,
  ⟨"GRATE_CAND_ADDR_LO", 0x100080, [], {po := 0xffffffff}, 0x0, .none⟩,
  ⟨"GRATE_CAND_ADDR_HI", 0x100084, [], {po := 0xffffffff}, 0x0, .none⟩,
  ⟨"GRATE_CAND_LEN", 0x100088, [], {po := 0xffffffff}, 0x0, .none⟩,
  ⟨"GRATE_CAND_CTL", 0x10008c, [], {po := 0x1}, 0x0, .none⟩,
  ⟨"GRATE_CAND_RESULT", 0x100090, [], {po := 0x80ffffff}, 0x0, .none⟩,
  ⟨"GRATE_INT_STATUS", 0x1000a0, [], {w1c := 0xf}, 0x0, .none⟩,
  ⟨"GRATE_INT_EN", 0x1000a4, [], {rw := 0xf}, 0x0, .none⟩]

/-- Registers of the AXIS block. -/
def regsAXIS : List RegDef := [
  ⟨"AXIS_STATES", 0x200000, [], {}, 0x0, .none⟩,
  ⟨"AXIS_APPLY", 0x200004, [], {w1s := 0x7fff}, 0x0, .none⟩,
  ⟨"AXIS_INT_STATUS", 0x200010, [], {}, 0x0, .none⟩,
  ⟨"AXIS_INT_EN", 0x200014, [], {rw := 0x7fff}, 0x0, .none⟩,
  ⟨"AXIS_AX[n]_SNAP_POS_LO", 0x201000, [(0x100, 15)], {}, 0x0, .none⟩,
  ⟨"AXIS_AX[n]_SNAP_POS_HI", 0x201004, [(0x100, 15)], {}, 0x0, .none⟩,
  ⟨"AXIS_AX[n]_SNAP_VEL_LO", 0x201008, [(0x100, 15)], {}, 0x0, .none⟩,
  ⟨"AXIS_AX[n]_SNAP_VEL_HI", 0x20100c, [(0x100, 15)], {}, 0x0, .none⟩,
  ⟨"AXIS_AX[n]_SNAP_ACC_LO", 0x201010, [(0x100, 15)], {}, 0x0, .none⟩,
  ⟨"AXIS_AX[n]_SNAP_ACC_HI", 0x201014, [(0x100, 15)], {}, 0x0, .none⟩,
  ⟨"AXIS_AX[n]_SNAP_MT_LO", 0x201018, [(0x100, 15)], {}, 0x0, .none⟩,
  ⟨"AXIS_AX[n]_SNAP_MT_HI", 0x20101c, [(0x100, 15)], {}, 0x0, .none⟩,
  ⟨"AXIS_AX[n]_SNAP_UPD_LO", 0x201020, [(0x100, 15)], {}, 0x0, .none⟩,
  ⟨"AXIS_AX[n]_SNAP_UPD_HI", 0x201024, [(0x100, 15)], {}, 0x0, .none⟩,
  ⟨"AXIS_AX[n]_SNAP_STAT", 0x201028, [(0x100, 15)], {}, 0x0, .none⟩,
  ⟨"AXIS_AX[n]_SNAP_REVS", 0x20102c, [(0x100, 15)], {}, 0x0, .none⟩,
  ⟨"AXIS_AX[n]_CFG", 0x201030, [(0x100, 15)], {rw := 0xfffff00}, 0x3f3200, .axis⟩,
  ⟨"AXIS_AX[n]_SCALE", 0x201034, [(0x100, 15)], {rw := 0xffffffff}, 0x100000, .axis⟩,
  ⟨"AXIS_AX[n]_OFFSET_LO", 0x201038, [(0x100, 15)], {rw := 0xffffffff}, 0x0, .axis⟩,
  ⟨"AXIS_AX[n]_OFFSET_HI", 0x20103c, [(0x100, 15)], {rw := 0xffffffff}, 0x0, .axis⟩,
  ⟨"AXIS_AX[n]_PULSE_SCALE", 0x201040, [(0x100, 15)], {rw := 0xffffffff}, 0x100000, .axis⟩,
  ⟨"AXIS_AX[n]_ACC_LIMIT", 0x201044, [(0x100, 15)], {rw := 0xffffffff}, 0xffffffff, .axis⟩,
  ⟨"AXIS_AX[n]_GATE", 0x201048, [(0x100, 15)], {rw := 0xffffffff}, 0x0, .axis⟩,
  ⟨"AXIS_AX[n]_COAST", 0x20104c, [(0x100, 15)], {rw := 0xffff0000}, 0x0, .axis⟩,
  ⟨"AXIS_AX[n]_COAST_DIST", 0x201050, [(0x100, 15)], {rw := 0xffffffff}, 0x0, .axis⟩,
  ⟨"AXIS_AX[n]_SRC_CFG", 0x201054, [(0x100, 15)], {rw := 0xfffcffff}, 0x420000a, .axis⟩,
  ⟨"AXIS_AX[n]_INDEX_CFG", 0x201058, [(0x100, 15)], {rw := 0xc000ffff}, 0x0, .axis⟩,
  ⟨"AXIS_AX[n]_INDEX_POS", 0x20105c, [(0x100, 15)], {rw := 0xffffffff}, 0x0, .axis⟩,
  ⟨"AXIS_AX[n]_BLEND_CFG", 0x201060, [(0x100, 15)], {rw := 0xffffffff}, 0x2414012c, .axis⟩,
  ⟨"AXIS_AX[n]_CMD", 0x201064, [(0x100, 15)], {wo := 0x7}, 0x0, .none⟩,
  ⟨"AXIS_AX[n]_IDX_POS_LO", 0x201068, [(0x100, 15)], {}, 0x0, .none⟩,
  ⟨"AXIS_AX[n]_IDX_POS_HI", 0x20106c, [(0x100, 15)], {}, 0x0, .none⟩,
  ⟨"AXIS_AX[n]_IDX_MT_LO", 0x201070, [(0x100, 15)], {}, 0x0, .none⟩,
  ⟨"AXIS_AX[n]_IDX_MT_HI", 0x201074, [(0x100, 15)], {}, 0x0, .none⟩,
  ⟨"AXIS_AX[n]_BLEND_SCALE", 0x201078, [(0x100, 15)], {}, 0x0, .none⟩,
  ⟨"AXIS_AX[n]_ERRCNT", 0x20107c, [(0x100, 15)], {}, 0x0, .none⟩,
  ⟨"AXIS_AX[n]_REJOIN", 0x201080, [(0x100, 15)], {}, 0x0, .none⟩,
  ⟨"AXIS_AX[n]_EVT", 0x201084, [(0x100, 15)], {w1c := 0xffff}, 0x0, .none⟩,
  ⟨"AXIS_AX[n]_EVT_EN", 0x201088, [(0x100, 15)], {rw := 0xffff}, 0x0, .none⟩]

/-- Registers of the HOB block. -/
def regsHOB : List RegDef := [
  ⟨"HOB_STATUS", 0x300000, [], {}, 0x0, .none⟩,
  ⟨"HOB_APPLY", 0x300004, [], {w1s := 0x1}, 0x0, .none⟩,
  ⟨"HOB_FILL", 0x300008, [], {}, 0x0, .none⟩,
  ⟨"HOB_SHARED_FREE", 0x30000c, [], {}, 0x200000, .none⟩,
  ⟨"HOB_NEAR_FILL", 0x300010, [], {}, 0x0, .none⟩,
  ⟨"HOB_LEAD_MAX", 0x300014, [], {}, 0x0, .none⟩,
  ⟨"HOB_FILL_WM", 0x300018, [], {rw := 0xffffffff}, 0x73336000, .hob⟩,
  ⟨"HOB_COVER_RES", 0x30001c, [], {rw := 0x3fffff}, 0x0, .hob⟩,
  ⟨"HOB_COVER_USE", 0x300020, [], {}, 0x0, .none⟩,
  ⟨"HOB_INT_STATUS", 0x300030, [], {w1c := 0x1ff}, 0x0, .none⟩,
  ⟨"HOB_INT_EN", 0x300034, [], {rw := 0x1ff}, 0x0, .none⟩,
  ⟨"HOB_PUB_SEQ", 0x300040, [], {}, 0x0, .none⟩,
  ⟨"HOB_PUB_PROMOTED", 0x300044, [], {}, 0x0, .none⟩,
  ⟨"HOB_PUB_COMMITTED", 0x300048, [], {}, 0x0, .none⟩,
  ⟨"HOB_PUB_MISSED", 0x30004c, [], {}, 0x0, .none⟩,
  ⟨"HOB_PUB_LATE", 0x300050, [], {}, 0x0, .none⟩,
  ⟨"HOB_PUB_FILL_MAX", 0x300054, [], {}, 0x0, .none⟩,
  ⟨"HOB_PUB_NEAR_MAX", 0x300058, [], {}, 0x0, .none⟩,
  ⟨"HOB_PUB_LAG_MAX", 0x30005c, [], {}, 0x0, .none⟩,
  ⟨"HOB_AX[n]_HORIZON", 0x300100, [(0x4, 16)], {rw := 0x3ff}, 0x50, .hob⟩,
  ⟨"HOB_AX[n]_PEND", 0x300140, [(0x4, 16)], {}, 0x0, .none⟩,
  ⟨"HOB_RING[n]_RES", 0x301000, [(0x10, 64)], {rw := 0x3fffff}, 0x0, .hob⟩,
  ⟨"HOB_RING[n]_USE", 0x301004, [(0x10, 64)], {}, 0x0, .none⟩,
  ⟨"HOB_RING[n]_COMMITTED", 0x301008, [(0x10, 64)], {}, 0x0, .none⟩,
  ⟨"HOB_CH[k]_COMMIT", 0x302000, [(0x4, 256)], {rw := 0x7ff}, 0xc8, .hob⟩,
  ⟨"HOB_CH[k]_QUEUE", 0x302400, [(0x4, 256)], {}, 0x0, .none⟩]

/-- Registers of the INGEST block. -/
def regsINGEST : List RegDef := [
  ⟨"INGEST_STATUS", 0x400000, [], {}, 0x0, .none⟩,
  ⟨"INGEST_APPLY", 0x400004, [], {w1s := 0x1}, 0x0, .none⟩,
  ⟨"INGEST_CFG", 0x400008, [], {rwp := 0xffff}, 0x88b5, .ingest⟩,
  ⟨"INGEST_UDP", 0x40000c, [], {rwp := 0xffff}, 0xc0a9, .ingest⟩,
  ⟨"INGEST_TIMING", 0x400010, [], {rw := 0xffffffff}, 0xa0a0064, .ingest⟩,
  ⟨"INGEST_CLASS[c]_FLOOR", 0x400020, [], {rw := 0xffff}, 0x700, .ingest⟩,
  ⟨"INGEST_CLASS[c]_FLOOR", 0x400024, [], {rw := 0xffff}, 0x600, .ingest⟩,
  ⟨"INGEST_CLASS[c]_FLOOR", 0x400028, [], {rw := 0xffff}, 0x500, .ingest⟩,
  ⟨"INGEST_CLASS[c]_FLOOR", 0x40002c, [], {rw := 0xffff}, 0x400, .ingest⟩,
  ⟨"INGEST_CLASS[c]_FLOOR", 0x400030, [], {rw := 0xffff}, 0x300, .ingest⟩,
  ⟨"INGEST_CLASS[c]_FLOOR", 0x400034, [], {rw := 0xffff}, 0x200, .ingest⟩,
  ⟨"INGEST_CLASS[c]_FLOOR", 0x400038, [], {rw := 0xffff}, 0x100, .ingest⟩,
  ⟨"INGEST_CLASS[c]_FLOOR", 0x40003c, [], {rw := 0xffff}, 0x0, .ingest⟩,
  ⟨"INGEST_INT_STATUS", 0x400040, [], {w1c := 0x1ff}, 0x0, .none⟩,
  ⟨"INGEST_INT_EN", 0x400044, [], {rw := 0x1ff}, 0x0, .none⟩,
  ⟨"INGEST_PUB_SEQ", 0x400050, [], {}, 0x0, .none⟩,
  ⟨"INGEST_PUB_EVENTS", 0x400054, [], {}, 0x0, .none⟩,
  ⟨"INGEST_PUB_BATCHES", 0x400058, [], {}, 0x0, .none⟩,
  ⟨"INGEST_PUB_REFUSED", 0x40005c, [], {}, 0x0, .none⟩,
  ⟨"INGEST_PUB_PEAK", 0x400060, [], {}, 0x0, .none⟩,
  ⟨"INGEST_PUB_NOTE_FILL", 0x400064, [], {}, 0x0, .none⟩,
  ⟨"INGEST_PORT[p]_CFG", 0x400100, [(0x40, 4)], {rwp := 0xfc000fff}, 0x98000000, .ingest⟩,
  ⟨"INGEST_PORT[p]_STATUS", 0x400104, [(0x40, 4)], {}, 0x0, .none⟩,
  ⟨"INGEST_PORT[p]_IP6[i]", 0x400108, [(0x40, 4), (0x4, 4)], {rwp := 0xffffffff}, 0x0, .ingest⟩,
  ⟨"INGEST_PORT[p]_MAC_LO", 0x400118, [(0x40, 4)], {}, 0x0, .none⟩,
  ⟨"INGEST_PORT[p]_MAC_HI", 0x40011c, [(0x40, 4)], {}, 0x0, .none⟩,
  ⟨"INGEST_PORT[p]_RX_BATCH", 0x400120, [(0x40, 4)], {}, 0x0, .none⟩,
  ⟨"INGEST_PORT[p]_RX_DROP", 0x400124, [(0x40, 4)], {}, 0x0, .none⟩,
  ⟨"INGEST_PORT[p]_TX_FRAMES", 0x400128, [(0x40, 4)], {}, 0x0, .none⟩,
  ⟨"INGEST_RING[n]_CFG", 0x401000, [(0x40, 64)], {rw := 0x3ff0017}, 0x580003, .ingest⟩,
  ⟨"INGEST_RING[n]_WINDOW", 0x401004, [(0x40, 64)], {rw := 0x1ffff}, 0x800, .ingest⟩,
  ⟨"INGEST_RING[n]_NOTE_HI", 0x401008, [(0x40, 64)], {rw := 0x7fff}, 0x2000, .ingest⟩,
  ⟨"INGEST_RING[n]_STATE", 0x40100c, [(0x40, 64)], {}, 0x0, .none⟩,
  ⟨"INGEST_RING[n]_ACK_BSEQ", 0x401010, [(0x40, 64)], {}, 0x0, .none⟩,
  ⟨"INGEST_RING[n]_ACK_EV", 0x401014, [(0x40, 64)], {}, 0x0, .none⟩,
  ⟨"INGEST_RING[n]_EV_LIMIT", 0x401018, [(0x40, 64)], {}, 0x0, .none⟩,
  ⟨"INGEST_RING[n]_BACKLOG", 0x40101c, [(0x40, 64)], {}, 0x0, .none⟩,
  ⟨"INGEST_RING[n]_NSEQ", 0x401020, [(0x40, 64)], {}, 0x1, .none⟩,
  ⟨"INGEST_RING[n]_REFUSED", 0x401024, [(0x40, 64)], {}, 0x0, .none⟩,
  ⟨"INGEST_RING[n]_CMD", 0x401028, [(0x40, 64)], {po := 0x3}, 0x0, .none⟩]

/-- Registers of the VDRV block. -/
def regsVDRV : List RegDef := [
  ⟨"VDRV_STATUS", 0x500000, [], {}, 0x0, .none⟩,
  ⟨"VDRV_APPLY", 0x500004, [], {w1s := 0x1}, 0x0, .none⟩,
  ⟨"VDRV_INT_STATUS", 0x500010, [], {w1c := 0xfff}, 0x0, .none⟩,
  ⟨"VDRV_INT_EN", 0x500014, [], {rw := 0xfff}, 0x0, .none⟩,
  ⟨"VDRV_PUB_SEQ", 0x500020, [], {}, 0x0, .none⟩,
  ⟨"VDRV_PUB_ACTUATIONS", 0x500024, [], {}, 0x0, .none⟩,
  ⟨"VDRV_PUB_SKIPPED", 0x500028, [], {}, 0x0, .none⟩,
  ⟨"VDRV_PUB_WAIT_MAX", 0x50002c, [], {}, 0x0, .none⟩,
  ⟨"VDRV_PUB_BOOST[i]", 0x500030, [(0x4, 2)], {}, 0x0, .none⟩,
  ⟨"VDRV_PUB_RETURN[i]", 0x500038, [(0x4, 2)], {}, 0x0, .none⟩,
  ⟨"VDRV_PUB_CLAMP[i]", 0x500040, [(0x4, 2)], {}, 0x0, .none⟩,
  ⟨"VDRV_SUP[i]_CFG", 0x500100, [(0x20, 2)], {rw := 0xff01ff}, 0x320190, .vdrv⟩,
  ⟨"VDRV_SUP[i]_WARN", 0x500104, [(0x20, 2)], {rw := 0x1ff}, 0x50, .vdrv⟩,
  ⟨"VDRV_SUP[i]_STATUS", 0x500108, [(0x20, 2)], {}, 0x0, .none⟩,
  ⟨"VDRV_SUP[i]_LOAD", 0x50010c, [(0x20, 2)], {}, 0x64, .none⟩,
  ⟨"VDRV_BW[i]_CFG", 0x500200, [(0x20, 2)], {rw := 0x80ff03ff}, 0x800c01e0, .vdrv⟩,
  ⟨"VDRV_BW[i]_STATUS", 0x500204, [(0x20, 2)], {}, 0x0, .none⟩,
  ⟨"VDRV_BW[i]_INPUT", 0x500208, [(0x20, 2)], {}, 0x0, .none⟩,
  ⟨"VDRV_BANK[b]_STATUS", 0x500400, [(0x10, 16)], {}, 0xff00, .none⟩,
  ⟨"VDRV_BANK[b]_WAITS", 0x500404, [(0x10, 16)], {}, 0x0, .none⟩,
  ⟨"VDRV_PF[n]_TIME", 0x501000, [(0x20, 16)], {rw := 0xffff03ff}, 0x3e80190, .vdrv⟩,
  ⟨"VDRV_PF[n]_CURRENT", 0x501004, [(0x20, 16)], {rw := 0xfff07ff}, 0x3e8012c, .vdrv⟩,
  ⟨"VDRV_PF[n]_CHOP", 0x501008, [(0x20, 16)], {rw := 0xffff003f}, 0x640014, .vdrv⟩,
  ⟨"VDRV_PF[n]_MODE", 0x50100c, [(0x20, 16)], {rw := 0xf}, 0x0, .vdrv⟩,
  ⟨"VDRV_PF[n]_PWM", 0x501010, [(0x20, 16)], {rw := 0x3ff00ff}, 0x96000a, .vdrv⟩,
  ⟨"VDRV_PF[n]_DUTY", 0x501014, [(0x20, 16)], {rw := 0xffffffff}, 0x645003e8, .vdrv⟩,
  ⟨"VDRV_CH[k]_STATUS", 0x502000, [(0x20, 128)], {}, 0x0, .none⟩,
  ⟨"VDRV_CH[k]_CURRENT", 0x502004, [(0x20, 128)], {}, 0x0, .none⟩,
  ⟨"VDRV_CH[k]_DUTY_ACC", 0x502008, [(0x20, 128)], {}, 0x0, .none⟩,
  ⟨"VDRV_CH[k]_COUNT", 0x50200c, [(0x20, 128)], {}, 0x0, .none⟩,
  ⟨"VDRV_CH[k]_CFG", 0x502010, [(0x20, 128)], {rw := 0x1ff}, 0x0, .vdrv⟩,
  ⟨"VDRV_CH[k]_RESETPOL", 0x502014, [(0x20, 128)], {rwp := 0x301ff}, 0x0, .none⟩,
  ⟨"VDRV_CH[k]_FAULT", 0x502018, [(0x20, 128)], {w1c := 0x1fe}, 0x0, .none⟩]

/-- Registers of the LEARN block. -/
def regsLEARN : List RegDef := [
  ⟨"LEARN_STATUS", 0x600000, [], {}, 0x0, .none⟩,
  ⟨"LEARN_APPLY", 0x600004, [], {w1s := 0x1}, 0x0, .none⟩,
  ⟨"LEARN_SAVE_CFG", 0x600008, [], {rw := 0xffff}, 0x3c, .learn⟩,
  ⟨"LEARN_FP_CFG", 0x60000c, [], {rw := 0xfffff}, 0x4190c, .learn⟩,
  ⟨"LEARN_INT_STATUS", 0x600010, [], {w1c := 0x1ff}, 0x0, .none⟩,
  ⟨"LEARN_INT_EN", 0x600014, [], {rw := 0x1ff}, 0x0, .none⟩,
  ⟨"LEARN_PUB_SEQ", 0x600020, [], {}, 0x0, .none⟩,
  ⟨"LEARN_PUB_VALID", 0x600024, [], {}, 0x0, .none⟩,
  ⟨"LEARN_PUB_REJECT", 0x600028, [], {}, 0x0, .none⟩,
  ⟨"LEARN_PUB_COLD", 0x60002c, [], {}, 0x0, .none⟩,
  ⟨"LEARN_PF[n]_DEF", 0x600100, [(0x20, 16)], {rw := 0xffffffff}, 0x3e803e8, .learn⟩,
  ⟨"LEARN_PF[n]_EXTRA", 0x600104, [(0x20, 16)], {rw := 0xffffffff}, 0x0, .learn⟩,
  ⟨"LEARN_PF[n]_BOUND_OPEN", 0x600108, [(0x20, 16)], {rw := 0xffffffff}, 0x27100064, .learn⟩,
  ⟨"LEARN_PF[n]_BOUND_CLOSE", 0x60010c, [(0x20, 16)], {rw := 0xffffffff}, 0x27100064, .learn⟩,
  ⟨"LEARN_PF[n]_FILTER", 0x600110, [(0x20, 16)], {rw := 0x8fffffff}, 0x86140096, .learn⟩,
  ⟨"LEARN_PF[n]_DETECT", 0x600114, [(0x20, 16)], {rw := 0xffffffff}, 0x14056405, .learn⟩,
  ⟨"LEARN_PF[n]_SUPPLY", 0x600118, [(0x20, 16)], {rw := 0xffffff00}, 0x51000, .learn⟩,
  ⟨"LEARN_PF[n]_PROBE", 0x60011c, [(0x20, 16)], {rw := 0xffffffff}, 0x960c878, .learn⟩,
  ⟨"LEARN_CH[k]_STATE", 0x601000, [(0x40, 128)], {}, 0x0, .none⟩,
  ⟨"LEARN_CH[k]_EST_OPEN", 0x601004, [(0x40, 128)], {}, 0x0, .none⟩,
  ⟨"LEARN_CH[k]_EST_CLOSE", 0x601008, [(0x40, 128)], {}, 0x0, .none⟩,
  ⟨"LEARN_CH[k]_LAST_OPEN", 0x60100c, [(0x40, 128)], {}, 0x0, .none⟩,
  ⟨"LEARN_CH[k]_LAST_CLOSE", 0x601010, [(0x40, 128)], {}, 0x0, .none⟩,
  ⟨"LEARN_CH[k]_FP_R", 0x601014, [(0x40, 128)], {}, 0x0, .none⟩,
  ⟨"LEARN_CH[k]_FP_L", 0x601018, [(0x40, 128)], {}, 0x0, .none⟩,
  ⟨"LEARN_CH[k]_COUNTS", 0x60101c, [(0x40, 128)], {}, 0x0, .none⟩,
  ⟨"LEARN_CH[k]_CFG", 0x601020, [(0x40, 128)], {rw := 0x30f}, 0x200, .learn⟩,
  ⟨"LEARN_CH[k]_MAN_OPEN", 0x601024, [(0x40, 128)], {rw := 0x87ffffff}, 0x0, .learn⟩,
  ⟨"LEARN_CH[k]_MAN_CLOSE", 0x601028, [(0x40, 128)], {rw := 0x7ffffff}, 0x0, .learn⟩,
  ⟨"LEARN_CH[k]_CMD", 0x60102c, [(0x40, 128)], {po := 0x3}, 0x0, .none⟩]

/-- Registers of the COVER block, part 1. -/
def regsCOVER0 : List RegDef := [
  ⟨"COVER_STATUS", 0x700000, [], {}, 0x0, .none⟩,
  ⟨"COVER_APPLY", 0x700004, [], {w1s := 0x1}, 0x0, .none⟩,
  ⟨"COVER_CTL", 0x700008, [], {rw := 0x7}, 0x0, .none⟩,
  ⟨"COVER_CELL", 0x70000c, [], {rw := 0x3ff03ff}, 0xc800fa, .cover⟩,
  ⟨"COVER_LOOK", 0x700010, [], {rw := 0xffffffff}, 0x32003e8, .cover⟩,
  ⟨"COVER_THRESH", 0x700014, [], {rw := 0xffffffff}, 0x12c321e, .cover⟩,
  ⟨"COVER_RATE_K", 0x700018, [], {rw := 0xffffffff}, 0x0, .cover⟩,
  ⟨"COVER_RATE_CFG", 0x70001c, [], {rw := 0xffffffff}, 0x140a0000, .cover⟩,
  ⟨"COVER_DUTY", 0x700020, [], {rw := 0xffffffff}, 0xccd8000, .cover⟩,
  ⟨"COVER_MISC", 0x700024, [], {rw := 0xffffffff}, 0x321403e8, .cover⟩,
  ⟨"COVER_PREFETCH", 0x700028, [], {rw := 0xffff}, 0x2710, .cover⟩,
  ⟨"COVER_ARCH", 0x70002c, [], {rw := 0xffff00ff}, 0x0, .cover⟩,
  ⟨"COVER_INT_STATUS", 0x700030, [], {w1c := 0x7ff}, 0x0, .none⟩,
  ⟨"COVER_INT_EN", 0x700034, [], {rw := 0x7ff}, 0x0, .none⟩,
  ⟨"COVER_JOB_STATE", 0x700040, [], {}, 0x0, .none⟩,
  ⟨"COVER_JOB_CMD", 0x700044, [], {wo := 0x7}, 0x0, .none⟩,
  ⟨"COVER_JOB_REQ_LO", 0x700048, [], {rw := 0xffffffff}, 0x0, .none⟩,
  ⟨"COVER_JOB_REQ_HI", 0x70004c, [], {rw := 0xffffffff}, 0x0, .none⟩,
  ⟨"COVER_JOB_ID_LO", 0x700050, [], {}, 0x0, .none⟩,
  ⟨"COVER_JOB_ID_HI", 0x700054, [], {}, 0x0, .none⟩,
  ⟨"COVER_ORIGIN_LAT", 0x700058, [], {rw := 0xffffffff}, 0x0, .none⟩,
  ⟨"COVER_ORIGIN_LON", 0x70005c, [], {rw := 0xffffffff}, 0x0, .none⟩,
  ⟨"COVER_TILE_ADDR_LO", 0x700080, [], {rw := 0xffffffff}, 0x0, .none⟩,
  ⟨"COVER_TILE_ADDR_HI", 0x700084, [], {rw := 0xffffffff}, 0x0, .none⟩,
  ⟨"COVER_TILE_XY", 0x700088, [], {rw := 0xffffffff}, 0x0, .none⟩,
  ⟨"COVER_TILE_CMD", 0x70008c, [], {wo := 0x303}, 0x0, .none⟩,
  ⟨"COVER_TILE_RESULT", 0x700090, [], {}, 0x0, .none⟩,
  ⟨"COVER_STORE", 0x700094, [], {}, 0x7f80, .none⟩,
  ⟨"COVER_SNAP_MT_LO", 0x7000c0, [], {}, 0x0, .none⟩,
  ⟨"COVER_SNAP_MT_HI", 0x7000c4, [], {}, 0x0, .none⟩,
  ⟨"COVER_SNAP_S_LO", 0x7000c8, [], {}, 0x0, .none⟩,
  ⟨"COVER_SNAP_S_HI", 0x7000cc, [], {}, 0x0, .none⟩,
  ⟨"COVER_SNAP_E", 0x7000d0, [], {}, 0x0, .none⟩,
  ⟨"COVER_SNAP_N", 0x7000d4, [], {}, 0x0, .none⟩,
  ⟨"COVER_SNAP_HEADING", 0x7000d8, [], {}, 0x0, .none⟩,
  ⟨"COVER_SNAP_CURV", 0x7000dc, [], {}, 0x0, .none⟩,
  ⟨"COVER_PUB_SEQ", 0x700100, [], {}, 0x0, .none⟩,
  ⟨"COVER_PUB_EMITTED", 0x700104, [], {}, 0x0, .none⟩,
  ⟨"COVER_PUB_FIRED", 0x700108, [], {}, 0x0, .none⟩,
  ⟨"COVER_PUB_MISSED", 0x70010c, [], {}, 0x0, .none⟩]

/-- Registers of the COVER block, part 2. -/
def regsCOVER1 : List RegDef := [
  ⟨"COVER_PUB_CANCELLED", 0x700110, [], {}, 0x0, .none⟩,
  ⟨"COVER_PUB_TOO_LATE", 0x700114, [], {}, 0x0, .none⟩,
  ⟨"COVER_PUB_CACHE_MISS", 0x700118, [], {}, 0x0, .none⟩,
  ⟨"COVER_PUB_MARK_LOST", 0x70011c, [], {}, 0x0, .none⟩,
  ⟨"COVER_PUB_CLAIM_REFUSED", 0x700120, [], {}, 0x0, .none⟩,
  ⟨"COVER_PUB_FLOW", 0x700124, [], {}, 0x0, .none⟩,
  ⟨"COVER_SEC[k]_POS", 0x701000, [(0x10, 128)], {rw := 0xffffffff}, 0x0, .cover⟩,
  ⟨"COVER_SEC[k]_CFG", 0x701004, [(0x10, 128)], {rw := 0xf7ffff}, 0x0, .cover⟩,
  ⟨"COVER_SEC[k]_STATUS", 0x701008, [(0x10, 128)], {}, 0x0, .none⟩,
  ⟨"COVER_SEC[k]_COUNT", 0x70100c, [(0x10, 128)], {}, 0x0, .none⟩]

/-- Registers of the COVER block. -/
def regsCOVER : List RegDef := regsCOVER0 ++ regsCOVER1

/-- Registers of the LOOP block, part 1. -/
def regsLOOP0 : List RegDef := [
  ⟨"LOOP_ENABLED", 0x800000, [], {}, 0x0, .none⟩,
  ⟨"LOOP_AUTO", 0x800004, [], {}, 0x0, .none⟩,
  ⟨"LOOP_APPLY", 0x800008, [], {w1s := 0xffffffff}, 0x0, .none⟩,
  ⟨"LOOP_INT_STATUS", 0x800010, [], {}, 0x0, .none⟩,
  ⟨"LOOP_INT_EN", 0x800014, [], {rw := 0xffffffff}, 0x0, .none⟩,
  ⟨"LOOP_TRACE_CTL", 0x800100, [], {wo := 0xc0000000, rw := 0x301f0fff}, 0x0, .none⟩,
  ⟨"LOOP_TRACE_LEVEL", 0x800104, [], {rw := 0xffffffff}, 0x0, .none⟩,
  ⟨"LOOP_TRACE_STATUS", 0x800108, [], {}, 0x0, .none⟩,
  ⟨"LOOP_TRACE_TRIG_MT_LO", 0x800110, [], {}, 0x0, .none⟩,
  ⟨"LOOP_TRACE_TRIG_MT_HI", 0x800114, [], {}, 0x0, .none⟩,
  ⟨"LOOP_TRACE_CH[c]_SEL", 0x800120, [(0x4, 4)], {rw := 0x8f1f}, 0x0, .none⟩,
  ⟨"LOOP_INJ_CTL", 0x800200, [], {po := 0x3}, 0x0, .none⟩,
  ⟨"LOOP_INJ_CFG", 0x800204, [], {po := 0xff3fffff}, 0x0, .none⟩,
  ⟨"LOOP_INJ_STATUS", 0x800208, [], {po := 0x37fff}, 0x0, .none⟩,
  ⟨"LOOP_LP[n]_STATUS", 0x801000, [(0x100, 32)], {}, 0x0, .none⟩,
  ⟨"LOOP_LP[n]_TARGET", 0x801004, [(0x100, 32)], {}, 0x0, .none⟩,
  ⟨"LOOP_LP[n]_REF", 0x801008, [(0x100, 32)], {}, 0x0, .none⟩,
  ⟨"LOOP_LP[n]_FB", 0x80100c, [(0x100, 32)], {}, 0x0, .none⟩,
  ⟨"LOOP_LP[n]_OUT", 0x801010, [(0x100, 32)], {}, 0x0, .none⟩,
  ⟨"LOOP_LP[n]_INT", 0x801014, [(0x100, 32)], {}, 0x0, .none⟩,
  ⟨"LOOP_LP[n]_DERIV", 0x801018, [(0x100, 32)], {}, 0x0, .none⟩,
  ⟨"LOOP_LP[n]_SAMPLE_MT_LO", 0x80101c, [(0x100, 32)], {}, 0x0, .none⟩,
  ⟨"LOOP_LP[n]_SAMPLE_MT_HI", 0x801020, [(0x100, 32)], {}, 0x0, .none⟩,
  ⟨"LOOP_LP[n]_FB_STAT", 0x801024, [(0x100, 32)], {}, 0x0, .none⟩,
  ⟨"LOOP_LP[n]_MODE", 0x801028, [(0x100, 32)], {rw := 0x13}, 0x0, .none⟩,
  ⟨"LOOP_LP[n]_MAN_OUT", 0x80102c, [(0x100, 32)], {rw := 0xffffffff}, 0x0, .none⟩,
  ⟨"LOOP_LP[n]_SP_MT", 0x801030, [(0x100, 32)], {rw := 0xffffffff}, 0x0, .none⟩,
  ⟨"LOOP_LP[n]_SP_VALUE", 0x801034, [(0x100, 32)], {rw := 0xffffffff}, 0x0, .none⟩,
  ⟨"LOOP_LP[n]_FB_SW_MT", 0x801038, [(0x100, 32)], {rw := 0xffffffff}, 0x0, .none⟩,
  ⟨"LOOP_LP[n]_FB_SW_VALUE", 0x80103c, [(0x100, 32)], {rw := 0xffffffff}, 0x0, .none⟩,
  ⟨"LOOP_LP[n]_CFG", 0x801040, [(0x100, 32)], {rw := 0xffff3fff}, 0x3e8, .loop⟩,
  ⟨"LOOP_LP[n]_FB_GAIN", 0x801044, [(0x100, 32)], {rw := 0xffffffff}, 0x1, .loop⟩,
  ⟨"LOOP_LP[n]_FB_CFG", 0x801048, [(0x100, 32)], {rw := 0x1f}, 0x0, .loop⟩,
  ⟨"LOOP_LP[n]_FB_OFFSET", 0x80104c, [(0x100, 32)], {rw := 0xffffffff}, 0x0, .loop⟩,
  ⟨"LOOP_LP[n]_GEN_VMAX", 0x801050, [(0x100, 32)], {rw := 0xffffffff}, 0x0, .loop⟩,
  ⟨"LOOP_LP[n]_GEN_AMAX", 0x801054, [(0x100, 32)], {rw := 0xffffffff}, 0x0, .loop⟩,
  ⟨"LOOP_LP[n]_GEN_JMAX", 0x801058, [(0x100, 32)], {rw := 0xffffffff}, 0x0, .loop⟩,
  ⟨"LOOP_LP[n]_OUT_CFG", 0x80105c, [(0x100, 32)], {rw := 0xf}, 0x0, .loop⟩,
  ⟨"LOOP_LP[n]_INT_INIT", 0x801060, [(0x100, 32)], {rw := 0xffffffff}, 0x0, .loop⟩,
  ⟨"LOOP_LP[n]_EVT", 0x801064, [(0x100, 32)], {w1c := 0xff}, 0x0, .none⟩]

/-- Registers of the LOOP block, part 2. -/
def regsLOOP1 : List RegDef := [
  ⟨"LOOP_LP[n]_EVT_EN", 0x801068, [(0x100, 32)], {rw := 0xff}, 0x0, .none⟩,
  ⟨"LOOP_LP[n]_CMD", 0x80106c, [(0x100, 32)], {wo := 0x1}, 0x0, .none⟩,
  ⟨"LOOP_LP[n]_BANKA_KP", 0x801080, [(0x100, 32)], {rw := 0xffffffff}, 0x0, .none⟩,
  ⟨"LOOP_LP[n]_BANKA_KI", 0x801084, [(0x100, 32)], {rw := 0xffffffff}, 0x0, .none⟩,
  ⟨"LOOP_LP[n]_BANKA_KD", 0x801088, [(0x100, 32)], {rw := 0xffffffff}, 0x0, .none⟩,
  ⟨"LOOP_LP[n]_BANKA_KF", 0x80108c, [(0x100, 32)], {rw := 0xffffffff}, 0x0, .none⟩,
  ⟨"LOOP_LP[n]_BANKA_SHIFTS", 0x801090, [(0x100, 32)], {rw := 0x1ffffff}, 0x0, .none⟩,
  ⟨"LOOP_LP[n]_BANKA_INT_MIN", 0x801094, [(0x100, 32)], {rw := 0xffffffff}, 0x80000000, .none⟩,
  ⟨"LOOP_LP[n]_BANKA_INT_MAX", 0x801098, [(0x100, 32)], {rw := 0xffffffff}, 0x7fffffff, .none⟩,
  ⟨"LOOP_LP[n]_BANKA_OUT_MIN", 0x80109c, [(0x100, 32)], {rw := 0xffffffff}, 0x80000000, .none⟩,
  ⟨"LOOP_LP[n]_BANKA_OUT_MAX", 0x8010a0, [(0x100, 32)], {rw := 0xffffffff}, 0x7fffffff, .none⟩,
  ⟨"LOOP_LP[n]_BANKB_KP", 0x8010c0, [(0x100, 32)], {rw := 0xffffffff}, 0x0, .none⟩,
  ⟨"LOOP_LP[n]_BANKB_KI", 0x8010c4, [(0x100, 32)], {rw := 0xffffffff}, 0x0, .none⟩,
  ⟨"LOOP_LP[n]_BANKB_KD", 0x8010c8, [(0x100, 32)], {rw := 0xffffffff}, 0x0, .none⟩,
  ⟨"LOOP_LP[n]_BANKB_KF", 0x8010cc, [(0x100, 32)], {rw := 0xffffffff}, 0x0, .none⟩,
  ⟨"LOOP_LP[n]_BANKB_SHIFTS", 0x8010d0, [(0x100, 32)], {rw := 0x1ffffff}, 0x0, .none⟩,
  ⟨"LOOP_LP[n]_BANKB_INT_MIN", 0x8010d4, [(0x100, 32)], {rw := 0xffffffff}, 0x80000000, .none⟩,
  ⟨"LOOP_LP[n]_BANKB_INT_MAX", 0x8010d8, [(0x100, 32)], {rw := 0xffffffff}, 0x7fffffff, .none⟩,
  ⟨"LOOP_LP[n]_BANKB_OUT_MIN", 0x8010dc, [(0x100, 32)], {rw := 0xffffffff}, 0x80000000, .none⟩,
  ⟨"LOOP_LP[n]_BANKB_OUT_MAX", 0x8010e0, [(0x100, 32)], {rw := 0xffffffff}, 0x7fffffff, .none⟩,
  ⟨"LOOP_TRACE_DATA[c][i]", 0x810000, [(0x4000, 4), (0x4, 4096)], {}, 0x0, .none⟩,
  ⟨"LOOP_INJ_TABLE[i]", 0x840000, [(0x4, 16384)], {po := 0xffffffff}, 0x0, .none⟩,
  ⟨"LOOP_INJ_CAP[j]", 0x850000, [(0x4, 32768)], {po := 0xffffffff}, 0x0, .none⟩]

/-- Registers of the LOOP block. -/
def regsLOOP : List RegDef := regsLOOP0 ++ regsLOOP1

/-- Registers of the GNSS block, part 1. -/
def regsGNSS0 : List RegDef := [
  ⟨"GNSS_STATUS", 0x900000, [], {}, 0x0, .none⟩,
  ⟨"GNSS_CFG", 0x900004, [], {rw := 0xff1703ff}, 0xa0303ff, .gnss⟩,
  ⟨"GNSS_APPLY", 0x900008, [], {w1s := 0x1}, 0x0, .none⟩,
  ⟨"GNSS_ANT", 0x90000c, [], {rw := 0x80000000}, 0x80000000, .none⟩,
  ⟨"GNSS_INT_STATUS", 0x900010, [], {w1c := 0x3ff}, 0x0, .none⟩,
  ⟨"GNSS_INT_EN", 0x900014, [], {rw := 0x3ff}, 0x0, .none⟩,
  ⟨"GNSS_EPOCH_STATUS", 0x900018, [], {w1c := 0x1}, 0x0, .none⟩,
  ⟨"GNSS_EPOCH_EN", 0x90001c, [], {rw := 0x1}, 0x0, .none⟩,
  ⟨"GNSS_LEVER", 0x900020, [], {rw := 0xffffffff}, 0x0, .gnss⟩,
  ⟨"GNSS_DIR_CFG", 0x900024, [], {rw := 0xf01fffff}, 0x12c, .gnss⟩,
  ⟨"GNSS_DIFF_CFG", 0x900028, [], {rw := 0xff00c000}, 0xa00c000, .gnss⟩,
  ⟨"GNSS_CHECK_CFG", 0x90002c, [], {rw := 0xffffffff}, 0x1432321e, .gnss⟩,
  ⟨"GNSS_CHECK_CFG2", 0x900030, [], {rw := 0xffffffff}, 0x640032, .gnss⟩,
  ⟨"GNSS_CHECK_COUNT", 0x900034, [], {}, 0x0, .none⟩,
  ⟨"GNSS_CMD", 0x900038, [], {wo := 0x7}, 0x0, .none⟩,
  ⟨"GNSS_TP_CFG", 0x90003c, [], {rw := 0xf8ffffff}, 0x80640000, .gnss⟩,
  ⟨"GNSS_TP_MT_LO", 0x900040, [], {}, 0x0, .none⟩,
  ⟨"GNSS_TP_MT_HI", 0x900044, [], {}, 0x0, .none⟩,
  ⟨"GNSS_TP_TIME", 0x900048, [], {}, 0x0, .none⟩,
  ⟨"GNSS_TP_UNC", 0x90004c, [], {}, 0x0, .none⟩,
  ⟨"GNSS_TP_OFFSET", 0x900050, [], {}, 0x0, .none⟩,
  ⟨"GNSS_TP_STATUS", 0x900054, [], {}, 0x0, .none⟩,
  ⟨"GNSS_HOLD_CFG", 0x900058, [], {rw := 0xffffffff}, 0x64140f, .gnss⟩,
  ⟨"GNSS_RTCM_WORD", 0x900060, [], {wo := 0xffffffff}, 0x0, .none⟩,
  ⟨"GNSS_RTCM_BYTE", 0x900064, [], {wo := 0xff}, 0x0, .none⟩,
  ⟨"GNSS_RTCM_STATUS", 0x900068, [], {}, 0xfff, .none⟩,
  ⟨"GNSS_RTCM_COUNT", 0x90006c, [], {}, 0x0, .none⟩,
  ⟨"GNSS_ISB[s]", 0x900070, [(0x4, 4)], {}, 0x0, .none⟩,
  ⟨"GNSS_PVT_SEQ", 0x900100, [], {}, 0x0, .none⟩,
  ⟨"GNSS_PVT_MT_LO", 0x900104, [], {}, 0x0, .none⟩,
  ⟨"GNSS_PVT_MT_HI", 0x900108, [], {}, 0x0, .none⟩,
  ⟨"GNSS_PVT_FIX", 0x90010c, [], {}, 0x0, .none⟩,
  ⟨"GNSS_PVT_LAT", 0x900110, [], {}, 0x0, .none⟩,
  ⟨"GNSS_PVT_LON", 0x900114, [], {}, 0x0, .none⟩,
  ⟨"GNSS_PVT_LATLON_HP", 0x900118, [], {}, 0x0, .none⟩,
  ⟨"GNSS_PVT_HEIGHT", 0x90011c, [], {}, 0x0, .none⟩,
  ⟨"GNSS_PVT_VEL[j]", 0x900120, [(0x4, 3)], {}, 0x0, .none⟩,
  ⟨"GNSS_PVT_SPEED", 0x90012c, [], {}, 0x0, .none⟩,
  ⟨"GNSS_PVT_HEADING", 0x900130, [], {}, 0x0, .none⟩,
  ⟨"GNSS_PVT_YAW_RATE", 0x900134, [], {}, 0x0, .none⟩]

/-- Registers of the GNSS block, part 2. -/
def regsGNSS1 : List RegDef := [
  ⟨"GNSS_PVT_PATH_INC", 0x900138, [], {}, 0x0, .none⟩,
  ⟨"GNSS_PVT_ACC", 0x90013c, [], {}, 0x0, .none⟩,
  ⟨"GNSS_PVT_DOP", 0x900140, [], {}, 0x0, .none⟩,
  ⟨"GNSS_PVT_UTC_LO", 0x900144, [], {}, 0x0, .none⟩,
  ⟨"GNSS_PVT_UTC_HI", 0x900148, [], {}, 0x0, .none⟩,
  ⟨"GNSS_PVT_TIME_INFO", 0x90014c, [], {}, 0x0, .none⟩,
  ⟨"GNSS_PVT_TOW", 0x900150, [], {}, 0x0, .none⟩,
  ⟨"GNSS_PVT_CLK_DRIFT", 0x900154, [], {}, 0x0, .none⟩,
  ⟨"GNSS_PVT_DIFF", 0x900158, [], {}, 0xfff, .none⟩,
  ⟨"GNSS_OBS_SEQ", 0x900200, [], {}, 0x0, .none⟩,
  ⟨"GNSS_OBS_MT_LO", 0x900204, [], {}, 0x0, .none⟩,
  ⟨"GNSS_OBS_MT_HI", 0x900208, [], {}, 0x0, .none⟩,
  ⟨"GNSS_OBS_INFO", 0x90020c, [], {}, 0x0, .none⟩,
  ⟨"GNSS_OBS[c]_W[w]", 0x900400, [(0x20, 32), (0x4, 8)], {}, 0x0, .none⟩,
  ⟨"GNSS_GC[c]_CFG", 0x901000, [(0x40, 96)], {po := 0x8fffff1f}, 0x0, .none⟩,
  ⟨"GNSS_GC[c]_CODE_RATE", 0x901004, [(0x40, 96)], {po := 0xffffffff}, 0x0, .none⟩,
  ⟨"GNSS_GC[c]_CARR_RATE", 0x901008, [(0x40, 96)], {po := 0xffffffff}, 0x0, .none⟩,
  ⟨"GNSS_GC[c]_START", 0x90100c, [(0x40, 96)], {po := 0xffffffff}, 0x0, .none⟩,
  ⟨"GNSS_GC[c]_STATUS", 0x901010, [(0x40, 96)], {}, 0x0, .none⟩,
  ⟨"GNSS_GC[c]_IE", 0x901014, [(0x40, 96)], {}, 0x0, .none⟩,
  ⟨"GNSS_GC[c]_QE", 0x901018, [(0x40, 96)], {}, 0x0, .none⟩,
  ⟨"GNSS_GC[c]_IP", 0x90101c, [(0x40, 96)], {}, 0x0, .none⟩,
  ⟨"GNSS_GC[c]_QP", 0x901020, [(0x40, 96)], {}, 0x0, .none⟩,
  ⟨"GNSS_GC[c]_IL", 0x901024, [(0x40, 96)], {}, 0x0, .none⟩,
  ⟨"GNSS_GC[c]_QL", 0x901028, [(0x40, 96)], {}, 0x0, .none⟩,
  ⟨"GNSS_GC[c]_NAV", 0x90102c, [(0x40, 96)], {po := 0xffffffff}, 0x0, .none⟩]

/-- Registers of the GNSS block. -/
def regsGNSS : List RegDef := regsGNSS0 ++ regsGNSS1

/-- Registers of the FLUE block. -/
def regsFLUE : List RegDef := [
  ⟨"FLUE_STATUS", 0xa00000, [], {}, 0x0, .none⟩,
  ⟨"FLUE_APPLY", 0xa00004, [], {w1s := 0x1}, 0x0, .none⟩,
  ⟨"FLUE_CFG", 0xa00008, [], {rwp := 0xc0ffffff}, 0x800000, .flue⟩,
  ⟨"FLUE_NODE", 0xa0000c, [], {}, 0x0, .none⟩,
  ⟨"FLUE_MASTER", 0xa00010, [], {}, 0x0, .none⟩,
  ⟨"FLUE_TIME_STATUS", 0xa00014, [], {}, 0x0, .none⟩,
  ⟨"FLUE_OFFSET", 0xa00018, [], {}, 0x0, .none⟩,
  ⟨"FLUE_STEP_COUNT", 0xa0001c, [], {}, 0x0, .none⟩,
  ⟨"FLUE_TIME_CFG", 0xa00020, [], {rw := 0xffff}, 0x3e8, .flue⟩,
  ⟨"FLUE_TP_CFG", 0xa00024, [], {rw := 0xc0ffffff}, 0x80640000, .flue⟩,
  ⟨"FLUE_TPIN_CFG", 0xa00028, [], {rw := 0xc0000000}, 0x0, .flue⟩,
  ⟨"FLUE_TPIN_MT_LO", 0xa0002c, [], {}, 0x0, .none⟩,
  ⟨"FLUE_TPIN_MT_HI", 0xa00030, [], {}, 0x0, .none⟩,
  ⟨"FLUE_MGMT_RELAY", 0xa00034, [], {rwp := 0x8000ffff}, 0x8000c0aa, .flue⟩,
  ⟨"FLUE_NODES", 0xa00038, [], {}, 0x0, .none⟩,
  ⟨"FLUE_RET_DROP", 0xa0003c, [], {}, 0x0, .none⟩,
  ⟨"FLUE_INT_STATUS", 0xa00040, [], {w1c := 0x3ff}, 0x0, .none⟩,
  ⟨"FLUE_INT_EN", 0xa00044, [], {rw := 0x3ff}, 0x0, .none⟩,
  ⟨"FLUE_CMD", 0xa00048, [], {po := 0x3}, 0x0, .none⟩,
  ⟨"FLUE_ROUTE_QUERY", 0xa00050, [], {rw := 0xffff}, 0x0, .none⟩,
  ⟨"FLUE_ROUTE_RESULT", 0xa00054, [], {}, 0x0, .none⟩,
  ⟨"FLUE_PORT[q]_STATUS", 0xa00100, [(0x20, 2)], {}, 0x0, .none⟩,
  ⟨"FLUE_PORT[q]_DELAY", 0xa00104, [(0x20, 2)], {}, 0x0, .none⟩,
  ⟨"FLUE_PORT[q]_RX_FRAMES", 0xa00108, [(0x20, 2)], {}, 0x0, .none⟩,
  ⟨"FLUE_PORT[q]_RX_ERR", 0xa0010c, [(0x20, 2)], {}, 0x0, .none⟩,
  ⟨"FLUE_PORT[q]_TX_FRAMES", 0xa00110, [(0x20, 2)], {}, 0x0, .none⟩,
  ⟨"FLUE_PORT[q]_DROP", 0xa00114, [(0x20, 2)], {}, 0x0, .none⟩]

/-- Registers of the FIO block. -/
def regsFIO : List RegDef := [
  ⟨"FIO_STATUS", 0xb00000, [], {}, 0x0, .none⟩,
  ⟨"FIO_APPLY", 0xb00004, [], {w1s := 0x1}, 0x0, .none⟩,
  ⟨"FIO_CFG", 0xb00008, [], {rw := 0x10f}, 0x0, .fio⟩,
  ⟨"FIO_CMD", 0xb0000c, [], {wo := 0x1}, 0x0, .none⟩,
  ⟨"FIO_INT_STATUS", 0xb00010, [], {w1c := 0x1ff}, 0x0, .none⟩,
  ⟨"FIO_INT_EN", 0xb00014, [], {rw := 0x1ff}, 0x0, .none⟩,
  ⟨"FIO_VFIELD", 0xb00018, [], {}, 0x4, .none⟩,
  ⟨"FIO_BARRIER", 0xb0001c, [], {}, 0x0, .none⟩,
  ⟨"FIO_FI_LEVEL", 0xb00020, [], {}, 0x0, .none⟩,
  ⟨"FIO_FI_QUAL", 0xb00024, [], {}, 0x0, .none⟩,
  ⟨"FIO_FO_STATE", 0xb00028, [], {}, 0x0, .none⟩,
  ⟨"FIO_AI_OPEN", 0xb0002c, [], {}, 0x0, .none⟩,
  ⟨"FIO_SS_CTL", 0xb00030, [], {rw := 0xff}, 0xff, .none⟩,
  ⟨"FIO_SS_STATUS", 0xb00034, [], {}, 0x0, .none⟩,
  ⟨"FIO_SS_FAULT", 0xb00038, [], {w1c := 0xff}, 0x0, .none⟩,
  ⟨"FIO_AI_MT_LO", 0xb00040, [], {}, 0x0, .none⟩,
  ⟨"FIO_AI_MT_HI", 0xb00044, [], {}, 0x0, .none⟩,
  ⟨"FIO_AI[n]_DATA", 0xb00048, [(0x4, 16)], {}, 0x0, .none⟩,
  ⟨"FIO_FI[n]_CFG", 0xb00100, [(0x10, 32)], {rw := 0x7fff}, 0x2, .fio⟩,
  ⟨"FIO_FI[n]_COUNT", 0xb00104, [(0x10, 32)], {}, 0x0, .none⟩,
  ⟨"FIO_FI[n]_PERIOD", 0xb00108, [(0x10, 32)], {}, 0x0, .none⟩,
  ⟨"FIO_FO[n]_CFG", 0xb00400, [(0x10, 16)], {rw := 0x800007ff}, 0x64, .fio⟩,
  ⟨"FIO_FO[n]_STATUS", 0xb00404, [(0x10, 16)], {}, 0x0, .none⟩,
  ⟨"FIO_FO[n]_RESETPOL", 0xb00408, [(0x10, 16)], {rwp := 0x301ff}, 0x0, .none⟩,
  ⟨"FIO_FO[n]_FAULT", 0xb0040c, [(0x10, 16)], {w1c := 0xf}, 0x0, .none⟩,
  ⟨"FIO_AI[n]_CFG", 0xb00600, [(0x10, 16)], {rw := 0xff}, 0x0, .fio⟩,
  ⟨"FIO_AI[n]_FLAGS", 0xb00604, [(0x10, 16)], {w1c := 0xf}, 0x0, .none⟩]

/-- Registers of the LSW block. -/
def regsLSW : List RegDef := [
  ⟨"LSW_STATUS", 0xc00000, [], {}, 0x0, .none⟩,
  ⟨"LSW_APPLY", 0xc00004, [], {w1s := 0x1}, 0x0, .none⟩,
  ⟨"LSW_VLS", 0xc00008, [], {}, 0x0, .none⟩,
  ⟨"LSW_SUP_FAULT", 0xc0000c, [], {w1c := 0x1}, 0x0, .none⟩,
  ⟨"LSW_INT_STATUS", 0xc00010, [], {w1c := 0x3fe}, 0x0, .none⟩,
  ⟨"LSW_INT_EN", 0xc00014, [], {rw := 0x3fe}, 0x0, .none⟩,
  ⟨"LSW_LIMP_STATUS", 0xc00020, [], {}, 0x0, .none⟩,
  ⟨"LSW_BRIDGE[b]_CFG", 0xc00040, [(0x4, 2)], {rw := 0x1}, 0x1, .lsw⟩,
  ⟨"LSW_CH[n]_CFG", 0xc01000, [(0x20, 16)], {rw := 0x777fff}, 0x3003e8, .lsw⟩,
  ⟨"LSW_CH[n]_PROT", 0xc01004, [(0x20, 4)], {rw := 0xffffffff}, 0x50a3a98, .lsw⟩,
  ⟨"LSW_CH[n]_PROT", 0xc01084, [(0x20, 12)], {rw := 0xffffffff}, 0x50a1388, .lsw⟩,
  ⟨"LSW_CH[n]_STATUS", 0xc01008, [(0x20, 16)], {}, 0x0, .none⟩,
  ⟨"LSW_CH[n]_CURRENT", 0xc0100c, [(0x20, 16)], {}, 0x0, .none⟩,
  ⟨"LSW_CH[n]_TEMP", 0xc01010, [(0x20, 16)], {}, 0x0, .none⟩,
  ⟨"LSW_CH[n]_RESETPOL", 0xc01014, [(0x20, 16)], {rwp := 0x301ff}, 0x0, .none⟩,
  ⟨"LSW_CH[n]_FAULT", 0xc01018, [(0x20, 16)], {w1c := 0x3e}, 0x0, .none⟩,
  ⟨"LSW_CH[n]_COUNT", 0xc0101c, [(0x20, 16)], {}, 0x0, .none⟩]

/-- Registers of the CAN block. -/
def regsCAN : List RegDef := [
  ⟨"CAN_CN[c]_CFG", 0xd01000, [(0x100, 4)], {rw := 0xfc000000}, 0x0, .none⟩,
  ⟨"CAN_CN[c]_NBT", 0xd01004, [(0x100, 4)], {rw := 0x7f7fffff}, 0x42107, .none⟩,
  ⟨"CAN_CN[c]_DBT", 0xd01008, [(0x100, 4)], {rw := 0x8f0f1f1f}, 0x89091c00, .none⟩,
  ⟨"CAN_CN[c]_TUN_REQ", 0xd0100c, [(0x100, 4)], {rwp := 0xbfffffff}, 0x0, .none⟩,
  ⟨"CAN_CN[c]_TUN_RSP", 0xd01010, [(0x100, 4)], {rwp := 0x3fffffff}, 0x0, .none⟩,
  ⟨"CAN_CN[c]_STATUS", 0xd01014, [(0x100, 4)], {}, 0x0, .none⟩,
  ⟨"CAN_CN[c]_COUNT", 0xd01018, [(0x100, 4)], {}, 0x0, .none⟩,
  ⟨"CAN_CN[c]_CMD", 0xd0101c, [(0x100, 4)], {wo := 0x1}, 0x0, .none⟩,
  ⟨"CAN_CN[c]_INT_STATUS", 0xd01020, [(0x100, 4)], {w1c := 0x3ff}, 0x0, .none⟩,
  ⟨"CAN_CN[c]_INT_EN", 0xd01024, [(0x100, 4)], {rw := 0x3ff}, 0x0, .none⟩,
  ⟨"CAN_CN[c]_NEW[w]", 0xd01030, [(0x100, 4), (0x4, 4)], {}, 0x0, .none⟩,
  ⟨"CAN_OBJ[c][m]_CFG", 0xd10000, [(0x10000, 4), (0x80, 128)], {rw := 0xfcff3f33}, 0x0, .none⟩,
  ⟨"CAN_OBJ[c][m]_ID", 0xd10004, [(0x10000, 4), (0x80, 128)], {rw := 0x1fffffff}, 0x0, .none⟩,
  ⟨"CAN_OBJ[c][m]_MASK", 0xd10008, [(0x10000, 4), (0x80, 128)], {rw := 0x1fffffff}, 0x1fffffff, .none⟩,
  ⟨"CAN_OBJ[c][m]_STATUS", 0xd1000c, [(0x10000, 4), (0x80, 128)], {}, 0x0, .none⟩,
  ⟨"CAN_OBJ[c][m]_DATA[i]", 0xd10010, [(0x10000, 4), (0x80, 128), (0x4, 16)], {rw := 0xffffffff}, 0x0, .none⟩,
  ⟨"CAN_OBJ[c][m]_RX_ID", 0xd10050, [(0x10000, 4), (0x80, 128)], {}, 0x0, .none⟩,
  ⟨"CAN_OBJ[c][m]_FLAGS", 0xd10054, [(0x10000, 4), (0x80, 128)], {w1c := 0x1f}, 0x0, .none⟩,
  ⟨"CAN_OBJ[c][m]_CMD", 0xd10058, [(0x10000, 4), (0x80, 128)], {wo := 0x3}, 0x0, .none⟩]

/-- Registers of the ASH block. -/
def regsASH : List RegDef := [
  ⟨"ASH_STATUS", 0xe00000, [], {}, 0x0, .none⟩,
  ⟨"ASH_HEAD", 0xe00004, [], {}, 0x0, .none⟩,
  ⟨"ASH_TAIL", 0xe00008, [], {}, 0x0, .none⟩,
  ⟨"ASH_DROPPED", 0xe0000c, [], {}, 0x0, .none⟩,
  ⟨"ASH_RD_SEQ", 0xe00010, [], {rw := 0xffffffff}, 0x0, .none⟩,
  ⟨"ASH_RD_STATUS", 0xe00014, [], {}, 0x0, .none⟩,
  ⟨"ASH_RD_DATA[i]", 0xe00020, [(0x4, 16)], {}, 0x0, .none⟩,
  ⟨"ASH_POST_CODE", 0xe00060, [], {wo := 0xffff}, 0x0, .none⟩,
  ⟨"ASH_POST_DATA[i]", 0xe00064, [(0x4, 8)], {rw := 0xffffffff}, 0x0, .none⟩,
  ⟨"ASH_CLEAR", 0xe00090, [], {po := 0xffff0001}, 0x0, .none⟩,
  ⟨"ASH_CLEAR_RESULT", 0xe00094, [], {po := 0x8000000f}, 0x0, .none⟩,
  ⟨"ASH_INT_STATUS", 0xe000a0, [], {w1c := 0x1f}, 0x0, .none⟩,
  ⟨"ASH_INT_EN", 0xe000a4, [], {rw := 0x1f}, 0x0, .none⟩]

/-- Registers of the SEC block. -/
def regsSEC : List RegDef := [
  ⟨"SEC_STATUS", 0xf00000, [], {}, 0x0, .none⟩,
  ⟨"SEC_BOOT", 0xf00004, [], {}, 0x0, .none⟩,
  ⟨"SEC_SLOT[s]_VERSION", 0xf00010, [(0x4, 2)], {}, 0x0, .none⟩,
  ⟨"SEC_SLOT[s]_ID", 0xf00018, [(0x4, 2)], {}, 0x0, .none⟩,
  ⟨"SEC_FW_FLOOR", 0xf00020, [], {}, 0x0, .none⟩,
  ⟨"SEC_STRUCT_FLOOR", 0xf00024, [], {}, 0x0, .none⟩,
  ⟨"SEC_KEY_MAP", 0xf00028, [], {}, 0x0, .none⟩,
  ⟨"SEC_CRED_MAP", 0xf0002c, [], {}, 0x0, .none⟩,
  ⟨"SEC_CRED_PRIV", 0xf00030, [], {}, 0x0, .none⟩,
  ⟨"SEC_DEL_ADDR_LO", 0xf00040, [], {po := 0xffffffff}, 0x0, .none⟩,
  ⟨"SEC_DEL_ADDR_HI", 0xf00044, [], {po := 0xffffffff}, 0x0, .none⟩,
  ⟨"SEC_DEL_OFFSET", 0xf00048, [], {po := 0xffffffff}, 0x0, .none⟩,
  ⟨"SEC_DEL_CMD", 0xf0004c, [], {po := 0x1fff0007}, 0x0, .none⟩,
  ⟨"SEC_DEL_STATUS", 0xf00050, [], {po := 0x8f0f7fff}, 0x0, .none⟩,
  ⟨"SEC_ACT_CTL", 0xf00060, [], {po := 0x37}, 0x0, .none⟩,
  ⟨"SEC_ACT_STATUS", 0xf00064, [], {}, 0x0, .none⟩,
  ⟨"SEC_CFG", 0xf00068, [], {rwp := 0x1}, 0x1, .none⟩,
  ⟨"SEC_LC_NONCE[i]", 0xf00070, [(0x4, 4)], {}, 0x0, .none⟩,
  ⟨"SEC_INT_STATUS", 0xf00080, [], {w1c := 0x1f}, 0x0, .none⟩,
  ⟨"SEC_INT_EN", 0xf00084, [], {rw := 0x1f}, 0x0, .none⟩,
  ⟨"SEC_LC_RESULT", 0xf00090, [], {}, 0x0, .none⟩]

/-- Registers of the PWR block. -/
def regsPWR : List RegDef := [
  ⟨"PWR_STATUS", 0x1000000, [], {}, 0x0, .none⟩,
  ⟨"PWR_APPLY", 0x1000004, [], {w1s := 0x1}, 0x0, .none⟩,
  ⟨"PWR_VBAT", 0x1000008, [], {}, 0x0, .none⟩,
  ⟨"PWR_RESET_CAUSE", 0x100000c, [], {}, 0x0, .none⟩,
  ⟨"PWR_BOOT_COUNT", 0x1000010, [], {}, 0x0, .none⟩,
  ⟨"PWR_SECS", 0x1000014, [], {}, 0x0, .none⟩,
  ⟨"PWR_SECS_BREAKS", 0x1000018, [], {}, 0x0, .none⟩,
  ⟨"PWR_TEMP", 0x100001c, [], {}, 0x0, .none⟩,
  ⟨"PWR_ARM", 0x1000020, [], {w1s := 0x3}, 0x0, .none⟩,
  ⟨"PWR_ARM_STATUS", 0x1000024, [], {}, 0x0, .none⟩,
  ⟨"PWR_ARM_WD", 0x1000028, [], {rw := 0x3fff}, 0x0, .pwr⟩,
  ⟨"PWR_ARM_WD_KICK", 0x100002c, [], {wo := 0xffffffff}, 0x0, .none⟩,
  ⟨"PWR_CFG", 0x1000030, [], {rwp := 0xef00ffff}, 0x2000003c, .pwr⟩,
  ⟨"PWR_SLEEP_TIMER", 0x1000034, [], {rwp := 0xffffffff}, 0x0, .pwr⟩,
  ⟨"PWR_CMD", 0x1000038, [], {po := 0x3}, 0x0, .none⟩,
  ⟨"PWR_CMD_RESULT", 0x100003c, [], {po := 0x8000000f}, 0x0, .none⟩,
  ⟨"PWR_DOMAINS", 0x1000040, [], {}, 0x1, .none⟩,
  ⟨"PWR_ECC", 0x1000044, [], {}, 0x0, .none⟩,
  ⟨"PWR_NAND", 0x1000048, [], {}, 0x0, .none⟩,
  ⟨"PWR_INT_STATUS", 0x1000050, [], {w1c := 0x7ff}, 0x0, .none⟩,
  ⟨"PWR_INT_EN", 0x1000054, [], {rw := 0x7ff}, 0x0, .none⟩]

/-- The register table of the block whose 1 MiB window holds offset `off` (R7). -/
def regsOfBlock (blk : Nat) : List RegDef :=
  match blk with
  | 0 => regsSYS
  | 1 => regsGRATE
  | 2 => regsAXIS
  | 3 => regsHOB
  | 4 => regsINGEST
  | 5 => regsVDRV
  | 6 => regsLEARN
  | 7 => regsCOVER
  | 8 => regsLOOP
  | 9 => regsGNSS
  | 10 => regsFLUE
  | 11 => regsFIO
  | 12 => regsLSW
  | 13 => regsCAN
  | 14 => regsASH
  | 15 => regsSEC
  | 16 => regsPWR
  | _ => []

/-- The index tuple at which offset `off` matches a row's strides, if it does. -/
def RegDef.index (dims : List (Nat × Nat)) (rem : Nat) : Option (List Nat) :=
  match dims with
  | [] => if rem = 0 then some [] else none
  | (s, c) :: ds =>
    let i := rem / s
    if i < c then (RegDef.index ds (rem - s * i)).map (i :: ·) else none

/-- The row of a table that occupies offset `off`, with its indices. -/
def findReg (off : Nat) : List RegDef → Option (RegDef × List Nat)
  | [] => none
  | d :: ds =>
    if off < d.base then findReg off ds
    else match RegDef.index d.dims (off - d.base) with
      | some ix => some (d, ix)
      | none => findReg off ds

/-- The register at offset `off`, with its indices; `none` where no register is (R11). -/
def regAt (off : Nat) : Option (RegDef × List Nat) := findReg off (regsOfBlock (off / 0x100000))

/-- The Reset column of the register at `off`; an offset that no register occupies reads as 0 (R11, R12). -/
def resetOf (off : Nat) : Word :=
  match regAt off with
  | some (d, _) => d.reset
  | none => 0

end Sys2Proof.Machine
end

