-- ==== Sys2Proof/Machine/StBase.lean ====
section
/-! DEFINITION. State of the frame of the module: module time, the register stores, what the module has sent,
the cores' interruptor and interrupt controller, and the management sessions (01, 03). -/

namespace Sys2Proof.Machine

/-- The ordering variants (R1 to R4). -/
inductive Variant where
  | g | p
  deriving DecidableEq, Repr

/-- What disciplines MT (SYS_STATUS.TIME_SRC). -/
inductive TimeSrc where
  | free | gnss | chain | holdover
  deriving DecidableEq, Repr

/-- Module time and the position inside the present tick in the order of R135. -/
structure TimeSt where
  /-- MT, the count of DCLK ticks since the chain epoch (R13). -/
  mt : DWord
  /-- The highest step of R135 reached in this tick (the model's own field). -/
  phase : Nat
  /-- Commits made in this tick; at most two are (R134). -/
  commits : Nat
  src : TimeSrc
  /-- The number of the Mantel cycle whose boundary was passed last (the model's own field). -/
  boundary : Nat
  deriving DecidableEq, Repr

def TimeSt.reset : TimeSt := ⟨0, 0, 0, .free, 0⟩

/-- A pending stage: the unit, the MT of its APPLY, and the shadow set as copied (R17). -/
structure Stage where
  owner : ApplyUnit
  mt : Nat
  regs : Sparse Word
  deriving DecidableEq, Repr

/-- The register stores. -/
structure RegSt where
  /-- The value last written to each register, or set by hardware (R8, R17). -/
  rw : Sparse Word
  /-- The value in force of each register of a shadow set (R17). -/
  act : Sparse Word
  /-- The pending stages: the whole shadow set of a unit as APPLY copied it (R17). -/
  pend : List Stage
  /-- The published half of each publication pair (R19). -/
  pub : Sparse Word
  /-- The inactive half (R19). -/
  pubBack : Sparse Word
  /-- The holding registers, keyed by initiator and offset (R16). -/
  hold : Sparse Word
  deriving DecidableEq, Repr

def RegSt.reset : RegSt := ⟨[], [], [], [], [], []⟩

/-- A network address to answer to (R141, R155): arrival port (4 is Flue), encapsulation, source addresses, VLAN tag. -/
structure NoteAddr where
  port : Nat
  encap : Encap
  mac : Nat
  ip : Nat
  udpPort : Nat
  vlan : Option Nat
  /-- The entry node of a batch forwarded over the chain (R159). -/
  node : Nat
  deriving DecidableEq, Repr

/-- Where a message the module sends goes. -/
inductive OutDst where
  | session (n : Fin 8)
  | host
  | core (h : Fin 4)
  | debug
  | net (port : Fin 4) (addr : NoteAddr)
  | flue (port : Fin 2)
  | can (c : Fin 4)
  | field
  | logicSide
  | pulse
  deriving DecidableEq, Repr

/-- One message sent, with the MT of its sending (the model's own record of its outputs). -/
structure OutMsg where
  dst : OutDst
  mt : Nat
  bytes : List Byte
  deriving DecidableEq, Repr

/-- One Mantel core: its software and timer interrupt lines and its compare register (R50, R61). -/
structure CoreSt where
  msip : Bool
  mtip : Bool
  mtimecmp : DWord
  /-- Access faults taken (R51, R53, R55). -/
  faults : Nat
  deriving DecidableEq, Repr

/-- The platform-level interrupt controller (R59 to R61). -/
structure PlicSt where
  prio : Arr 32 (BitVec 3)
  enable : Arr 8 Word
  threshold : Arr 8 (BitVec 3)
  /-- Sources claimed and not yet completed. -/
  claimed : Word
  deriving DecidableEq, Repr

/-- A core at its reset. -/
def CoreSt.reset : CoreSt := ⟨false, false, 0, 0⟩

/-- The interrupt controller at its reset, with the sources that resident firmware always enables (R61). -/
def PlicSt.reset : PlicSt :=
  { prio := Arr.fill 32 0, enable := Arr.put (Arr.fill 8 0) 0 0x00600012, threshold := Arr.fill 8 0, claimed := 0 }

/-- The states of a management session (R64). -/
inductive SessPhase where
  | idle | challenged | active
  deriving DecidableEq, Repr

/-- One management session (R62 to R66). -/
structure SessSt where
  phase : SessPhase
  transport : Transport
  /-- The node at the other end of a session over Flue (R293). -/
  peer : Nat
  /-- The 32-byte challenge issued (R63). -/
  challenge : List Byte
  /-- MT at which the challenge was issued (R64). -/
  since : Nat
  /-- The credential slot that opened the session, and whether it is privileged (R63, R365). -/
  cred : Nat
  priv : Bool
  /-- Mantel cycles without a request (R64). -/
  idleCycles : Nat
  /-- The highest SEQ executed (R66). -/
  maxSeq : Option Nat
  /-- The last 16 responses, newest first (R66). -/
  replies : List (Nat × List Byte)
  deriving DecidableEq, Repr

def SessSt.closed : SessSt :=
  ⟨.idle, .usb, 0, [], 0, 0, false, 0, none, []⟩

/-- The read port of the Ash log that each initiator owns (R356). -/
structure AshPort where
  seq : Word
  done : Bool
  result : Nat
  data : List Word
  deriving DecidableEq, Repr

def AshPort.zero : AshPort := ⟨0, false, 0, []⟩

end Sys2Proof.Machine
end

