-- ==== Sys2Proof/Machine/StGrate.lean ====
section
/-! DEFINITION. The structure image's records (R27 to R38), the loaded structure, and the state of the Grate (02). -/

namespace Sys2Proof.Machine

/-- The sources of an axis (R31). -/
inductive AxisSource where
  | none | enQuad | enPulse | enGate | fiQuad | fiPulse | gnssPath | blended | chain
  deriving DecidableEq, Repr

/-- AXIS record (R31). -/
structure AxisRec where
  axis : Nat
  source : AxisSource
  primary : Nat
  secondary : Nat
  chainNode : Nat
  chainAxis : Nat
  publish : Bool
  invert : Bool
  wrap : Nat
  bucketLog2 : Nat
  deriving DecidableEq, Repr

/-- BANK record (R32). -/
structure BankRec where
  bank : Nat
  pairs : Nat
  boost : Bool
  enable : Nat
  deriving DecidableEq, Repr

/-- CHGROUP record (R33). -/
structure GroupRec where
  group : Nat
  ranges : List (Nat × Nat)
  deriving DecidableEq, Repr

/-- The feedback kinds of a loop (R34). -/
inductive FbKind where
  | ai | fiFreq | fiPeriod | can | axisVel | software
  deriving DecidableEq, Repr

/-- The actuation kinds of a loop (R34). -/
inductive OutKind where
  | none | lsPwm | bridge | valvePwm | can | setpoint | foPwm
  deriving DecidableEq, Repr

/-- LOOP record (R34). -/
structure LoopRec where
  loop : Nat
  fbKind : FbKind
  fbIndex : Nat
  outKind : OutKind
  outIndex : Nat
  divider : Nat
  deriving DecidableEq, Repr

/-- RING record (R35). -/
structure RingRec where
  ring : Nat
  ports : Nat
  ops : Nat
  axes : Nat
  forward : Bool
  groups : Nat
  deriving DecidableEq, Repr

/-- COVER record (R36). -/
structure CoverRec where
  pathAxis : Nat
  rateLoop : Nat
  groups : Nat
  deriving DecidableEq, Repr

/-- LIMP record (R37). -/
structure LimpRec where
  input : Nat
  lsDuty : Nat
  lsMask : Nat
  foMask : Nat
  vcGroup : Nat
  vcProfile : Nat
  deriving DecidableEq, Repr

/-- The reset policies (R38). -/
inductive Policy where
  | off | hold | limp
  deriving DecidableEq, Repr

/-- RESETPOL record (R38). -/
structure PolRec where
  group : Nat
  policy : Policy
  holdMs : Nat
  lock : Bool
  deriving DecidableEq, Repr

/-- The parsed records of an image, each with its index in the image. -/
structure Records where
  axes : List (Nat × AxisRec)
  banks : List (Nat × BankRec)
  groups : List (Nat × GroupRec)
  loops : List (Nat × LoopRec)
  rings : List (Nat × RingRec)
  cover : List (Nat × CoverRec)
  limps : List (Nat × LimpRec)
  pols : List (Nat × PolRec)
  deriving DecidableEq, Repr

def Records.empty : Records := ⟨[], [], [], [], [], [], [], []⟩

/-- A structure in a copy of the configuration memory, with what GRATE shows of it (R41, R45). -/
structure Loaded where
  slot : Slot
  generation : Nat
  recordCount : Nat
  keySlot : Nat
  digest : List Byte
  tag : List Byte
  structId : DWord
  recs : Records
  deriving DecidableEq, Repr

/-- The LOAD_ERR codes (R43). -/
inductive LoadErr where
  | none | magic | format | length | digest | signature | key | variant | serial | generation
  | recordType | recordLen | order | range | conflict | readback | busy | noGnss
  deriving DecidableEq, Repr

/-- The loader states of GRATE_STATUS. -/
inductive Loader where
  | idle | checking | swapPending
  deriving DecidableEq, Repr

/-- One output's retained reset policy (R46, R202). -/
structure PolicyEntry where
  policy : Policy
  holdMs : Nat
  lock : Bool
  deriving DecidableEq, Repr

def PolicyEntry.off : PolicyEntry := ⟨.off, 0, false⟩

/-- The retained limp mapping and reset policies (R46): the limp records with the channels of their groups, the
policies by channel number, and the structure's policies before any runtime change. -/
structure Retained where
  limps : List LimpRec
  /-- Valve channels that each limp record drives, by input. -/
  limpVcs : List (Nat × List Nat)
  /-- Policy of each output by its channel number (R103); an unlisted output is OFF and unlocked. -/
  pols : List (Nat × PolicyEntry)
  deriving DecidableEq, Repr

def Retained.empty : Retained := ⟨[], [], []⟩

/-- The source of the retained set (GRATE_RETAIN). -/
inductive RetainSrc where
  | none | pd0 | mram
  deriving DecidableEq, Repr

/-- A load that waits for a candidate check to end (R48). -/
structure WaitingLoad where
  slot : Slot
  sigOk : Bool
  readbackOk : Bool
  deriving DecidableEq, Repr

/-- State of the Grate (02). -/
structure GrateSt where
  active : Option Loaded
  staging : Option Loaded
  loader : Loader
  loadErr : LoadErr
  errRecord : Nat
  errByte : Nat
  swapCount : Word
  corrCount : Nat
  /-- A candidate check runs (GRATE_CAND_CTL.CHECK reads 1). -/
  candRunning : Bool
  waiting : Option WaitingLoad
  /-- The retained limp and policy set in PD0 (R46). -/
  retained : Retained
  retainSrc : RetainSrc
  /-- The copy of that set in MRAM, and whether its CRC-32 holds (R46). -/
  mramCopy : Option Retained
  mramOk : Bool
  /-- SYS_STATUS.RESTORING (R58). -/
  restoring : Bool
  deriving DecidableEq, Repr

def GrateSt.reset : GrateSt :=
  { active := none, staging := none, loader := .idle, loadErr := .none, errRecord := 0, errByte := 0, swapCount := 0, corrCount := 0,
    candRunning := false, waiting := none, retained := Retained.empty, retainSrc := .none, mramCopy := none, mramOk := false,
    restoring := false }

end Sys2Proof.Machine
end

