-- ==== Sys2Proof/Machine/StAxis.lean ====
section
/-! DEFINITION. State of one coordinate axis (04). Coordinates, velocities and accelerations are kept as the
integers of their Q40.24 format (R5), unwrapped (R72). -/

namespace Sys2Proof.Machine

/-- The states of an axis (R83). -/
inductive AxisPhase where
  | down | acquire | locked | coast
  deriving DecidableEq, Repr

/-- The reasons of SNAP_STAT.DOWN_REASON. -/
inductive DownReason where
  | noSource | sourceFault | coastTime | coastDist | range | chainDown
  deriving DecidableEq, Repr

/-- What the next update does to the estimator: the full tracker; velocity from this update and the last; or only
the position (R80 STILL, R82). -/
inductive Resync where
  | none | twoPoint | setPos
  deriving DecidableEq, Repr

/-- State of one axis. -/
structure AxisSt where
  phase : AxisPhase
  reason : DownReason
  /-- P, v and a of the newest state, and its MT (R77, R78). -/
  p : Int
  v : Int
  a : Int
  mtk : Nat
  /-- The last 64 accepted states, newest first: MT and coordinate (R76). -/
  history : List (Nat × Int)
  /-- MT of the last accepted update (R93). -/
  upd : Nat
  /-- Updates accepted so far (R230, FB_KIND 0x05). -/
  accepted : Nat
  /-- The sum of all increments scaled to counts, OFFSET left out (R70); pulses of a blended axis. -/
  sum : Int
  /-- The sum of path increments of a GNSS or blended axis (R86). -/
  gsum : Int
  /-- Accepted updates in ACQUIRE, and the first of them (R79). -/
  acq : Nat
  acqFirst : Nat × Int
  resync : Resync
  still : Bool
  /-- DIR of the last increment, and whether any increment was taken. -/
  dirDown : Bool
  dirKnown : Bool
  reversals : BitVec 16
  /-- What REVS adds to the whole turns of the unwrapped coordinate, so that an index shift leaves it unchanged (R89). -/
  revsAdj : Int
  /-- A source fault is present (R84); it was caused by outliers. -/
  fault : Bool
  faultOutlier : Bool
  faultCause : Option FaultCause
  outlierRun : Nat
  /-- Entry into COAST: MT and coordinate (R83). -/
  coastMt : Nat
  coastP : Int
  gnssGap : Bool
  gapMt : Nat
  pulseFault : Bool
  /-- PVT epochs since the last pulse of a blended axis (R87). -/
  epochsNoPulse : Nat
  /-- BLEND_SCALE, Q12.20 (R86), and the running stretch: GNSS distance and pulse distance in Q40.24 counts, mm. -/
  blendScale : Nat
  stretchMm : Nat
  stretchG : Int
  stretchD : Int
  /-- MT of the last published chain frame sent, and count of frames adopted (R88). -/
  pubMt : Nat
  /-- Coordinate at the pager's previous visit, and at the last far-chain sweep's bucket (R125, R127). -/
  visitP : Int
  sweepBucket : Int
  /-- ACQUIRE was entered from DOWN: pending events take the first coordinate acquired as their reference (R136). -/
  rebase : Bool
  deriving DecidableEq, Repr

def AxisSt.reset : AxisSt :=
  { phase := .down, reason := .noSource, p := 0, v := 0, a := 0, mtk := 0, history := [], upd := 0, accepted := 0, sum := 0,
    gsum := 0, acq := 0, acqFirst := (0, 0), resync := .none, still := false, dirDown := false, dirKnown := false,
    reversals := 0, revsAdj := 0, fault := false, faultOutlier := false, faultCause := none, outlierRun := 0, coastMt := 0, coastP := 0,
    gnssGap := false, gapMt := 0, pulseFault := false, epochsNoPulse := 0, blendScale := 0, stretchMm := 0,
    stretchG := 0, stretchD := 0, pubMt := 0, visitP := 0, sweepBucket := 0, rebase := false }

/-- Stored axis offset in MRAM (R92). -/
structure OffsetRec where
  serial : DWord
  structId : DWord
  gen : Nat
  offset : Int
  deriving DecidableEq, Repr

/-- State of the axis unit: the fifteen axes, the far-chain sweep position of AXT, and the stored offsets. -/
structure AxesSt where
  ax : Arr 15 AxisSt
  axtVisit : Nat
  axtSweep : Int
  stored : Arr 15 (Option OffsetRec)
  deriving DecidableEq, Repr

def AxesSt.reset : AxesSt := ⟨Arr.fill 15 AxisSt.reset, 0, 0, Arr.fill 15 none⟩

end Sys2Proof.Machine
end

