-- ==== Sys2Proof/Machine/StHob.lean ====
section
/-! DEFINITION. State of the event store and scheduler: events, notifications, commit queues (05, 06). -/

namespace Sys2Proof.Machine

/-- The timed opcodes (R96). -/
inductive EvOp where
  | fire | open | close | level | setpt | mark
  deriving DecidableEq, Repr

/-- Where a pending event stands: in the filing FIFO, on a page of the wheel, on the far chain, or in the Hob
(R118, R125, R160). -/
inductive Place where
  | fifo | wheel | far | hob
  deriving DecidableEq, Repr

/-- A timed event with the marks its record holds (R118). -/
structure EvRec where
  op : EvOp
  axis : Nat
  profile : Nat
  chan : Nat
  tag : Nat
  /-- TARGET, the integer of its Q40.8 format. -/
  target : Int
  arg : Nat
  /-- Producer 0 to 63 a ring, 64 the coverage engine (R119). -/
  producer : Nat
  /-- Acceptance number (R104) and MT of acceptance. -/
  acc : Nat
  accMt : Nat
  /-- The axis coordinate at acceptance (Q40.24, unwrapped), to which R73 refers. -/
  ref : Int
  /-- The coordinate has reached or crossed TARGET since acceptance (R128 case 1). -/
  passed : Bool
  place : Place
  replaced : Bool
  cold : Bool
  coast : Bool
  /-- MT since which a due event has waited for promotion (R131). -/
  due : Option Nat
  deriving DecidableEq, Repr

/-- What a committed edge does. -/
inductive EdgeAct where
  | on | fireOff | closeOff | duty (d : Nat) | setpt (v : Word) | mark
  deriving DecidableEq, Repr

/-- One entry of a commit queue (R133). -/
structure CEdge where
  mt : Nat
  acc : Nat
  act : EdgeAct
  /-- The delay that the commit subtracted (R126, R223). -/
  delay : Nat
  deriving DecidableEq, Repr

/-- A committed event: its record, the MT of its first edge, the edges still to run, and what its FIRED will say. -/
structure CommEv where
  ev : EvRec
  first : Nat
  left : Nat
  ran : Bool
  clipped : Bool
  skipped : Bool
  noEffect : Bool
  deriving DecidableEq, Repr

/-- A notification (R114). -/
structure Note where
  kind : Nat
  reason : Nat
  chan : Nat
  tag : Nat
  op : Nat
  flags : Nat
  /-- The eight bytes of the MT field. -/
  field : Nat
  deriving DecidableEq, Repr

/-- State of the Hob and the Woodpile. -/
structure HobSt where
  /-- STORED and QUEUED events in order of filing. -/
  events : List EvRec
  /-- Committed events not yet final. -/
  committed : List CommEv
  /-- The commit queues of the 256 targets, in order of execution (R112, R133). -/
  queues : Arr 256 (List CEdge)
  /-- The next acceptance number (R104). -/
  nextAcc : Nat
  /-- HOB_LEAD_MAX as it stands (R127). -/
  leadMax : Nat
  /-- HOB_FILL has risen above FILL_HI and not yet fallen below FILL_LO (R122). -/
  aboveHi : Bool
  storeFull : Bool
  hobFull : Bool
  pagerLag : Bool
  /-- The highest fill and Hob fill of the running cycle, and the largest lag in ticks (HOB_PUB). -/
  fillMax : Nat
  nearMax : Nat
  lagMax : Nat
  deriving DecidableEq, Repr

def HobSt.reset : HobSt :=
  { events := [], committed := [], queues := Arr.fill 256 [], nextAcc := 0, leadMax := 0, aboveHi := false,
    storeFull := false, hobFull := false, pagerLag := false, fillMax := 0, nearMax := 0, lagMax := 0 }

end Sys2Proof.Machine
end

