-- ==== Sys2Proof/Machine/StCover.lean ====
section
/-! DEFINITION. State of the coverage engine: pose, sections, map tiles and their cache, jobs and archives (10). -/

namespace Sys2Proof.Machine

/-- A pose delivered by MC0, with the path-axis coordinate at its MT (R206). Positions in mm, the heading in units of
2^-32 turn counter-clockwise from east, the curvature in units of 2^-40 per mm. -/
structure Pose where
  e : Int
  n : Int
  heading : Nat
  curv : Int
  mt : Nat
  s : Int
  deriving DecidableEq, Repr

/-- The key of a tile: layer, TX, TY (R209). -/
structure TileKey where
  layer : Nat
  tx : Int
  ty : Int
  deriving DecidableEq, Repr

/-- A cached copy of a tile: its 8 KiB as one number, byte 0 lowest; MT of its first change if dirty; last use. -/
structure CacheLine where
  data : Nat
  dirty : Option Nat
  used : Nat
  deriving DecidableEq, Repr

/-- A tile of the store (R211): slot, stored bytes, CHANGED since the last archive, the cached copy if any (R214). -/
structure Tile where
  key : TileKey
  slot : Nat
  data : Nat
  changed : Bool
  cache : Option CacheLine
  deriving DecidableEq, Repr

/-- The states of a job (R225). -/
inductive JobPhase where
  | none | pending | active | stale
  deriving DecidableEq, Repr

/-- A good archive in a half of the NAND archive area (R226). -/
structure Archive where
  jobId : DWord
  serial : DWord
  structId : DWord
  gen : Nat
  utc : Nat
  lat : Word
  lon : Word
  cell : Nat
  rateCell : Nat
  tiles : List (TileKey × Nat)
  crcOk : Bool
  deriving DecidableEq, Repr

/-- An archive or restore that MC0 is carrying out (R226). -/
inductive ArchJob where
  | none | archive | restore
  deriving DecidableEq, Repr

/-- A spray interval of a section (R223): the drive start and the switch-off edge of its actuation, t_a, t_b once its end
is known, and how far it is marked. -/
structure Spray where
  start : Nat
  from_ : Nat
  off : Option Nat
  until_ : Option Nat
  marked : Nat
  deriving DecidableEq, Repr

/-- State of one section. -/
structure SectSt where
  on : Bool
  held : Bool
  blocked : Nat
  duty : Nat
  /-- Rate at the last SETPT emitted (R221). -/
  rate : Nat
  /-- Number of the section's latest decision, and of the decision each pending event carries (R220). -/
  decision : Nat
  sprays : List Spray
  deriving DecidableEq, Repr

def SectSt.reset : SectSt := ⟨false, false, 0, 0, 0, 0, []⟩

/-- State of the coverage engine. -/
structure CoverSt where
  pose : Option Pose
  sect : Arr 160 SectSt
  tiles : List Tile
  fetches : List TileKey
  enabled : Bool
  lookShort : Bool
  claimWait : Bool
  storeFull : Bool
  emitted : Nat
  flowLast : Int
  flowMt : Nat
  /-- Events by acceptance number: the section and the decision number they carry out (R220). -/
  evDecision : List (Nat × Nat × Nat)
  /-- Events MISSED that are to be emitted again (R220). -/
  again : List (EvRec × Nat)
  lastEval : Nat
  snapS : Int
  snapE : Int
  snapN : Int
  snapH : Nat
  snapC : Int
  /-- A job command written and not yet carried out (R225). -/
  jobCmd : Nat
  /-- The SETPT of a stop is still to be emitted (R219, R224). -/
  stopDue : Bool
  job : JobPhase
  jobId : DWord
  jobStruct : DWord
  jobResult : Nat
  lat : Word
  lon : Word
  cell : Nat
  rateCell : Nat
  /-- UTC of the last write of the map, when UTC was known (R225). -/
  written : Option Nat
  dirty : Bool
  lastArch : Nat
  arch : ArchJob
  archResult : Nat
  half0 : Option Archive
  half1 : Option Archive
  tileDone : Bool
  tileResult : Nat
  deriving DecidableEq, Repr

def CoverSt.reset : CoverSt :=
  { pose := none, sect := Arr.fill 160 SectSt.reset, tiles := [], fetches := [], enabled := false, lookShort := false,
    claimWait := false, storeFull := false, emitted := 0, flowLast := 0, flowMt := 0,
    evDecision := [], again := [], lastEval := 0, snapS := 0, snapE := 0, snapN := 0, snapH := 0, snapC := 0, jobCmd := 0, stopDue := false, job := .none, jobId := 0,
    jobStruct := 0, jobResult := 0, lat := 0, lon := 0, cell := 250, rateCell := 200, written := none, dirty := false,
    lastArch := 0, arch := .none, archResult := 0, half0 := none, half1 := none, tileDone := false, tileResult := 0 }

end Sys2Proof.Machine
end

