-- ==== Sys2Proof/Machine/StIngest.lean ====
section
/-! DEFINITION. State of the event ingest: ports, rings, notification streams (07). -/

namespace Sys2Proof.Machine

/-- The states of a ring (R144). -/
inductive RingPhase where
  | disabled | idle | open
  deriving DecidableEq, Repr

/-- An event of an acknowledged batch that is not yet checked: its 16 bytes, and BSEQ and INDEX for a REJECTED. -/
structure Unchecked where
  bytes : List Byte
  /-- The port in whose receive buffer it waits (R160); 4 is Flue. -/
  port : Nat
  bseq : Word
  index : Nat
  deriving DecidableEq, Repr

/-- An outstanding FENCE: channel, tag, and the acceptance numbers of the events it waits for (R113). -/
structure FenceRec where
  chan : Nat
  tag : Nat
  waits : List Nat
  deriving DecidableEq, Repr

/-- A notification in a stream: its NSEQ, the MT at which it was formed, and the MT at which it was last sent (R155, R156). -/
structure StreamNote where
  nseq : Word
  formed : Nat
  sent : Option Nat
  note : Note
  deriving DecidableEq, Repr

/-- State of one ring. -/
structure RingSt where
  phase : RingPhase
  epoch : Nat
  ackBseq : Word
  ackEv : Word
  evLimit : Word
  /-- The next NSEQ to assign. -/
  nseq : Word
  /-- Unreleased notifications, oldest first. -/
  notes : List StreamNote
  /-- The highest NOTE_ACK taken. -/
  noteAck : Word
  addr : Option NoteAddr
  unchecked : List Unchecked
  fences : List FenceRec
  deriving DecidableEq, Repr

def RingSt.reset : RingSt :=
  ⟨.disabled, 0, 0, 0, 0, 1, [], 0, none, [], []⟩

/-- State of one network port (R140). -/
structure PortSt where
  mac : Nat
  link : Bool
  present : Bool
  los : Bool
  txFault : Bool
  deriving DecidableEq, Repr

/-- State of the ingest engine. -/
structure IngestSt where
  port : Arr 4 PortSt
  ring : Arr 64 RingSt
  /-- Ring served last, for the rotation of R152. -/
  lastServed : Fin 64
  notePause : Bool
  fifoFull : Bool
  rxDropping : Bool
  /-- MTs of the events checked in the last 100 µs, and the most of any 100 µs of the cycle (INGEST_PUB_PEAK). -/
  checked : List Nat
  peak : Nat
  /-- MT of the last UPDATE round (R147). -/
  lastUpdate : Nat
  deriving DecidableEq, Repr

def IngestSt.reset : IngestSt :=
  { port := Arr.fill 4 ⟨0, false, false, false, false⟩, ring := Arr.fill 64 RingSt.reset, lastServed := 0,
    notePause := false, fifoFull := false, rxDropping := false, checked := [], peak := 0, lastUpdate := 0 }

end Sys2Proof.Machine
end

