-- ==== Sys2Proof/Machine/StFlue.lean ====
section
/-! DEFINITION. State of the Flue chain (13). -/

namespace Sys2Proof.Machine

/-- The time states of a chain module, in the order of their codes (R287). -/
inductive FState where
  | alone | master | acquire | sync | slew | blocked | holdover
  deriving DecidableEq, Repr

/-- An election key (R282). -/
structure ElKey where
  cls : Nat
  prio : Nat
  serial : Nat
  deriving DecidableEq, Repr

/-- A route (R281): the port the node lies behind, links to it, MT of its last PRESENCE, its key. -/
structure Route where
  id : Nat
  port : Fin 2
  hops : Nat
  seen : Nat
  key : ElKey
  deriving DecidableEq, Repr

/-- State of one Flue port (R273, R284). -/
structure FPortSt where
  lock : Bool
  up : Bool
  gap : Bool
  neighbour : Nat
  /-- The last 16 link delays in half-ticks, newest first. -/
  delays : List Nat
  /-- T_SEND of the last LINK received and the MT of its arrival. -/
  heard : Option (Nat × Nat)
  linkSent : Option Nat
  badRun : Nat
  deriving DecidableEq, Repr

def FPortSt.reset : FPortSt := ⟨false, false, false, 0, [], none, none, 0⟩

/-- What the last TIME frame said of the master (R285). -/
structure MasterInfo where
  cls : Nat
  tstate : Nat
  stepNext : Bool
  leap : Nat
  unc : Nat
  m0 : Nat
  g0 : Int
  y : Int
  deriving DecidableEq, Repr

def MasterInfo.zero : MasterInfo := ⟨2, 0, false, 0, 0, 0, 0, 0⟩

/-- An entry of the table of forwarded batches (R292) or of relayed management (R293). -/
structure FwdEntry where
  dest : Nat
  ring : Nat
  addr : NoteAddr
  deriving DecidableEq, Repr

/-- State of the Flue unit. -/
structure FlueSt where
  port : Arr 2 FPortSt
  ring : Bool
  routes : List Route
  /-- The position p, and whether it has been fixed (R279). -/
  pos : Nat
  fixed : Bool
  firstUp : Option Nat
  fstate : FState
  master : Option Nat
  /-- MT of the last TIME frame, and of the last TIME frame sent. -/
  timeMt : Nat
  timeSent : Option Nat
  /-- MT since which every PRESENCE of the master showed a worse key than this module's (R283). -/
  beats : Option Nat
  /-- Offsets of the last 16 TIME frames, newest first, in 2^-16 ps. -/
  offs : List Int
  steps : Nat
  info : MasterInfo
  dup : Bool
  dupMt : Nat
  dupSerial : Nat
  presSent : Option Nat
  /-- SEQ of the last frame sent of each TYPE (R274). -/
  seq : Sparse Nat
  /-- Forwarded batches and relayed management, most recent first (R292, R293). -/
  fwd : List FwdEntry
  mgmt : List FwdEntry
  tpin : Nat
  deriving DecidableEq, Repr

def FlueSt.reset : FlueSt :=
  { port := Arr.fill 2 FPortSt.reset, ring := false, routes := [], pos := 0, fixed := false, firstUp := none,
    fstate := .alone, master := none, timeMt := 0, timeSent := none, beats := none, offs := [], steps := 0,
    info := MasterInfo.zero, dup := false, dupMt := 0, dupSerial := 0, presSent := none, seq := [], fwd := [],
    mgmt := [], tpin := 0 }

end Sys2Proof.Machine
end

