-- ==== Sys2Proof/Machine/StGnss.lean ====
section
/-! DEFINITION. State of the GNSS receiver (12). -/

namespace Sys2Proof.Machine

/-- Antenna states (R250). -/
inductive AntState where
  | off | ok | open_ | short
  deriving DecidableEq, Repr

/-- Time states of the receiver (R269). -/
inductive TState where
  | none | locked | holdover | free
  deriving DecidableEq, Repr

/-- A search cell with its power (R251). -/
structure Cell where
  signal : Nat
  sv : Nat
  phase : Nat
  bin : Int
  power : Nat
  deriving DecidableEq, Repr

/-- The acquisition engine: the strongest cell so far, passes done, the cell under its second dwell, the last cell
verified (R251). -/
structure AcqSt where
  best : Option Cell
  passes : Nat
  dwell : Option Cell
  verified : Option Cell
  deriving DecidableEq, Repr

/-- A tracking channel (R253, R254). -/
structure GcSt where
  code : Word
  carr : Word
  acc : List Word
  dumps : Nat
  unread : Bool
  overrun : Bool
  bitSync : Bool
  frameSync : Bool
  parityFail : Nat
  /-- Navigation FIFO, oldest piece first. -/
  fifo : List Word
  started : Nat
  deriving DecidableEq, Repr

def GcSt.reset : GcSt := ⟨0, 0, [0, 0, 0, 0, 0, 0], 0, false, false, false, false, 0, [], 0⟩

/-- A stored navigation item (R266): almanac, ephemeris, position, TCXO offset, in this order of `kind`. -/
structure NavItem where
  serial : DWord
  structId : DWord
  gen : Nat
  /-- SECS at the save and of the reference time, and BREAKS at the save. -/
  secs : Nat
  ref : Nat
  breaks : Nat
  crcOk : Bool
  deriving DecidableEq, Repr

/-- The time mapping (R267): GPS time at MT `m0` in units of 5·10^-13 ns, rate in 0.001 ppb. -/
structure Mapping where
  m0 : Nat
  g0 : Int
  y : Int
  deriving DecidableEq, Repr

/-- State of the receiver. -/
structure GnssSt where
  ant : AntState
  antMt : Nat
  bias : Bool
  current : Nat
  acq : AcqSt
  gc : Arr 96 GcSt
  /-- MT of the last observable epoch, and of the last solution (R256, R262). -/
  epoch : Option Nat
  solved : Option Nat
  fix : Nat
  sats : Nat
  burst : Bool
  tstate : TState
  reason : Nat
  rejects : Nat
  /-- Errors of the consecutive solutions that agree with one another in HOLDOVER or FREE, ns (R269). -/
  agree : List Int
  map : Mapping
  /-- Uncertainty in ns at the last disciplining solution, and its MT (R270). -/
  u0 : Nat
  discMt : Nat
  leap : Nat
  leapKnown : Bool
  /-- A slew: its error in units of 5·10^-13 ns and the MT it began (R271). -/
  slew : Option (Int × Nat)
  /-- A step that waits for its pulse: the error in the same unit, and whether the pulse that announces it has gone
  (R271). -/
  step : Option (Int × Bool)
  /-- This module took over the chain while LOCKED: its next solution is a return (R283). -/
  retDue : Bool
  /-- MT of the last whole second reached, and of the last pulse driven with its GPS week and second (R268). -/
  secMt : Nat
  pulseMt : Nat
  pulseWeek : Nat
  pulseTow : Nat
  /-- Course last held above REV_SPEED, and whether the speed has fallen below it since (R264). -/
  course : Option Nat
  slow : Bool
  reverse : Bool
  heading : Nat
  headMt : Nat
  held : Bool
  /-- Remainder of the path in µm (R264). -/
  pathRem : Int
  yaw : Int
  /-- Mean of each system's time offset over the last 10 epochs: the offsets, newest first (R260 check 4). -/
  isb : List (List Int)
  rtcm : List Byte
  /-- GPS time in ns of the newest MSM set, base point known, BASE_ID (R265). -/
  msm : Option Int
  base : Bool
  baseId : Nat
  nav : Arr 4 (Option NavItem)
  navChanged : Bool
  navRef : Arr 4 Nat
  lastSave : Nat
  almStale : Bool
  ephStale : Bool
  deriving DecidableEq, Repr

def GnssSt.reset : GnssSt :=
  { ant := .off, antMt := 0, bias := false, current := 0, acq := ⟨none, 0, none, none⟩, gc := Arr.fill 96 GcSt.reset,
    epoch := none, solved := none, fix := 0, sats := 0, burst := false, tstate := .none, reason := 0, rejects := 0,
    agree := [], map := ⟨0, 0, 0⟩, u0 := 0, discMt := 0, leap := 0, leapKnown := false, slew := none, step := none,
    retDue := false, secMt := 0, pulseMt := 0, pulseWeek := 0, pulseTow := 0, course := none, slow := false, reverse := false, heading := 0,
    headMt := 0, held := true, pathRem := 0, yaw := 0, isb := [], rtcm := [], msm := none, base := false, baseId := 0,
    nav := Arr.fill 4 none, navChanged := false, navRef := Arr.fill 4 0, lastSave := 0, almStale := false,
    ephStale := false }

end Sys2Proof.Machine
end

