-- ==== Sys2Proof/Machine/StLoop.lean ====
section
/-! DEFINITION. State of the loop engine (11) and of the CAN controllers (16). -/

namespace Sys2Proof.Machine

/-- The modes of a loop (R237). -/
inductive LMode where
  | stop | manual | auto
  deriving DecidableEq, Repr

/-- State of one loop. `r`, `v` and `a` are in Q47.16 set-point units, `i` in Q47.16 output units, `filt` in Q47.16
set-point units per sample (R234, R235). -/
structure LoopSt where
  mode : LMode
  bank : Bool
  g : Int
  r : Int
  v : Int
  a : Int
  raw : Int
  y : Int
  e : Int
  p : Int
  i : Int
  xPrev : Int
  filt : Int
  d : Int
  f : Int
  u : Int
  intClamped : Bool
  outClamped : Bool
  intHeld : Bool
  outOff : Bool
  sampleMt : Nat
  fresh : Nat
  staleN : Nat
  /-- New feedback values since the last sample (R244), and the axis updates counted so far. -/
  newVals : Nat
  seenUpd : Nat
  /-- FI feedback (R413): stamp of the last edge used, edges received since the last sample and the stamp of the latest,
  and whether a period has been formed since power-on. -/
  lastEdge : Option Nat
  edges : Nat
  latest : Nat
  formed : Bool
  /-- Armed software set-point and feedback: MT and value (R232); the software feedback in force. -/
  sp : Option (Nat × Int)
  fbArm : Option (Nat × Int)
  fbSw : Int
  /-- The value of the last frame that gave one (R346). -/
  canRaw : Int
  deriving DecidableEq, Repr

def LoopSt.reset : LoopSt :=
  { mode := .stop, bank := false, g := 0, r := 0, v := 0, a := 0, raw := 0, y := 0, e := 0, p := 0, i := 0, xPrev := 0,
    filt := 0, d := 0, f := 0, u := 0, intClamped := false, outClamped := false, intHeld := false, outOff := false,
    sampleMt := 0, fresh := 0, staleN := 0, newVals := 0, seenUpd := 0, lastEdge := none, edges := 0, latest := 0, formed := false,
    sp := none, fbArm := none, fbSw := 0, canRaw := 0 }

/-- Both banks and BANK_SEL of a loop in MRAM (R247). -/
structure StoredBanks where
  serial : DWord
  structId : DWord
  gen : Nat
  regs : Sparse Word
  sel : Bool
  crcOk : Bool
  deriving DecidableEq, Repr

/-- The states of the trace (R245). -/
inductive TrPhase where
  | idle | armed | triggered | done
  deriving DecidableEq, Repr

/-- The states of an injection (R246). -/
inductive InjPhase where
  | idle | running | done | aborted
  deriving DecidableEq, Repr

/-- State of the loop engine. -/
structure LoopsSt where
  lp : Arr 32 LoopSt
  stored : Arr 32 (Option StoredBanks)
  trace : TrPhase
  /-- Samples of each trace channel, newest first: MT and word. -/
  samples : Arr 8 (List (Nat × Word))
  trigMt : Nat
  inj : InjPhase
  injIx : Nat
  /-- Capture words, newest first. -/
  cap : List Word
  deriving DecidableEq, Repr

def LoopsSt.reset : LoopsSt :=
  { lp := Arr.fill 32 LoopSt.reset, stored := Arr.fill 32 none, trace := .idle, samples := Arr.fill 8 [], trigMt := 0,
    inj := .idle, injIx := 0, cap := [] }

/-- The states of a controller: disabled, waiting for 11 recessive bits, and those of CAN_CN STATUS.STATE (R332, R343,
R344). -/
inductive CanPhase where
  | disabled | integrating | active | passive | busOff | recovering
  deriving DecidableEq, Repr

/-- State of a message object. -/
structure ObjSt where
  /-- TXSTATE (R341). -/
  tx : Nat
  retries : Nat
  /-- ABORT was written during the object's own frame (R341). -/
  aborting : Bool
  rx : Option CanFrame
  deriving DecidableEq, Repr

def ObjSt.reset : ObjSt := ⟨0, 0, false, none⟩

/-- State of a controller. -/
structure CnSt where
  phase : CanPhase
  tec : Nat
  recv : Nat
  obj : Arr 128 ObjSt
  /-- Tunnel requests received and not yet executed, oldest first, and the response that MO127 holds (R348). -/
  tunReq : List CanFrame
  tunRsp : List Byte
  deriving DecidableEq, Repr

def CnSt.reset : CnSt := ⟨.disabled, 0, 0, Arr.fill 128 ObjSt.reset, [], []⟩

/-- State of the CAN block; the termination switches lie in PD0 (R334). -/
structure CanSt where
  cn : Arr 4 CnSt
  term : Nat
  deriving DecidableEq, Repr

def CanSt.reset : CanSt := ⟨Arr.fill 4 CnSt.reset, 0⟩

end Sys2Proof.Machine
end

