-- ==== Sys2Proof/Machine/StLearn.lean ====
section
/-! DEFINITION. State of the learning unit (08). -/

namespace Sys2Proof.Machine

/-- The learning states of a channel (R172). -/
inductive LearnPhase where
  | none | cold | pending | warm | pair
  deriving DecidableEq, Repr

/-- One side of a channel: the estimate in ticks, the count of valid measurements, the sum of the running mean
(R167), the outlier run (R168), and what the Hob saw before the last change, until tick `from_` (R171). -/
structure SideSt where
  est : Nat
  n : Nat
  sum : Nat
  run : List Nat
  runUp : Bool
  prevEst : Nat
  prevN : Nat
  from_ : Nat
  /-- Last measurement and its R166 code. -/
  lastM : Nat
  lastCode : Nat
  deriving DecidableEq, Repr

def SideSt.zero : SideSt := ⟨0, 0, 0, [], false, 0, 0, 0, 0, 0⟩

/-- A record of the delay table in MRAM (R175). -/
structure DelayRec where
  serial : DWord
  structId : DWord
  gen : Nat
  estOpen : Nat
  estClose : Nat
  nOpen : Nat
  nClose : Nat
  fpR : Nat
  fpL : Nat
  crcOk : Bool
  deriving DecidableEq, Repr

/-- Learning state of one valve channel. -/
structure LearnCh where
  phase : LearnPhase
  prevPhase : LearnPhase
  phaseFrom : Nat
  open_ : SideSt
  close : SideSt
  /-- Last and stored fingerprint: R in 10 mΩ, L in µH (R173). -/
  fpRLast : Nat
  fpLLast : Nat
  fpR : Nat
  fpL : Nat
  mismatches : Nat
  reseat : Bool
  swapped : Bool
  stale : Bool
  valid : Nat
  rejected : Nat
  /-- An estimate or fingerprint has changed since the last save, or a record must be erased (R176). -/
  changed : Bool
  erase : Bool
  /-- An opening and a closing measurement are in progress (R178): the drive start and the switch-off edge. -/
  openMeas : Option Nat
  closeMeas : Option Nat
  /-- The settings in force at the edge of the measurement in progress (the chapter's register section). -/
  openCfg : Sparse Word
  closeCfg : Sparse Word
  /-- The actuation that a closing measurement belongs to: its profile, a fault in it, an internal PWM edge. -/
  closeProf : Nat
  closeFault : Bool
  closePwm : Bool
  deriving DecidableEq, Repr

def LearnCh.clear (p : LearnPhase) : LearnCh :=
  { phase := p, prevPhase := p, phaseFrom := 0, open_ := SideSt.zero, close := SideSt.zero, fpRLast := 0,
    fpLLast := 0, fpR := 0, fpL := 0, mismatches := 0, reseat := false, swapped := false, stale := false,
    valid := 0, rejected := 0, changed := false, erase := false, openMeas := none, closeMeas := none,
    openCfg := [], closeCfg := [], closeProf := 0, closeFault := false, closePwm := false }

/-- State of the learning unit. -/
structure LearnSt where
  ch : Arr 128 LearnCh
  /-- The two copies of the delay table in MRAM (R175). -/
  table0 : Arr 128 (Option DelayRec)
  table1 : Arr 128 (Option DelayRec)
  restored : Bool
  saving : Bool
  lastSave : Nat
  deriving DecidableEq, Repr

def LearnSt.reset : LearnSt :=
  { ch := Arr.fill 128 (LearnCh.clear .none), table0 := Arr.fill 128 none, table1 := Arr.fill 128 none,
    restored := false, saving := false, lastSave := 0 }

end Sys2Proof.Machine
end

