-- ==== Sys2Proof/Machine/StVdrv.lean ====
section
/-! DEFINITION. State of the valve drive array, the Bellows and the Damper (09). -/

namespace Sys2Proof.Machine

/-- The phases of a channel, in the order of their codes (R183). -/
inductive VPhase where
  | idle | wait | boost | peak | hold | decay | held | limp | fault
  deriving DecidableEq, Repr

/-- The values of a profile set as a channel latches them (R182): times in the units of their register fields. -/
structure Prof where
  boostT : Nat
  peakT : Nat
  peakI : Nat
  holdI : Nat
  waitMax : Nat
  chopF : Nat
  slowPth : Bool
  busyReject : Bool
  reopenFull : Bool
  pwm : Bool
  pwmFreq : Nat
  offMin : Nat
  dutyMax : Nat
  holdFloor : Nat
  dutyBurst : Nat
  deriving DecidableEq, Repr

def Prof.zero : Prof := ⟨0, 0, 0, 0, 0, 0, false, false, false, false, 0, 0, 100, 0, 0⟩

/-- What a switch-on that has not started waits for: a boost start (R189), or the end of the minimum gap or of DECAY
under REOPEN = FULL (R187). -/
inductive StartWait where
  | none | gap (at_ : Nat) | decayFull | reopen (at_ : Nat)
  deriving DecidableEq, Repr

/-- State of one valve channel; a pair lives in its even channel (R190). -/
structure VcSt where
  phase : VPhase
  /-- The claim set: acceptance number and PROFILE of each event (R186). -/
  claims : List (Nat × Nat)
  /-- The LEVEL duty, and the PROFILE of the LEVEL in force (R186, R415). -/
  level : Nat
  levelProf : Nat
  /-- The latched profile set and its values (R415). -/
  prof : Nat
  lat : Prof
  /-- Peak current admitted, mA (R196). -/
  peakMa : Nat
  /-- MT of the switch-on edge, of the drive start, of the boost start and of the end of PEAK. -/
  onEdge : Nat
  driveStart : Nat
  boostStart : Nat
  peakEnd : Nat
  /-- MT of the last switch-off edge, if any (R187). -/
  lastOff : Option Nat
  startWait : StartWait
  waitSince : Nat
  /-- This actuation: skipped its boost; its boost waited; started from DECAY; a fault, limp-home or HELD drive took
  part; its decay used the clamp; its decay is on the clamp now; the peak current was reached. -/
  skipped : Bool
  waited : Bool
  reopened : Bool
  faulted : Bool
  clamped : Bool
  onClamp : Bool
  reached : Bool
  /-- A FIRE's own switch-off is held until the end of PEAK (R99): the acceptance numbers. -/
  heldOffs : List Nat
  /-- PWM: running, inside a pulse, end of the pulse, MT of the raising edge (R191), and whether the actuation is a
  pulse after the first (an internal PWM edge, R166). -/
  pwmRun : Bool
  pulse : Bool
  pulseStart : Nat
  pulseEnd : Nat
  pwmEdge : Nat
  nextPulse : Nat
  internalOn : Bool
  internalOff : Bool
  /-- Consecutive actuations without PEAK_I reached, and the SLOW_RISE condition (R200). -/
  slowRuns : Nat
  slowRise : Bool
  peakLimited : Bool
  /-- The duty accumulator A in units of 1/40,000 µs as it stood at MT `dutyMt`, and the cut (R197). -/
  dutyAcc : Nat
  dutyMt : Nat
  dutyCut : Bool
  /-- End of HELD under a HOLD reset policy (R203). -/
  heldUntil : Nat
  /-- Driven in LIMP by the limp-home mapping (R204). -/
  limpDrive : Bool
  /-- Delays of the last switch-on and switch-off edges committed by an event (R223). -/
  dOn : Option Nat
  dOff : Option Nat
  deriving DecidableEq, Repr

def VcSt.reset : VcSt :=
  { phase := .idle, claims := [], level := 0, levelProf := 0, prof := 0, lat := Prof.zero, peakMa := 0, onEdge := 0,
    driveStart := 0, boostStart := 0, peakEnd := 0, lastOff := none, startWait := .none, waitSince := 0,
    skipped := false, waited := false, reopened := false, faulted := false, clamped := false, onClamp := false,
    reached := false, heldOffs := [], pwmRun := false, pulse := false, pulseStart := 0, pulseEnd := 0, pwmEdge := 0,
    nextPulse := 0, internalOn := false, internalOff := false, slowRuns := 0, slowRise := false, peakLimited := false,
    dutyAcc := 0, dutyMt := 0, dutyCut := false, heldUntil := 0, limpDrive := false, dOn := none, dOff := none }

/-- The rail of a bank (VDRV_BANK STATUS.RAIL). -/
inductive Rail where
  | vsol | bellows | off
  deriving DecidableEq, Repr

/-- State of one bank: its selector, and the channel in BOOST. -/
structure BankSt where
  rail : Rail
  owner : Option (Fin 128)
  deriving DecidableEq, Repr

/-- State of one half: its VSOL input, its Bellows converter, its power die. -/
structure HalfSt where
  /-- VSOL in mV, and whether it is below VSOL_WARN (R198). -/
  vsol : Nat
  vsolWarn : Bool
  /-- The reduced budget is in force, and the MT at which the last warning ended (R199). -/
  reduced : Bool
  okSince : Nat
  uv : Bool
  /-- The hold factor f in % (R196). -/
  factor : Nat
  /-- Bellows: rail voltage in mV, running, FULL, OV, LOW, input current in mA (R192, R193, R200). -/
  rail : Nat
  run : Bool
  full : Bool
  ov : Bool
  low : Bool
  inputMa : Nat
  /-- The die stands at or above 170 °C, until below 150 °C (R200). -/
  dieOt : Bool
  deriving DecidableEq, Repr

/-- State of the valve drive array. -/
structure VdrvSt where
  ch : Arr 128 VcSt
  bank : Arr 16 BankSt
  half : Arr 2 HalfSt
  /-- RESETPOL writes to be copied into PD0 retention at the next boundary, by output channel number (R202). -/
  polWrites : List (Nat × Nat)
  deriving DecidableEq, Repr

def VdrvSt.reset : VdrvSt :=
  { ch := Arr.fill 128 VcSt.reset, bank := Arr.fill 16 ⟨.off, none⟩,
    half := Arr.fill 2 ⟨0, false, false, 0, false, 100, 0, false, false, false, false, 0, false⟩, polWrites := [] }

end Sys2Proof.Machine
end

