-- ==== Sys2Proof/Machine/StSys.lean ====
section
/-! DEFINITION. State of the Ash log (17), of life-cycle, keys, slots, delivery and activation (18), and of supplies,
resets, sleep and the always-on counters (19). -/

namespace Sys2Proof.Machine

/-- The classes of a record (R350). -/
inductive AshClass where
  | operation | fault | power | security
  deriving DecidableEq, Repr

/-- A record of the Ash log but for its CRC and VALID words, which its other fields fix (R350). -/
structure AshRec where
  seq : Word
  code : Nat
  cls : AshClass
  rep : Nat
  mt : Nat
  boots : Nat
  secs : Nat
  data : List Byte
  /-- The initiator of an application post, by its number among the initiators (R353, R357). -/
  by_ : Option Nat
  deriving DecidableEq, Repr

/-- The stages of a clear (R360). -/
inductive ClearPhase where
  | none | requested | running
  deriving DecidableEq, Repr

/-- State of the Ash log service. -/
structure AshSt where
  /-- The valid records by slot (R351). -/
  slots : List (Nat × AshRec)
  head : Word
  tail : Word
  wrapped : Bool
  ready : Bool
  /-- The staging queue, oldest first (R353). -/
  staged : List AshRec
  /-- The SEQ of the next record posted. -/
  nextSeq : Word
  /-- Posts dropped since the queue last had room, and the MT of the first of them (R354). -/
  lost : Nat
  lostMt : Nat
  dropped : Word
  /-- Application posts taken in this Mantel cycle (R357). -/
  appPosts : Nat
  clear : ClearPhase
  /-- Who asked for the clear: SYS_BUSERR_INFO code and key slot (R355). -/
  clearBy : Nat
  clearKey : Nat
  clearDone : Bool
  clearResult : Nat
  /-- The read ports by initiator number (R356); an initiator not listed has a port of zeros. -/
  ports : List (Nat × AshPort)
  /-- The post data words by initiator (R357), keyed by 8 × initiator + word. -/
  postData : Sparse Word
  deriving DecidableEq, Repr

def AshSt.reset : AshSt :=
  { slots := [], head := 0, tail := 0, wrapped := false, ready := false, staged := [], nextSeq := 1, lost := 0,
    lostMt := 0, dropped := 0, appPosts := 0, clear := .none, clearBy := 0, clearKey := 0, clearDone := false,
    clearResult := 0, ports := [], postData := [] }

/-- The life-cycle states (R361). -/
inductive LifeCycle where
  | manufacture | develop | field | return_ | scrapped
  deriving DecidableEq, Repr

/-- The life-cycle fuses (R361). -/
structure Fuses where
  scrap : Bool
  field : Bool
  dev : Bool
  retIn : Nat
  retOut : Nat
  /-- Revocation fuses of the four Relonco root slots (R365). -/
  rootRevoked : Nat
  ownerRoot : Bool
  deriving DecidableEq, Repr

/-- An enrolled key (R365). -/
structure KeyRec where
  priv : Bool
  key : List Byte
  deriving DecidableEq, Repr

/-- What a slot of NAND holds (R367, R368). -/
inductive SlotPhase where
  | empty | receiving | stored
  deriving DecidableEq, Repr

/-- One NAND slot: the blocks held by block number, the header, and the decrypted structure area. -/
structure PkgSlot where
  phase : SlotPhase
  hdr : List Byte
  blocks : List (Nat × List Byte)
  image : List Byte
  /-- A page of the slot can no longer be corrected (R395). -/
  bad : Bool
  deriving DecidableEq, Repr

def PkgSlot.blank : PkgSlot := ⟨.empty, [], [], [], false⟩

/-- The sources of a delivery (SEC_DEL_STATUS.SOURCE). -/
inductive DelSrc where
  | session | register | flue
  deriving DecidableEq, Repr

/-- The activation states (SEC_ACT_STATUS.STATE). -/
inductive ActPhase where
  | idle | preparing | pause
  deriving DecidableEq, Repr

/-- A settings area: the stored register values of the restored blocks, and the format (R377). -/
structure SettingsArea where
  format : Nat
  regs : Sparse Word
  deriving DecidableEq, Repr

/-- The boot control record in MRAM (R374). -/
structure BootRec where
  active : Slot
  trial : Bool
  trialBoots : Nat
  fallback : Slot
  fwFloor : Nat
  structFloor : Nat
  /-- The settings area of each slot: the area number each uses. -/
  areaA : Nat
  areaB : Nat
  deriving DecidableEq, Repr

/-- State of the security subsystem. -/
structure SecSt where
  fuses : Fuses
  /-- The state as derived at the last boot (R361). -/
  lc : LifeCycle
  keys : Arr 64 (Option KeyRec)
  slotA : PkgSlot
  slotB : PkgSlot
  boot : BootRec
  area : Arr 2 SettingsArea
  /-- The settings area in use since boot. -/
  areaNow : Nat
  fallbackBoot : Bool
  failedSlot : Slot
  reason : Nat
  delivery : Option DelSrc
  delSrc : DelSrc
  delDone : Bool
  delResult : Nat
  act : ActPhase
  force : Bool
  disarm : Bool
  actDone : Bool
  actResult : Nat
  /-- MT at which the pause began (R371). -/
  b0 : Nat
  /-- The firmware of the slot being activated runs, so that the swap may take place (R371). -/
  swapReady : Bool
  /-- A warm restart is due (R371, R374, R378). -/
  warmDue : Bool
  lcResult : Nat
  /-- Firmware has been started and has not given BOOT_OK: MT of its start (R374). -/
  bootWait : Option Nat
  /-- The boot in progress has failed, with this reason code, and Kindling is to act on it (R375). -/
  bootFail : Option Nat
  recovery : Bool
  nonce : Nat
  fwVersion : Word
  deriving DecidableEq, Repr

def SecSt.reset : SecSt :=
  { fuses := ⟨false, false, true, 0, 0, 0, false⟩, lc := .develop, keys := Arr.fill 64 none, slotA := PkgSlot.blank,
    slotB := PkgSlot.blank, boot := ⟨.a, false, 0, .b, 0, 0, 0, 1⟩, area := Arr.fill 2 ⟨0, []⟩, areaNow := 0,
    fallbackBoot := false, failedSlot := .a, reason := 0, delivery := none, delSrc := .session, delDone := false,
    delResult := 0, act := .idle, force := false, disarm := false, actDone := false, actResult := 0, b0 := 0,
    swapReady := false, warmDue := false, lcResult := 0, bootWait := none, bootFail := none, recovery := false, nonce := 0,
    fwVersion := 0 }

/-- The arm states (R382). -/
inductive ArmPhase where
  | disarmed | arming | armed
  deriving DecidableEq, Repr

/-- The reset causes (R389). -/
inductive ResetCause where
  | powerOn | vbatLow | watchdog | software | lifecycle | thermal | wake | debug | warmRestart
  deriving DecidableEq, Repr

/-- A reset in progress: its first cause, the onset of its latest cause, and that a further cause arrived (R390, R414). -/
structure ResetHold where
  cause : ResetCause
  onset : Nat
  multiple : Bool
  deriving DecidableEq, Repr

/-- State of the PWR block and of PD0. -/
structure PwrSt where
  arm : ArmPhase
  /-- Banks still to probe, and the channel under probe (R174, R382). -/
  probes : List (Fin 128)
  armDone : Bool
  armResult : Nat
  lastDisarm : Nat
  /-- MT at which the arm watchdog was started or last kicked (R384). -/
  kick : Nat
  vbatWarn : Bool
  vbatOv : Bool
  domains : Nat
  dieHot : Bool
  hold : Option ResetHold
  /-- Onset of a PD2 reset in progress (R414), and its area (R355). -/
  pd2Hold : Option Nat
  pd2Resets : Nat
  cause : Nat
  wakeSrc : Nat
  multiple : Bool
  bootCount : Nat
  /-- SECS at MT `secsMt`, from which it counts on (R394), and BREAKS. -/
  secsBase : Nat
  secsMt : Nat
  breaks : Nat
  asleep : Bool
  /-- MT of the last sleep entry (R393). -/
  sleepMt : Nat
  cmdDone : Bool
  cmdResult : Nat
  eccDram : Nat
  eccSram : Nat
  refreshed : Nat
  nandCorr : Nat
  /-- SECS of the last full DRAM scrub (R396). -/
  scrubSecs : Nat
  deriving DecidableEq, Repr

def PwrSt.reset : PwrSt :=
  { arm := .disarmed, probes := [], armDone := false, armResult := 0, lastDisarm := 0, kick := 0, vbatWarn := false, vbatOv := false, domains := 1, dieHot := false,
    hold := none, pd2Hold := none, pd2Resets := 0, cause := 0x0001, wakeSrc := 0, multiple := false, bootCount := 0,
    secsBase := 0, secsMt := 0, breaks := 0, asleep := false, sleepMt := 0, cmdDone := false, cmdResult := 0,
    eccDram := 0, eccSram := 0, refreshed := 0, nandCorr := 0, scrubSecs := 0 }

end Sys2Proof.Machine
end

