-- ==== Sys2Proof/Machine/StOutputs.lean ====
section
/-! DEFINITION. State of the load switches and limp-home (15), and of the field I/O, the barrier, the analog inputs and
the sensor supplies (14). -/

namespace Sys2Proof.Machine

/-- What a load switch waits for after a trip (R321, R322). -/
inductive LsWait where
  | none | retry (until_ : Nat) | thermal
  deriving DecidableEq, Repr

/-- What a load switch keeps from the onset of a reset: whether it was half of a bridge, and the BRAKE and OFF_STATE then in
force (R324). -/
structure LsKeep where
  bridge : Bool
  brake : Bool
  offLow : Bool
  deriving DecidableEq, Repr

/-- The low side of LS0 to LS3: off, on, or on for the rest of each PWM period (R317, R318). -/
inductive LowSide where
  | off | on | rest
  deriving DecidableEq, Repr

/-- State of one load switch. -/
structure LsSt where
  /-- The claim set: acceptance numbers (R316, R186). -/
  claims : List Nat
  /-- The LEVEL duty, and the signed output of an owning loop. -/
  level : Nat
  u : Int
  wait : LsWait
  retries : Nat
  /-- A wait ended with the channel commanded off: its next switch-on is an attempt (R321). -/
  owed : Bool
  /-- The junction has reached 170 °C and has not yet fallen below 150 °C (R322). -/
  hot : Bool
  /-- LATCHED (R323). -/
  latched : Bool
  openOff : Bool
  /-- MT since which the channel has been on without a trip (R321). -/
  onSince : Option Nat
  /-- End of a HOLD under a reset policy (R324). -/
  heldUntil : Option Nat
  keep : Option LsKeep
  /-- Driven by limp-home: the duty of 255 (R326); and off until limp-home ends, its retries used up. -/
  limp : Option Nat
  limpDead : Bool
  deriving DecidableEq, Repr

def LsSt.reset : LsSt :=
  { claims := [], level := 0, u := 0, wait := .none, retries := 0, owed := false, hot := false, latched := false,
    openOff := false, onSince := none, heldUntil := none, keep := none, limp := none, limpDead := false }

/-- State of the load switches, their supply, and limp-home in PD0. -/
structure LswSt where
  ch : Arr 16 LsSt
  uv : Bool
  /-- Limp-home: ACTIVE, the pins after their filters (R325, R327). -/
  limpActive : Bool
  lhEn : Bool
  lhIn : Nat
  deriving DecidableEq, Repr

def LswSt.reset : LswSt := ⟨Arr.fill 16 LsSt.reset, false, false, false, 0⟩

/-- State of one field output, both sides of the barrier. -/
structure FoSt where
  claims : List Nat
  level : Nat
  u : Nat
  /-- Latched by its own fault, as the field side reports it (R305, R306). -/
  latched : Bool
  /-- The junction has reached 170 °C and has not yet fallen below 150 °C. -/
  hot : Bool
  openLoad : Bool
  heldUntil : Option Nat
  /-- Driven by limp-home: on or off (R307). -/
  limp : Option Bool
  /-- What the field side last received: on, PWM, duty (R297). -/
  rxOn : Bool
  rxPwm : Bool
  rxDuty : Nat
  deriving DecidableEq, Repr

def FoSt.reset : FoSt :=
  { claims := [], level := 0, u := 0, latched := false, hot := false, openLoad := false,
    heldUntil := none, limp := none, rxOn := false, rxPwm := false, rxDuty := 0 }

/-- The field supply states (R308); `noData` is code 4. -/
inductive VState where
  | normal | warn | cut | restore | noData
  deriving DecidableEq, Repr

/-- State of one field input; `lost` is the level last recognised during a barrier fault, which the held level takes at its end. -/
structure FiSt where
  level : Bool
  lastRise : Option Nat
  lost : Option Bool
  deriving DecidableEq, Repr

/-- One analog input: the conversions since the averaging restarted, newest first, and the input's conditions. -/
structure AiSt where
  conv : List Nat
  settleFrom : Option Nat
  /-- Live conditions (R311): open or short, over. -/
  open_ : Bool
  short : Bool
  over_ : Bool
  /-- MT at which the burden was opened, while it is open. -/
  burdenOpen : Option Nat
  deriving DecidableEq, Repr

def AiSt.reset : AiSt := ⟨[], none, false, false, false, none⟩

/-- One direction of the barrier: SEQ of the last frame with a correct CRC, and the runs of bad and good frames. -/
structure BarrierDir where
  ref : Option Nat
  bad : Nat
  good : Nat
  fault : Bool
  deriving DecidableEq, Repr

def BarrierDir.reset : BarrierDir := ⟨none, 0, 0, false⟩

/-- State of the field I/O. -/
structure FioSt where
  fo : Arr 16 FoSt
  fi : Arr 32 FiSt
  ai : Arr 16 AiSt
  /-- MT of the last conversion's sample instant, and SEQ (R310). -/
  aiMt : Nat
  aiSeq : Nat
  down : BarrierDir
  up : BarrierDir
  badFrames : Nat
  faults : Nat
  fiLost : Bool
  frameSeq : Nat
  vstate : VState
  volt : Nat
  vfOver : Bool
  ready : Bool
  /-- MT at which the restore timer started (R308). -/
  restoreFrom : Nat
  /-- The latch of the field supply or of the barrier on the logic side; the field side's own latch (R299). -/
  latch : Bool
  fieldLatch : Bool
  /-- REL is sent in the next downstream frames (R299). -/
  rel : Bool
  /-- Sensor supplies switched off and latched (R313). -/
  ssLatched : Nat
  /-- Next output of the duty cycle of the downstream frames (R297). -/
  dutyIdx : Nat
  dutyNew : List Nat
  deriving DecidableEq, Repr

def FioSt.reset : FioSt :=
  { fo := Arr.fill 16 FoSt.reset, fi := Arr.fill 32 ⟨false, none, none⟩, ai := Arr.fill 16 AiSt.reset, aiMt := 0, aiSeq := 0,
    down := BarrierDir.reset, up := BarrierDir.reset, badFrames := 0, faults := 0, fiLost := false, frameSeq := 0,
    vstate := .noData, volt := 0, vfOver := false, ready := false, restoreFrom := 0, latch := false,
    fieldLatch := false, rel := false, ssLatched := 0, dutyIdx := 0, dutyNew := [] }

end Sys2Proof.Machine
end

