-- ==== Sys2Proof/Machine/StModule.lean ====
section
/-! DEFINITION. The module's state but for memory and the command queue: one part per chapter. -/

namespace Sys2Proof.Machine

structure Module where
  time : TimeSt
  regs : RegSt
  core : Arr 4 CoreSt
  plic : PlicSt
  sess : Arr 8 SessSt
  variant : Variant
  serial : DWord
  grate : GrateSt
  axes : AxesSt
  hob : HobSt
  ingest : IngestSt
  learn : LearnSt
  vdrv : VdrvSt
  cover : CoverSt
  loops : LoopsSt
  gnss : GnssSt
  flue : FlueSt
  can : CanSt
  lsw : LswSt
  fio : FioSt
  ash : AshSt
  sec : SecSt
  pwr : PwrSt
  out : List OutMsg
  /-- Free values handed out so far (the model's own field). -/
  freeCtr : Nat
  deriving DecidableEq, Repr

end Sys2Proof.Machine
end

