-- ==== Sys2Proof/Machine/Ops.lean ====
section
/-! DEFINITION. The named operations every family uses: module time and the steps of a tick, the register stores,
interrupt flags, messages, free values. -/

namespace Sys2Proof.Machine

/-! ## Module time -/

/-- MT as a number (R13). -/
def Module.mt (m : Module) : Nat := m.time.mt.toNat

/-- Bring module time to `t` when `t` lies ahead; a new tick has reached no step of R135 yet. -/
def Module.advanceTo (m : Module) (t : Nat) : Module :=
  if m.mt < t then { m with time := ⟨BitVec.ofNat 64 t, 0, 0, m.time.src, m.time.boundary⟩ } else m

/-- One DCLK tick passes. -/
def Module.tick (m : Module) : Module := m.advanceTo (m.mt + 1)

/-- Take step `k` of R135 in this tick, or in the next tick when this one is past step `k`. -/
def Module.enterPhase (m : Module) (k : Nat) : Module :=
  let m := if k < m.time.phase then m.tick else m
  { m with time := { m.time with phase := k } }

/-- The Mantel cycle that contains MT (R13). -/
def Module.cycle (m : Module) : Nat := m.mt / cycleTicks

/-- The MT of the next Mantel cycle boundary, this tick's included (R13). -/
def Module.nextBoundary (m : Module) : Nat := cdiv m.mt cycleTicks * cycleTicks

/-! ## Registers -/

/-- The value a register holds in the store (R8, R12). -/
def Module.rd (m : Module) (off : Nat) : Word := Sparse.get resetOf m.regs.rw off

/-- Store a register's value. -/
def Module.wr (m : Module) (off : Nat) (v : Word) : Module :=
  { m with regs := { m.regs with rw := Sparse.set resetOf m.regs.rw off v } }

/-- The value in force of a register of a shadow set (R17). -/
def Module.cfg (m : Module) (off : Nat) : Word := Sparse.get resetOf m.regs.act off

/-- Bits `[h:l]` of a stored register. -/
def Module.rf (m : Module) (off h l : Nat) : Nat := fld (m.rd off) h l

/-- Bits `[h:l]` of a register in force. -/
def Module.cf (m : Module) (off h l : Nat) : Nat := fld (m.cfg off) h l

/-- Bit `i` of a register in force. -/
def Module.cb (m : Module) (off i : Nat) : Bool := bit (m.cfg off) i

/-- Set bits in a stored register. -/
def Module.orR (m : Module) (off : Nat) (v : Word) : Module := m.wr off (m.rd off ||| v)

/-- Clear bits in a stored register. -/
def Module.clrR (m : Module) (off : Nat) (v : Word) : Module := m.wr off (m.rd off &&& ~~~ v)

/-- Set bit `i` of a flag register (R57: the hardware's set stands). -/
def Module.raise (m : Module) (off i : Nat) : Module := m.orR off (1#32 <<< i)

/-- Set or clear bit `i` of a stored register. -/
def Module.setBit (m : Module) (off i : Nat) (b : Bool) : Module :=
  if b then m.orR off (1#32 <<< i) else m.clrR off (1#32 <<< i)

/-- Write field `[h:l]` of a stored register. -/
def Module.setF (m : Module) (off h l : Nat) (x : Nat) : Module :=
  let mask := (2 ^ (h - l + 1) - 1) * 2 ^ l
  m.wr off (w32 (((m.rd off).toNat &&& (2 ^ 32 - 1 - mask)) ||| ((x % 2 ^ (h - l + 1)) * 2 ^ l)))

/-- Count one more in a 32-bit counter, modulo 2^32. -/
def Module.count (m : Module) (off : Nat) : Module := m.wr off (m.rd off + 1)

/-- Add to field `[h:l]` of a stored register, saturating. -/
def Module.addSat (m : Module) (off h l : Nat) (n : Nat) : Module :=
  m.setF off h l (satU (h - l + 1) (m.rf off h l + n))

/-! ## Messages and free values -/

/-- Send a message. -/
def Module.send (m : Module) (dst : OutDst) (bytes : List Byte) : Module :=
  { m with out := ⟨dst, m.mt, bytes⟩ :: m.out }

/-- The next free value. -/
def Module.freeVal (m : Module) : Nat := Config.freeValue m.freeCtr

/-- The module once the next free value has been handed out. -/
def Module.freed (m : Module) : Module := { m with freeCtr := m.freeCtr + 1 }

/-! ## Structure -/

/-- The records of the active structure, or none of any kind (R24). -/
def Module.recs (m : Module) : Records :=
  match m.grate.active with
  | some l => l.recs
  | none => Records.empty

/-- GRATE_STATUS.ACTIVE. -/
def Module.structActive (m : Module) : Bool := m.grate.active.isSome

/-- STRUCT_ID of the active structure, 0 without one. -/
def Module.structId (m : Module) : DWord :=
  match m.grate.active with
  | some l => l.structId
  | none => 0

/-- The outputs are armed (R382). -/
def Module.armed (m : Module) : Bool := m.pwr.arm == .armed

/-- SECS (R394). -/
def Module.secs (m : Module) : Nat := (m.pwr.secsBase + (m.mt - m.pwr.secsMt) / secTicks) % 2 ^ 32

/-- Time is HOLDOVER as notifications report it (R116, R287): this module's own, or on a chain HOLDOVER here or a master
whose time is HOLDOVER or FREE. -/
def holdFlag (m : Module) : Bool :=
  m.time.src == .holdover || (m.time.src == .chain && (m.flue.fstate == .holdover || decide (2 ≤ m.flue.info.tstate)))

/-- The number of an initiator among the seventeen (R16). -/
def Initiator.idx : Initiator → Nat
  | .core h _ => h.val
  | .session n => 4 + n.val
  | .tunnel c => 12 + c.val
  | .debug => 16

end Sys2Proof.Machine
end

