-- ==== Sys2Proof/Machine/AshOps.lean ====
section
/-! DEFINITION. The Ash log's posting, writing, scanning and clearing (R350 to R354, R360). -/

namespace Sys2Proof.Machine

/-- Slots of the Ash log, staging entries, and the entries kept for module records (R350, R353, R357). -/
def ashSlots : Nat := 32768
def ashStaging : Nat := 1024
def ashKept : Nat := 64

/-- The SEQ after `s`; 0 is skipped (R351). -/
def ashNext (s : Word) : Word := if s + 1 = 0 then 1 else s + 1

/-- `n` bytes, cut or filled with zeros (R350). -/
def padTo (n : Nat) (bs : List Byte) : List Byte := sliceAt bs 0 n

/-- A record as it is posted now. -/
def ashMake (m : Module) (code : Nat) (cls : AshClass) (data : List Byte) (by_ : Option Nat) : AshRec :=
  { seq := m.ash.nextSeq, code := code, cls := cls, rep := 1, mt := m.mt, boots := m.pwr.bootCount, secs := m.secs,
    data := padTo 32 data, by_ := by_ }

/-- Stage one record and give it the next SEQ. -/
def ashStage (m : Module) (r : AshRec) : Module :=
  { m with ash := { m.ash with staged := m.ash.staged ++ [{ r with seq := m.ash.nextSeq }],
                               nextSeq := ashNext m.ash.nextSeq } }

/-- One more occurrence of a staged record, saturating at 255 (R350, R353). -/
def AshRec.again (r : AshRec) : AshRec := { r with rep := if r.rep < 255 then r.rep + 1 else 255 }

/-- A post merges into a staged record of the same cycle, CODE, DATA and source (R353). -/
def AshRec.same (r s : AshRec) : Bool :=
  r.code == s.code && r.data == s.data && r.by_ == s.by_ && r.mt / cycleTicks == s.mt / cycleTicks

/-- Write one record into its slot; HEAD and TAIL move with it (R351, R352). -/
def ashWriteOne (m : Module) (r : AshRec) : Module :=
  let a := m.ash
  let slot := r.seq.toNat % ashSlots
  let first : Bool := a.head == 0
  let over_ : Bool := !first && decide ((r.seq - a.tail).toNat > ashSlots - 1)
  let m := { m with ash := { a with
    slots := Sparse.insert slot r a.slots, head := r.seq,
    tail := if first then r.seq else if over_ then r.seq - w32 (ashSlots - 1) else a.tail,
    wrapped := a.wrapped || over_ } }
  let m := m.raise Reg.ASH_INT_STATUS 0
  if r.cls == .security then m.raise Reg.ASH_INT_STATUS 1 else m

/-- Write the first `n` staged records in SEQ order (R353). -/
def ashWrite (m : Module) (n : Nat) : Module :=
  let now := m.ash.staged.take n
  let m := { m with ash := { m.ash with staged := m.ash.staged.drop n } }
  now.foldl ashWriteOne m

/-- The OVERFLOW record of R354, staged first once room has returned. -/
def ashOverflow (m : Module) : Module :=
  if m.ash.lost = 0 then m
  else
    let r := ashMake m 0x0070 .fault (leBytes 4 m.ash.lost ++ leBytes 4 0 ++ leBytes 8 m.ash.lostMt) none
    let m := ashStage m r
    { m with ash := { m.ash with lost := 0, lostMt := 0 } }

/-- Drop a post and count it (R354). -/
def ashDrop (m : Module) : Module :=
  let a := m.ash
  let m := { m with ash := { a with lost := a.lost + 1, lostMt := if a.lost = 0 then m.mt else a.lostMt,
                                    dropped := w32 (satU 32 (a.dropped.toNat + 1)) } }
  m.raise Reg.ASH_INT_STATUS 2

/-- Post a record (R353, R354). A POWER record is written at once with everything staged before it, unless a clear
runs (R360) or the scan of this boot is still to come (R352). -/
def ashPost (m : Module) (code : Nat) (cls : AshClass) (data : List Byte) (by_ : Option Nat := none) : Module :=
  let r := ashMake m code cls data by_
  let m :=
    if m.ash.staged.any r.same then
      { m with ash := { m.ash with staged := m.ash.staged.map fun s => if r.same s then s.again else s } }
    else if ashStaging ≤ m.ash.staged.length then ashDrop m
    else
      let m := ashOverflow m
      if ashStaging ≤ m.ash.staged.length then ashDrop m else ashStage m r
  if cls == .power && m.ash.ready && m.ash.clear != .running then ashWrite m ashStaging else m

/-- What the boundary of a Mantel cycle does to the log: up to 256 staged records are written (R353); a clear that was
asked for starts, once everything staged is written and every VALID word is 0 (R360 steps 1 and 2). -/
def ashBoundary (m : Module) : Module :=
  let m := { m with ash := { m.ash with appPosts := 0 } }
  if !m.ash.ready || m.ash.clear == .running then m
  else if m.ash.clear == .requested then
    let m := ashWrite m ashStaging
    { m with ash := { m.ash with slots := [], clear := .running } }
  else ashWrite m 256

/-- The scan of R352: HEAD is the greatest SEQ of a valid record, TAIL the least within 32,767 below it. -/
def ashScan (m : Module) : Module :=
  let seqs := m.ash.slots.map (·.2.seq)
  let head := seqs.foldl (fun (h s : Word) => if h = 0 ∨ ((s - h).toNat < 2 ^ 31) then s else h) 0
  let tail := seqs.foldl (fun (t s : Word) => if (head - s).toNat ≤ ashSlots - 1 ∧ (head - s).toNat ≥ (head - t).toNat then s else t) head
  { m with ash := { m.ash with head := head, tail := tail, ready := true, nextSeq := if head = 0 then 1 else ashNext head } }

/-- The records staged before the scan follow BOOT (R352). -/
def ashRenumber (m : Module) : Module :=
  let old := m.ash.staged
  old.foldl ashStage { m with ash := { m.ash with staged := [] } }

/-- A latched output is recorded (R355): its target index and its FAULT bits. -/
def ashLatch (m : Module) (k faults : Nat) : Module :=
  ashPost m 0x0041 .fault (leBytes 2 k ++ leBytes 2 faults)

end Sys2Proof.Machine
end

