-- ==== Sys2Proof/Machine/Crc.lean ====
section
/-! DEFINITION. Cyclic redundancy checks (R26, R265, R274, R350) and the internet checksum of the answers of R141.
Bit order, start value and final inversion of the CRCs are those of the named standards (PRESUMED, log entry 9). -/

namespace Sys2Proof.Machine

/-- One bit of the CRC-32 of polynomial 0x04C1_1DB7, bits reflected. -/
def crc32Bit (c : Nat) : Nat := if c % 2 = 1 then (c / 2) ^^^ 0xEDB88320 else c / 2

/-- One byte. -/
def crc32Byte (c : Nat) (b : Byte) : Nat :=
  crc32Bit (crc32Bit (crc32Bit (crc32Bit (crc32Bit (crc32Bit (crc32Bit (crc32Bit (c ^^^ b.toNat))))))))

/-- CRC-32. -/
def crc32 (bs : List Byte) : Nat := bs.foldl crc32Byte 0xFFFFFFFF ^^^ 0xFFFFFFFF

/-- One bit of the CRC-24Q. -/
def crc24Bit (c : Nat) : Nat := if tb c 23 then ((c * 2) % 2 ^ 24) ^^^ 0x864CFB else c * 2

/-- One byte. -/
def crc24Byte (c : Nat) (b : Byte) : Nat :=
  crc24Bit (crc24Bit (crc24Bit (crc24Bit (crc24Bit (crc24Bit (crc24Bit (crc24Bit (c ^^^ (b.toNat * 65536)))))))))

/-- CRC-24Q (R265). -/
def crc24q (bs : List Byte) : Nat := bs.foldl crc24Byte 0

/-- Sum of the 16-bit big-endian words of a list. -/
def sum16 : List Byte → Nat
  | [] => 0
  | [a] => a.toNat * 256
  | a :: b :: bs => a.toNat * 256 + b.toNat + sum16 bs

/-- The ones' complement checksum of the words of a list. -/
def inetSum (bs : List Byte) : Nat :=
  let s := sum16 bs
  let s := s % 65536 + s / 65536
  let s := s % 65536 + s / 65536
  65535 - s

/-- `n` bytes of `x`, most significant first. -/
def beBytes (n x : Nat) : List Byte := (leBytes n x).reverse

end Sys2Proof.Machine
end

