-- ==== Sys2Proof/Machine/Ash.lean ====
section
/-! DEFINITION. The Ash log as its readers and writers see it: read ports, application posts, clearing (R350, R356 to R360). -/

namespace Sys2Proof.Machine

/-! ## Who asks (R54, R356) -/

/-- The view an initiator's own access has: privileged for machine mode, a privileged session and the debug access. -/
def viewOf (m : Module) : Initiator → Bool
  | .core _ mode => mode == .machine
  | .session n => (Arr.at' m.sess n).priv
  | .tunnel _ => false
  | .debug => m.sec.lc == .manufacture || m.sec.lc == .develop

/-- The read port of an initiator. -/
def ashPortOf (m : Module) (who : Nat) : AshPort :=
  match m.ash.ports.find? (·.1 == who) with
  | some p => p.2
  | none => AshPort.zero

def setAshPort (m : Module) (who : Nat) (p : AshPort) : Module :=
  { m with ash := { m.ash with ports := Sparse.set (fun _ => AshPort.zero) m.ash.ports who p } }

/-- A port is cleared when its session ends, its tunnel is closed or the debug connection is reset (R356). -/
def clearAshPort (m : Module) (who : Nat) : Module := setAshPort m who AshPort.zero

/-! ## Records as bytes (R350) -/

def AshClass.code : AshClass → Nat
  | .operation => 0 | .fault => 1 | .power => 2 | .security => 3

/-- The 64 bytes of a record. -/
def AshRec.bytes (r : AshRec) : List Byte :=
  let body := leBytes 4 r.seq.toNat ++ leBytes 2 r.code ++ leBytes 1 r.cls.code ++ leBytes 1 r.rep ++ leBytes 8 r.mt
    ++ leBytes 4 r.boots ++ leBytes 4 r.secs ++ padTo 32 r.data
  body ++ leBytes 4 (crc32 body) ++ leBytes 4 (r.seq ^^^ 0xFFFFFFFF).toNat

/-- Little-endian words of a list of bytes. -/
def wordsOf (n : Nat) (bs : List Byte) : List Word := (List.range n).map fun i => w32 (leAt bs (4 * i) 4)

/-! ## Reading (R356) -/

/-- RESULT codes. -/
def ashOk : Nat := 0
def ashGone : Nat := 1
def ashNotYet : Nat := 2
def ashRestricted : Nat := 3
def ashBusy : Nat := 4
def ashInvalid : Nat := 5

/-- `a` is newer than `b` as a serial number (R351). -/
def ashNewer (a b : Word) : Bool := decide (0 < (a - b).toNat ∧ (a - b).toNat < 2 ^ 31)

/-- The result of a read of `s`, and the bytes it gives. -/
def ashLookup (m : Module) (priv : Bool) (s : Word) : Nat × List Byte :=
  let a := m.ash
  if a.clear = .running then (ashBusy, [])
  else if s = 0 ∨ a.head = 0 ∨ ashNewer s a.head then (ashNotYet, [])
  else if ashNewer a.tail s then (ashGone, [])
  else match a.slots.find? (·.1 == s.toNat % ashSlots) with
    | none => (ashInvalid, [])
    | some (_, r) =>
      if r.seq ≠ s then (ashGone, [])
      else if r.cls = .security ∧ !priv then (ashRestricted, r.bytes.take 24)
      else (ashOk, r.bytes)

/-- A write of ASH_RD_SEQ: slot `s` is copied into the initiator's read port. -/
def ashReadAs (who : Nat) (priv : Bool) (s : Word) (m : Module) : Module :=
  let (r, bs) := ashLookup m priv s
  setAshPort m who ⟨s, true, r, wordsOf 16 bs⟩

/-- ASH_READ (R356). -/
def ashRead (i : Initiator) (s : Word) (m : Module) : Module := ashReadAs (Initiator.idx i) (viewOf m i) s m

/-! ## Application posts (R357) -/

/-- The post data of an initiator. -/
def postData (m : Module) (who : Nat) : List Byte :=
  (List.range 8).flatMap fun i => leBytes 4 (Sparse.get (fun _ => (0 : Word)) m.ash.postData (8 * who + i)).toNat

/-- A refused application post. -/
def postRefused (m : Module) : Module := m.raise Reg.ASH_INT_STATUS 4

/-- A write of ASH_POST_CODE. A merged post (R353) needs no entry. -/
def applicationPost (i : Initiator) (code : Nat) (m : Module) : Module :=
  let data := postData m (Initiator.idx i)
  let r := ashMake m code .operation data (some (Initiator.idx i))
  if code < 0x8000 ∨ 0xFFFF < code ∨ 16 ≤ m.ash.appPosts then postRefused m
  else if !m.ash.staged.any r.same ∧ ashStaging - ashKept ≤ m.ash.staged.length then postRefused m
  else ashPost { m with ash := { m.ash with appPosts := m.ash.appPosts + 1 } } code .operation data (some (Initiator.idx i))

/-! ## Clearing (R358, R360) -/

/-- SYS_BUSERR_INFO code of an initiator's kind and number, as the CLEARED record names it. -/
def Initiator.code : Initiator → Nat
  | .core h _ => h.val
  | .session n => 0x10 + n.val
  | .tunnel _ => 0x20
  | .debug => 0x30

/-- The key slot of an initiator: a session's credential, else 0. -/
def keySlotOf (m : Module) : Initiator → Nat
  | .session n => (Arr.at' m.sess n).cred
  | _ => 0

/-- An ended clear request. -/
def clearResult (m : Module) (r : Nat) : Module := { m with ash := { m.ash with clearDone := true, clearResult := r } }

/-- ASH_CLEAR (R358): a request through the privileged view with CLEAR = 1. -/
def ashClear (i : Initiator) (key : Nat) (m : Module) : Module :=
  if !viewOf m i then m
  else
    let m := { m with ash := { m.ash with clearDone := false } }
    if m.ash.clear ≠ .none then clearResult m 3
    else if m.sec.lc = .return_ ∨ m.sec.lc = .scrapped then clearResult m 2
    else if key ≠ m.ash.head.toNat % 65536 then clearResult m 1
    else
      let slot := keySlotOf m i
      { m with ash := { m.ash with clear := .requested, clearBy := (Initiator.code i), clearKey := slot } }

/-- CLEARING (R360): every VALID word is 0; the CLEARED record takes the SEQ that follows, and what was staged meanwhile
follows it. -/
def clearing (m : Module) : Module :=
  if m.ash.clear ≠ .running then m
  else
    let a := m.ash
    let staged := a.staged
    let m := { m with ash := { a with clear := .none, staged := [], nextSeq := if a.head = 0 then 1 else ashNext a.head,
                                      head := 0, tail := 0, wrapped := false } }
    let r := ashMake m 0x0071 .security (leBytes 4 a.tail.toNat ++ leBytes 4 a.head.toNat ++ leBytes 1 a.clearBy ++ leBytes 1 a.clearKey) none
    let m := ashWrite (ashStage m r) 1
    let m := staged.foldl ashStage m
    (clearResult m 0).raise Reg.ASH_INT_STATUS 3

end Sys2Proof.Machine
end

