-- ==== Sys2Proof/Machine/Image.lean ====
section
/-! DEFINITION. Checking and parsing a structure image: header, records, cross-checks and the error each failure
reports (R27 to R41, R43). -/

namespace Sys2Proof.Machine

/-- The code LOAD_ERR shows for a result (R43). -/
def LoadErr.code : LoadErr → Nat
  | .none => 0x00 | .magic => 0x01 | .format => 0x02 | .length => 0x03 | .digest => 0x04 | .signature => 0x05
  | .key => 0x06 | .variant => 0x07 | .serial => 0x08 | .generation => 0x09 | .recordType => 0x0A
  | .recordLen => 0x0B | .order => 0x0C | .range => 0x0D | .conflict => 0x0E | .readback => 0x0F
  | .busy => 0x10 | .noGnss => 0x11

/-- Where and why a check failed: the code, the record index (0xFFFF for the header) and the byte offset. -/
structure LoadFail where
  err : LoadErr
  record : Nat
  byte : Nat
  deriving DecidableEq, Repr

/-- The record index that stands for the header or signature (GRATE_ERR_LOC). -/
def hdrRec : Nat := 0xFFFF

/-- One field check: the byte offset it reports, the error it gives, and whether it holds. -/
abbrev FieldCheck := Nat × LoadErr × Bool

/-- The first failing check of a list. -/
def firstFail (rec : Nat) : List FieldCheck → Option LoadFail
  | [] => none
  | (o, e, ok) :: cs => if ok then firstFail rec cs else some ⟨e, rec, o⟩

/-- A RANGE check at byte `o`. -/
def rangeAt (o : Nat) (ok : Bool) : FieldCheck := (o, .range, ok)

/-- Every byte from `o`, `n` of them, must be 0 (reserved); each reports its own offset. -/
def zeroAt (bs : List Byte) (o n : Nat) : List FieldCheck :=
  (List.range n).map fun i => rangeAt (o + i) (byteAt bs (o + i) == 0)

/-- A channel number of the channel space, the whole-ring number left out (R103). -/
def channelDefined (c : Nat) : Bool :=
  c ≤ 127 || (256 ≤ c && c ≤ 271) || (512 ≤ c && c ≤ 527) || (2048 ≤ c && c ≤ 2079) || (4096 ≤ c && c ≤ 4159)

/-- The last channel of the span of the channel space that holds `c` (R103). -/
def channelSpanEnd (c : Nat) : Nat :=
  if c ≤ 127 then 127 else if c ≤ 271 then 271 else if c ≤ 527 then 527 else if c ≤ 2079 then 2079 else 4159

def axisSourceOf (c : Nat) : AxisSource :=
  match c with
  | 1 => .enQuad | 2 => .enPulse | 3 => .enGate | 4 => .fiQuad | 5 => .fiPulse | 6 => .gnssPath | 7 => .blended
  | 8 => .chain | _ => .none

/-- An input selector naming EN0 to EN3 (R31). -/
def isEn (x : Nat) : Bool := x ≤ 3
/-- An input selector naming FI0 to FI7 (R31). -/
def isFi (x : Nat) : Bool := 0x10 ≤ x && x ≤ 0x17

/-- The PRIMARY selectors a source admits (R31). -/
def primaryOk (src sel : Nat) : Bool :=
  match src with
  | 1 => isEn sel | 2 => isEn sel | 3 => isEn sel | 4 => isFi sel | 5 => isFi sel | _ => sel == 0xFF

/-- The SECONDARY selectors a source admits (R31). -/
def secondaryOk (src sel : Nat) : Bool :=
  if src = 7 then isEn sel || isFi sel else sel == 0xFF

/-- Checks of an AXIS record (R31), with NO_GNSS at SOURCE on the P variant (R40). -/
def axisChecks (v : Variant) (r : List Byte) : List FieldCheck :=
  let src := byteAt r 9
  let chain := src == 8
  [rangeAt 8 (byteAt r 8 ≤ 14), rangeAt 9 (src ≤ 8),
   (9, .noGnss, !(v == .p && (src == 6 || src == 7))),
   rangeAt 10 (primaryOk src (byteAt r 10)), rangeAt 11 (secondaryOk src (byteAt r 11)),
   rangeAt 12 (chain || leAt r 12 2 == 0),
   rangeAt 14 (if chain then byteAt r 14 ≤ 14 else byteAt r 14 == 0),
   rangeAt 15 (byteAt r 15 < 4),
   rangeAt 16 (leAt r 16 8 == 0 || (2 ≤ leAt r 16 8 && leAt r 16 8 ≤ 2 ^ 39 - 1)),
   rangeAt 24 (4 ≤ byteAt r 24 && byteAt r 24 ≤ 32)] ++ zeroAt r 25 7

def axisOf (r : List Byte) : AxisRec :=
  ⟨byteAt r 8, axisSourceOf (byteAt r 9), byteAt r 10, byteAt r 11, leAt r 12 2, byteAt r 14,
   tb (byteAt r 15) 0, tb (byteAt r 15) 1, leAt r 16 8, byteAt r 24⟩

/-- Both channels of every pair are enabled (R32). -/
def pairsEnabled (pairs en : Nat) : Bool :=
  (List.range 4).all fun k => !tb pairs k || (tb en (2 * k) && tb en (2 * k + 1))

/-- Checks of a BANK record (R32). -/
def bankChecks (r : List Byte) : List FieldCheck :=
  [rangeAt 8 (byteAt r 8 ≤ 15), rangeAt 9 (byteAt r 9 < 16 && pairsEnabled (byteAt r 9) (byteAt r 12)),
   rangeAt 10 (byteAt r 10 ≤ 1), rangeAt 11 (byteAt r 11 == 0)] ++ zeroAt r 13 3

def bankOf (r : List Byte) : BankRec := ⟨byteAt r 8, byteAt r 9, byteAt r 10 == 1, byteAt r 12⟩

/-- The total length of a CHGROUP record of `n` ranges (R30). -/
def groupLen (n : Nat) : Nat := (12 + 4 * n + 7) / 8 * 8

/-- Checks of a CHGROUP record (R33). -/
def groupChecks (r : List Byte) : List FieldCheck :=
  let n := byteAt r 9
  [rangeAt 8 (byteAt r 8 ≤ 63), rangeAt 9 (1 ≤ n && n ≤ 62)] ++ zeroAt r 10 2
    ++ ((List.range n).flatMap fun i =>
        let f := leAt r (12 + 4 * i) 2
        let l := leAt r (14 + 4 * i) 2
        [rangeAt (12 + 4 * i) (channelDefined f), rangeAt (14 + 4 * i) (f ≤ l && l ≤ channelSpanEnd f)])
    ++ zeroAt r (12 + 4 * n) (groupLen n - (12 + 4 * n))

def groupOf (r : List Byte) : GroupRec :=
  ⟨byteAt r 8, (List.range (byteAt r 9)).map fun i => (leAt r (12 + 4 * i) 2, leAt r (14 + 4 * i) 2)⟩

/-- A CAN object selector: controller in [9:8], object in [6:0], the rest 0 (R34). -/
def canSelOk (x : Nat) : Bool := x < 0x400 && !tb x 7

/-- The FB_INDEX values each FB_KIND admits (R34). -/
def fbIndexOk (kind ix : Nat) : Bool :=
  match kind with
  | 1 => ix ≤ 15 | 2 => ix ≤ 31 | 3 => ix ≤ 31 | 4 => canSelOk ix | 5 => ix ≤ 14 | _ => ix == 0

/-- The OUT_INDEX values each OUT_KIND admits (R34). -/
def outIndexOk (kind ix : Nat) : Bool :=
  match kind with
  | 0 => true | 1 => ix ≤ 15 | 2 => ix ≤ 1 | 3 => ix ≤ 127 | 4 => canSelOk ix | 5 => ix ≤ 31 | _ => ix ≤ 15

/-- Checks of a LOOP record (R34). -/
def loopChecks (r : List Byte) : List FieldCheck :=
  let fk := byteAt r 9
  let ok := byteAt r 12
  let dv := leAt r 16 2
  [rangeAt 8 (byteAt r 8 ≤ 31), rangeAt 9 (1 ≤ fk && fk ≤ 6), rangeAt 10 (fbIndexOk fk (leAt r 10 2)),
   rangeAt 12 (ok ≤ 6), rangeAt 13 (byteAt r 13 == 0), rangeAt 14 (outIndexOk ok (leAt r 14 2)),
   rangeAt 16 (if ok == 5 then 1 ≤ dv && dv ≤ 256 else dv == 1)] ++ zeroAt r 18 6

def fbKindOf (c : Nat) : FbKind :=
  match c with
  | 1 => .ai | 2 => .fiFreq | 3 => .fiPeriod | 4 => .can | 5 => .axisVel | _ => .software

def outKindOf (c : Nat) : OutKind :=
  match c with
  | 1 => .lsPwm | 2 => .bridge | 3 => .valvePwm | 4 => .can | 5 => .setpoint | 6 => .foPwm | _ => .none

def loopOf (r : List Byte) : LoopRec :=
  ⟨byteAt r 8, fbKindOf (byteAt r 9), leAt r 10 2, outKindOf (byteAt r 12), leAt r 14 2, leAt r 16 2⟩

/-- Checks of a RING record (R35). -/
def ringChecks (r : List Byte) : List FieldCheck :=
  [rangeAt 8 (byteAt r 8 ≤ 63), rangeAt 9 (byteAt r 9 < 32), rangeAt 10 (leAt r 10 2 < 512),
   rangeAt 14 (byteAt r 14 < 2), rangeAt 15 (byteAt r 15 == 0)] ++ zeroAt r 24 8

def ringOf (r : List Byte) : RingRec :=
  ⟨byteAt r 8, byteAt r 9, leAt r 10 2, leAt r 12 2, tb (byteAt r 14) 0, leAt r 16 8⟩

/-- Checks of a COVER record (R36). -/
def coverChecks (r : List Byte) : List FieldCheck :=
  [rangeAt 8 (byteAt r 8 == 0), rangeAt 9 (byteAt r 9 ≤ 14),
   rangeAt 10 (byteAt r 10 ≤ 31 || byteAt r 10 == 0xFF)] ++ zeroAt r 11 5

def coverOf (r : List Byte) : CoverRec := ⟨byteAt r 9, byteAt r 10, leAt r 16 8⟩

/-- Checks of a LIMP record (R37). -/
def limpChecks (r : List Byte) : List FieldCheck :=
  [rangeAt 8 (byteAt r 8 ≤ 7), rangeAt 14 (byteAt r 14 ≤ 63 || byteAt r 14 == 0xFF), rangeAt 15 (byteAt r 15 ≤ 15)]

def limpOf (r : List Byte) : LimpRec :=
  ⟨byteAt r 8, byteAt r 9, leAt r 10 2, leAt r 12 2, byteAt r 14, byteAt r 15⟩

/-- Checks of a RESETPOL record (R38). -/
def polChecks (r : List Byte) : List FieldCheck :=
  [rangeAt 8 (byteAt r 8 ≤ 63), rangeAt 9 (byteAt r 9 ≤ 2), rangeAt 10 (leAt r 10 2 ≤ 500),
   rangeAt 12 (byteAt r 12 < 2)] ++ zeroAt r 13 3

def policyOf (c : Nat) : Policy :=
  match c with
  | 1 => .hold | 2 => .limp | _ => .off

def polOf (r : List Byte) : PolRec := ⟨byteAt r 8, policyOf (byteAt r 9), leAt r 10 2, tb (byteAt r 12) 0⟩

/-- The LEN a known TYPE requires (R30); `none` for an unknown TYPE. -/
def typeLen (ty : Nat) (r : List Byte) : Option Nat :=
  match ty with
  | 0x0010 => some 32 | 0x0020 => some 16 | 0x0022 => some (groupLen (byteAt r 9)) | 0x0030 => some 24
  | 0x0040 => some 32 | 0x0050 => some 24 | 0x0060 => some 16 | 0x0070 => some 16 | _ => none

/-- The field checks of a known TYPE. -/
def typeChecks (v : Variant) (ty : Nat) (r : List Byte) : List FieldCheck :=
  match ty with
  | 0x0010 => axisChecks v r | 0x0020 => bankChecks r | 0x0022 => groupChecks r | 0x0030 => loopChecks r
  | 0x0040 => ringChecks r | 0x0050 => coverChecks r | 0x0060 => limpChecks r | 0x0070 => polChecks r | _ => []

/-- The records with one more of TYPE `ty` at index `ix`. -/
def addRecord (ix ty : Nat) (r : List Byte) (p : Records) : Records :=
  match ty with
  | 0x0010 => { p with axes := p.axes ++ [(ix, axisOf r)] }
  | 0x0020 => { p with banks := p.banks ++ [(ix, bankOf r)] }
  | 0x0022 => { p with groups := p.groups ++ [(ix, groupOf r)] }
  | 0x0030 => { p with loops := p.loops ++ [(ix, loopOf r)] }
  | 0x0040 => { p with rings := p.rings ++ [(ix, ringOf r)] }
  | 0x0050 => { p with cover := p.cover ++ [(ix, coverOf r)] }
  | 0x0060 => { p with limps := p.limps ++ [(ix, limpOf r)] }
  | 0x0070 => { p with pols := p.pols ++ [(ix, polOf r)] }
  | _ => p

/-- The order key of a record: its TYPE and the instance number in body byte 8 (R29). -/
def orderKey (ty : Nat) (r : List Byte) : Nat := ty * 256 + byteAt r 8

/-- Parse `n` more records from `bs`, the rest of the signed region. `prev` is the order key of the last record. -/
def parseRecords (v : Variant) : Nat → Nat → Option Nat → List Byte → Records → Except LoadFail Records
  | 0, _, _, bs, p => if bs.isEmpty then .ok p else .error ⟨.recordLen, hdrRec, 12⟩
  | n + 1, ix, prev, bs, p =>
    let ty := leAt bs 0 2
    let len := leAt bs 2 2
    let r := bs.take len
    if bs.length < 8 then .error ⟨.recordLen, ix, 2⟩
    else if ty = 0 || (typeLen ty bs == none && !tb ty 15) then .error ⟨.recordType, ix, 0⟩
    else if len < 8 || len % 8 ≠ 0 || bs.length < len then .error ⟨.recordLen, ix, 2⟩
    else
      let key := orderKey ty r
      let late := match prev with
        | none => none
        | some k => if k < key then none else some (if ty < k / 256 then 0 else 8)
      match late with
      | some o => .error ⟨.order, ix, o⟩
      | none =>
        match typeLen ty r with
        | none => parseRecords v n (ix + 1) (some key) (bs.drop len) p
        | some want =>
          if len ≠ want then .error ⟨.recordLen, ix, 2⟩
          else match firstFail ix (zeroAt r 4 4 ++ typeChecks v ty r) with
            | some f => .error f
            | none => parseRecords v n (ix + 1) (some key) (bs.drop len) (addRecord ix ty r p)

/-- The source of axis `a` under a set of records; NONE where it has no record (R39). -/
def Records.axisSource (p : Records) (a : Nat) : AxisSource :=
  match p.axes.find? (fun x => x.2.axis == a) with
  | some x => x.2.source
  | none => .none

/-- The channel group `g`'s ranges; empty where it has no record (R30). -/
def Records.group (p : Records) (g : Nat) : List (Nat × Nat) :=
  match p.groups.find? (fun x => x.2.group == g) with
  | some x => x.2.ranges
  | none => []

/-- Channel `c` lies in group `g`. -/
def Records.inGroup (p : Records) (g c : Nat) : Bool := (p.group g).any fun x => x.1 ≤ c && c ≤ x.2

/-- Channel `c` lies in some group of the mask `m` (R35). -/
def Records.inGroups (p : Records) (m c : Nat) : Bool :=
  (List.range 64).any fun g => tb m g && p.inGroup g c

/-- The record of bank `b`. -/
def Records.bank (p : Records) (b : Nat) : Option BankRec :=
  (p.banks.find? (fun x => x.2.bank == b)).map (·.2)

/-- Valve channel `c` is enabled (R32). -/
def Records.vcEnabled (p : Records) (c : Nat) : Bool :=
  match p.bank (c / 8) with
  | some b => tb b.enable (c % 8)
  | none => false

/-- Valve channel `c` belongs to a parallel pair (R32). -/
def Records.paired (p : Records) (c : Nat) : Bool :=
  match p.bank (c / 8) with
  | some b => tb b.pairs (c % 8 / 2)
  | none => false

/-- A valve channel that events may name: enabled, and not the odd channel of a pair (R25, R32). -/
def Records.vcUsable (p : Records) (c : Nat) : Bool := p.vcEnabled c && !(p.paired c && c % 2 == 1)

/-- The input selectors an axis takes: both channels of a quadrature pair of field inputs (R31). -/
def AxisRec.selectors (a : AxisRec) : List Nat :=
  match a.source with
  | .fiQuad => [a.primary, a.primary + 1]
  | .none => []
  | _ => [a.primary, a.secondary].filter (· ≠ 0xFF)

/-- Channel numbers of the physical outputs a loop drives (R34, R103). -/
def LoopRec.outputs (l : LoopRec) : List Nat :=
  match l.outKind with
  | .lsPwm => [256 + l.outIndex]
  | .bridge => [256 + 2 * l.outIndex, 257 + 2 * l.outIndex]
  | .valvePwm => [l.outIndex]
  | .foPwm => [512 + l.outIndex]
  | _ => []

/-- Two loops with one target (R39). -/
def LoopRec.sameTarget (a b : LoopRec) : Bool :=
  (a.outputs.any fun c => b.outputs.contains c)
    || (a.outKind == b.outKind && a.outIndex == b.outIndex && a.outKind != .none)

/-- A group holds a disabled valve channel or the odd channel of a pair (R39). -/
def Records.groupBad (p : Records) (g : Nat) : Bool :=
  (List.range 128).any fun c => p.inGroup g c && !p.vcUsable c

/-- Some group of a mask is bad in the sense of `groupBad`. -/
def Records.groupsBad (p : Records) (m : Nat) : Bool := (List.range 64).any fun g => tb m g && p.groupBad g

/-- The loop that drives inner loop `n` (R39). -/
def Records.loopAt (p : Records) (n : Nat) : Option LoopRec :=
  (p.loops.find? (fun x => x.2.loop == n)).map (·.2)

/-- The chain of loops that cascade links lead to from loop `n`, at most `fuel` of them. -/
def Records.cascadeFrom (p : Records) : Nat → Nat → List Nat
  | 0, _ => []
  | fuel + 1, n =>
    match p.loopAt n with
    | none => []
    | some l => n :: (if l.outKind = .setpoint then p.cascadeFrom fuel l.outIndex else [])

/-- An output that some limp record drives (R39). -/
def Records.limpDrives (p : Records) (c : Nat) : Bool :=
  p.limps.any fun l =>
    (256 ≤ c && c ≤ 271 && tb l.2.lsMask (c - 256)) || (512 ≤ c && c ≤ 527 && tb l.2.foMask (c - 512))
      || (c ≤ 127 && l.2.vcGroup ≠ 0xFF && p.inGroup l.2.vcGroup c)

/-- The channels of the physical outputs: valves, load switches, field outputs. -/
def outputChannels : List Nat :=
  List.range 128 ++ (List.range 16).map (256 + ·) ++ (List.range 16).map (512 + ·)

/-- A conflict at record `r`, byte `b`. -/
def conflictIf (r b : Nat) (bad : Bool) : List LoadFail := if bad then [⟨.conflict, r, b⟩] else []

/-- A conflict among records, each given with the byte of its field: the one with the highest index is named (R39). -/
def conflictAmong (xs : List (Nat × Nat)) : List LoadFail :=
  if xs.length < 2 then []
  else let h := xs.foldl (fun a x => if a.1 < x.1 then x else a) (0, 0); [⟨.conflict, h.1, h.2⟩]

/-- The axes that use input selector `x`, each with the byte that names it. -/
def Records.usersOf (p : Records) (x : Nat) : List (Nat × Nat) :=
  (p.axes.filter fun a => a.2.selectors.contains x).map fun a =>
    (a.1, if a.2.source != .fiQuad && x != a.2.primary then 11 else 10)

/-- Input selectors (R39, first case). -/
def crossInputs (p : Records) : List LoadFail :=
  p.axes.flatMap fun a =>
    conflictIf a.1 10 (a.2.source == .fiQuad && (a.2.primary % 2 == 1 || a.2.primary == 0x17))
      ++ a.2.selectors.flatMap fun x => conflictAmong (p.usersOf x)

/-- Axes named without a source (R39, second case). -/
def crossAxes (p : Records) : List LoadFail :=
  (p.loops.flatMap fun l => conflictIf l.1 10 (l.2.fbKind == .axisVel && p.axisSource l.2.fbIndex == .none))
    ++ (p.rings.flatMap fun r =>
        conflictIf r.1 12 ((List.range 15).any fun a => tb r.2.axes a && p.axisSource a == .none))
    ++ (p.cover.flatMap fun c => conflictIf c.1 9 (p.axisSource c.2.pathAxis == .none))

/-- The path axis of the coverage engine (R39, third case). -/
def crossPath (p : Records) : List LoadFail :=
  p.cover.flatMap fun c =>
    let s := p.axisSource c.2.pathAxis
    conflictIf c.1 9 (s != .gnssPath && s != .blended)

/-- Groups with unusable channels (R39, fourth case). -/
def crossGroups (p : Records) : List LoadFail :=
  (p.rings.flatMap fun r => conflictIf r.1 16 (p.groupsBad r.2.groups))
    ++ (p.cover.flatMap fun c => conflictIf c.1 16 (p.groupsBad c.2.groups))
    ++ (p.limps.flatMap fun l => conflictIf l.1 14 (l.2.vcGroup ≠ 0xFF && p.groupBad l.2.vcGroup))
    ++ (p.pols.flatMap fun q => conflictIf q.1 8 (p.groupBad q.2.group))

/-- Outputs with two owners (R39, fifth and sixth cases): the loops that share a loop's output, the rings and the coverage
engine whose groups hold it. -/
def crossOutputs (p : Records) : List LoadFail :=
  p.loops.flatMap fun l =>
    let held (m : Nat) : Bool := l.2.outputs.any fun c => p.inGroups m c
    conflictAmong (((p.loops.filter fun x => x.1 == l.1 || x.2.sameTarget l.2).map fun x => (x.1, 14))
      ++ ((p.rings.filter fun r => held r.2.groups).map fun r => (r.1, 16))
      ++ ((p.cover.filter fun c => held c.2.groups).map fun c => (c.1, 16)))

/-- Loop `n` lies on a cycle of cascade links. -/
def Records.onCycle (p : Records) (n : Nat) : Bool := ((p.cascadeFrom 33 n).drop 1).contains n

/-- Cascades (R39, seventh case): the loops of the cycle, or of the chain that is too long. -/
def crossCascade (p : Records) : List LoadFail :=
  p.loops.flatMap fun l =>
    let ch := p.cascadeFrom 33 l.2.loop
    let cyc := ch.filter p.onCycle
    let who := if cyc.isEmpty then ch else cyc
    let ixs := (p.loops.filter (fun x => who.contains x.2.loop)).map (·.1)
    conflictIf (ixs.foldl max 0) 14 (!cyc.isEmpty || 4 < ch.length)

/-- The rate loop of the coverage engine (R39, eighth case). -/
def crossRate (p : Records) : List LoadFail :=
  p.cover.flatMap fun c =>
    conflictIf c.1 10 (c.2.rateLoop ≠ 0xFF && ((p.loopAt c.2.rateLoop).isNone
      || p.loops.any fun l => l.2.outKind == .setpoint && l.2.outIndex == c.2.rateLoop))

/-- Reset policies (R39, ninth and tenth cases). -/
def crossPolicies (p : Records) : List LoadFail :=
  (outputChannels.flatMap fun c => conflictAmong ((p.pols.filter fun q => p.inGroup q.2.group c).map fun q => (q.1, 8)))
    ++ (p.pols.flatMap fun q => conflictIf q.1 9 (q.2.policy == .limp && outputChannels.any fun c =>
      p.inGroup q.2.group c && !p.limpDrives c))

/-- The first cross-check that fails, in the order R39 lists them. -/
def crossCheck (p : Records) : Option LoadFail :=
  (crossInputs p ++ crossAxes p ++ crossPath p ++ crossGroups p ++ crossOutputs p ++ crossCascade p
    ++ crossRate p ++ crossPolicies p).head?

/-- What the checks of R41 need to know of the module: variant, serial, floor, the key's acceptance and the
verdict of the P-384 verification. -/
structure ImageEnv where
  variant : Variant
  serial : Nat
  floor : Nat
  keyOk : Nat → Bool
  sigOk : Bool

/-- The header checks of R41 steps 2 to 5, in order. -/
def headerChecks (e : ImageEnv) (bs : List Byte) : List FieldCheck :=
  let len := leAt bs 8 4
  let cnt := leAt bs 12 4
  let vm := byteAt bs 20
  let ser := leAt bs 24 8
  [(0, .magic, leAt bs 0 4 == 0x54415247), (4, .format, leAt bs 4 2 == 1), (6, .format, leAt bs 6 2 == 128),
   (8, .length, 232 ≤ len && len ≤ 1048576 && len % 8 == 0 && len ≤ bs.length),
   (12, .length, 1 ≤ cnt && cnt ≤ 16384),
   (64, .digest, sha384 (sliceAt bs 128 (len - 96 - 128)) == sliceAt bs 64 48),
   (32, .key, e.keyOk (byteAt bs 32)), (0, .signature, e.sigOk),
   (20, .variant, tb vm (if e.variant = .g then 0 else 1)), (24, .serial, ser == 0 || ser == e.serial),
   (16, .generation, e.floor ≤ leAt bs 16 4),
   (20, .range, vm < 4)] ++ zeroAt bs 21 3 ++ zeroAt bs 33 7 ++ zeroAt bs 112 16

/-- Steps 2 to 6 of R41 over the bytes of an image: the loaded structure, or the first failure. -/
def checkImage (e : ImageEnv) (slot : Slot) (bs : List Byte) : Except LoadFail Loaded :=
  match firstFail hdrRec (headerChecks e bs) with
  | some f => .error f
  | none =>
    let len := leAt bs 8 4
    let signed := bs.take (len - 96)
    match parseRecords e.variant (leAt bs 12 4) 0 none (signed.drop 128) Records.empty with
    | .error f => .error f
    | .ok p =>
      match crossCheck p with
      | some f => .error f
      | none =>
        let d := sha384 signed
        .ok { slot := slot, generation := leAt bs 16 4, recordCount := leAt bs 12 4, keySlot := byteAt bs 32,
              digest := d, tag := sliceAt bs 48 16, structId := BitVec.ofNat 64 (leAt d 0 8), recs := p }

end Sys2Proof.Machine
end

