-- ==== Sys2Proof/Machine/AxisCalc.lean ====
section
/-! DEFINITION. What an axis predicts: the coordinate at an MT and the time to a target (R73, R74, R80, R81). The
arithmetic is exact; each stored quantity is rounded once, to nearest, ties away from zero. -/

namespace Sys2Proof.Machine

/-- Stored units of one axis count, Q40.24 (R5). -/
def qOne : Int := 16777216
/-- DCLK ticks in a second. -/
def fclk : Nat := 400000000

/-- The record of axis `n` in the active structure. -/
def axisRec (m : Module) (n : Nat) : Option AxisRec := (m.recs.axes.find? (·.2.axis == n)).map (·.2)

/-- SOURCE of axis `n`. -/
def axisSrc (m : Module) (n : Nat) : AxisSource := m.recs.axisSource n

/-- WRAP of axis `n`, 0 on a linear axis and on AXT (R72). -/
def axisWrap (m : Module) (n : Nat) : Nat :=
  match axisRec m n with
  | some r => r.wrap
  | none => 0

/-- Incremental sources (R70). -/
def AxisSource.incremental : AxisSource → Bool
  | .enQuad | .enPulse | .enGate | .fiQuad | .fiPulse => true
  | _ => false

/-- A Q12.20 scale as stored units of Q40.24. -/
def scaleQ (s : Word) : Int := (s.toNat : Int) * 16

/-- OFFSET in force of axis `n` (R70). -/
def axisOffset (m : Module) (n : Nat) : Int :=
  sx 64 ((m.cfg (Reg.AXIS_AX_OFFSET_LO n)).toNat + 2 ^ 32 * (m.cfg (Reg.AXIS_AX_OFFSET_HI n)).toNat)

/-- The state an axis offers for prediction: coordinate `p` at MT `mtk`, velocity `vn / vd`, acceleration `a` (R80). -/
structure Pred where
  p : Int
  vn : Int
  vd : Nat
  a : Int
  mtk : Nat
  deriving DecidableEq, Repr

def sgn (x : Int) : Int := if x < 0 then -1 else if x = 0 then 0 else 1

/-- The effective prediction of axis `n` at the present tick (R80): the next-edge bound for incremental sources in
LOCKED, no acceleration in COAST. -/
def predOf (m : Module) (n : Nat) (x : AxisSt) : Pred :=
  let plain : Pred := ⟨x.p, x.v, 1, if x.phase = .coast then 0 else x.a, x.mtk⟩
  if x.phase = .locked ∧ (axisSrc m n).incremental ∧ x.v ≠ 0 ∧ !x.still then
    let s := scaleQ (m.cfg (Reg.AXIS_AX_SCALE n))
    let age := m.mt - x.mtk
    -- overdue: age / F > s / |v|
    if (age : Int) * x.v.natAbs > s * fclk then ⟨x.p, sgn x.v * s * fclk, age, 0, x.mtk⟩ else plain
  else plain

/-- The age in half-ticks beyond which the prediction no longer changes: the turning point, when there is one (R80). -/
def Pred.turns (q : Pred) : Bool := (q.vn < 0 && 0 < q.a) || (0 < q.vn && q.a < 0)

/-- Displacement from `p` after `h` half-ticks, as numerator over `8 * F^2 * vd`. -/
def Pred.dispNum (q : Pred) (h : Nat) : Int :=
  q.vn * h * (4 * fclk : Nat) + q.a * (h * h : Nat) * q.vd

def Pred.dispDen (q : Pred) : Nat := 8 * fclk * fclk * q.vd

/-- Whether `h` half-ticks lie past the turning point: h / (2F) > |v| / |a|. -/
def Pred.pastTurn (q : Pred) (h : Nat) : Bool :=
  q.turns && decide ((h : Int) * q.a.natAbs * q.vd > (2 * fclk : Nat) * q.vn.natAbs)

/-- Displacement at the turning point, v^2 / (2|a|), as numerator and denominator. -/
def Pred.turnNum (q : Pred) : Int := sgn q.vn * (q.vn.natAbs * q.vn.natAbs : Nat)
def Pred.turnDen (q : Pred) : Nat := 2 * q.vd * q.vd * q.a.natAbs

/-- The predicted coordinate at MT `t` (R80). Before `mtk` the coordinate of the state itself. -/
def Pred.atMt (q : Pred) (t : Nat) : Int :=
  let h := 2 * (t - q.mtk)
  if q.pastTurn h then q.p + rdiv q.turnNum q.turnDen else q.p + rdiv (q.dispNum h) q.dispDen

/-- The prediction after `h` half-ticks has reached or crossed `x` in the direction of motion. -/
def Pred.reached (q : Pred) (x : Int) (h : Nat) : Bool :=
  let up : Bool := decide (0 < q.vn)
  let (num, den) := if q.pastTurn h then (q.turnNum, q.turnDen) else (q.dispNum h, q.dispDen)
  if up then decide ((x - q.p) * den ≤ num) else decide ((x - q.p) * den ≥ num)

/-- The smallest `h` in `[lo, lo + 2^fuel - 1]` from which `f` holds, `f` holding from some point on. -/
def searchFrom (f : Nat → Bool) : Nat → Nat → Nat
  | 0, lo => lo
  | fuel + 1, lo => if f (lo + 2 ^ fuel - 1) then searchFrom f fuel lo else searchFrom f fuel (lo + 2 ^ fuel)

/-- The time to target in ticks after `mtk`, to the nearest tick; `none` in the cases of R81. -/
def Pred.timeTo (q : Pred) (x : Int) : Option Nat :=
  if q.vn = 0 ∨ q.vd = 0 then none
  else if (0 < q.vn ∧ x < q.p) ∨ (q.vn < 0 ∧ q.p < x) then none
  else if !q.reached x (2 ^ 33) then none
  else some (searchFrom (q.reached x) 34 0 / 2)

/-- A TARGET (Q40.8) as a coordinate (Q40.24) (R73). -/
def targetQ (t : Int) : Int := t * 65536

/-- The next arrival upward at a wrapped target: the smallest coordinate above `ref` congruent to it (R73). -/
def nextUp (ref target : Int) (wrap : Nat) : Int :=
  let w := (wrap : Int) * qOne
  let d := (target - ref) % w
  ref + (if d = 0 then w else d)

/-- The next arrival downward: the largest coordinate below `ref` congruent to the target (R73). -/
def nextDown (ref target : Int) (wrap : Nat) : Int :=
  let w := (wrap : Int) * qOne
  let d := (ref - target) % w
  ref - (if d = 0 then w else d)

/-- The coordinate that counts as TARGET for motion in direction `up`. -/
def arrivalAt (ref target : Int) (wrap : Nat) (up : Bool) : Int :=
  if wrap = 0 then targetQ target
  else if up then nextUp ref (targetQ target) wrap else nextDown ref (targetQ target) wrap

/-- The AXT target as an MT (R74): congruent to the integer bits modulo 2^40, within 2^39 of the acceptance MT. It is
negative when that MT lies before the chain epoch. -/
def axtTarget (target : Int) (accMt : Nat) : Int :=
  let k := (target / 256) % (2 ^ 40)
  let lo := (accMt : Int) - 2 ^ 39
  lo + (k - lo) % (2 ^ 40)

/-- The axis offers a prediction: LOCKED or COAST; AXT always does (R74, R83). -/
def axisReady (m : Module) (n : Nat) : Bool :=
  match fin? 15 n with
  | some i => let x := Arr.at' m.axes.ax i; x.phase == .locked || x.phase == .coast
  | none => true

/-- The coordinate an axis offers at the present tick (R83). -/
def axisNow (m : Module) (n : Nat) : Int :=
  match fin? 15 n with
  | some i =>
    let x := Arr.at' m.axes.ax i
    if x.phase == .locked || x.phase == .coast then (predOf m n x).atMt m.mt else x.p
  | none => (m.mt : Int) * qOne

/-- The axis moves upward: the sign of its effective velocity, or its DIR when it stands. -/
def axisUp (m : Module) (n : Nat) : Bool :=
  match fin? 15 n with
  | some i =>
    let x := Arr.at' m.axes.ax i
    let q := predOf m n x
    if q.vn = 0 then !x.dirDown else decide (0 < q.vn)
  | none => true

/-- The coordinate as an axis reports it: in [0, WRAP) on a wrapped axis (R72). -/
def reported (wrap : Nat) (c : Int) : Int := if wrap = 0 then c else c % ((wrap : Int) * qOne)

/-- Whole turns of an unwrapped coordinate (R72). -/
def turns (wrap : Nat) (c : Int) : Int := if wrap = 0 then 0 else c / ((wrap : Int) * qOne)

/-- A linear coordinate outside the span of R71. -/
def outOfRange (wrap : Nat) (c : Int) : Bool :=
  wrap = 0 && (decide (c < -(2 ^ 63)) || decide (c > 2 ^ 63 - 1))

/-- The coordinate the axis held at MT `t`, interpolated from its history (R76): newest first. -/
def historyAt : List (Nat × Int) → Nat → Option Int
  | [], _ => none
  | [(t1, p1)], t => if t = t1 then some p1 else none
  | (t2, p2) :: (t1, p1) :: rest, t =>
    if t2 < t then none
    else if t = t2 then some p2
    else if t1 ≤ t then some (if t2 = t1 then p2 else p1 + rdiv ((p2 - p1) * (t - t1 : Nat)) (t2 - t1))
    else historyAt ((t1, p1) :: rest) t

/-- The MT of the state before a measurement stamped `t` (R78 step 1). -/
def stampBefore (h : List (Nat × Int)) (t : Nat) : Option Nat := (h.find? (fun e => e.1 ≤ t)).map (·.1)

end Sys2Proof.Machine
end

