-- ==== Sys2Proof/Machine/Delay.lean ====
section
/-! DEFINITION. The delays the Hob uses (R162, R163, R171) and HOB_LEAD_MAX (R127). -/

namespace Sys2Proof.Machine

/-- The channel whose registers and learning stand for valve channel `c`: a pair's even channel (R162, R190). -/
def vcHome (m : Module) (c : Nat) : Nat := if m.recs.paired c then c - c % 2 else c

/-- The learning state of valve channel `c`. -/
def learnCh (m : Module) (c : Nat) : LearnCh := Arr.getD m.learn.ch c (LearnCh.clear .none)

/-- The learning state the Hob sees in this tick (R171, R172). -/
def phaseSeen (m : Module) (l : LearnCh) : LearnPhase := if m.mt < l.phaseFrom then l.prevPhase else l.phase

/-- The estimate and count of one side as the Hob sees them in this tick (R171). -/
def SideSt.seen (x : SideSt) (t : Nat) : Nat × Nat := if t < x.from_ then (x.prevEst, x.prevN) else (x.est, x.n)

/-- Ticks of a field in µs. -/
def usT (x : Nat) : Nat := x * usTicks

/-- MAN_EN of channel `c` in force (R177). -/
def manEn (m : Module) (c : Nat) : Bool := m.cb (Reg.LEARN_CH_MAN_OPEN c) 31

/-- HOME_PF of channel `c` in force. -/
def homePf (m : Module) (c : Nat) : Nat := m.cf (Reg.LEARN_CH_CFG c) 3 0

/-- The estimate of one side that the Hob may use: a warm side of a COLD or WARM channel (R162 source 2). -/
def estSeen (m : Module) (c : Nat) (opening : Bool) : Option Nat :=
  let l := learnCh m c
  let ph := phaseSeen m l
  let (e, n) := (if opening then l.open_ else l.close).seen m.mt
  if (ph = .cold ∨ ph = .warm) ∧ 16 ≤ n then some e else none

/-- D_open or D_close of valve channel `c` for an event with profile `p`, in ticks, and whether it is a cold default
(R162). -/
def delayOf (m : Module) (c p : Nat) (opening : Bool) : Nat × Bool :=
  let c := vcHome m c
  if manEn m c then
    (if opening then m.cf (Reg.LEARN_CH_MAN_OPEN c) 26 0 else m.cf (Reg.LEARN_CH_MAN_CLOSE c) 26 0, false)
  else
    let dflt := (usT (if opening then m.cf (Reg.LEARN_PF_DEF p) 15 0 else m.cf (Reg.LEARN_PF_DEF p) 31 16), true)
    if p = homePf m c then
      match estSeen m c opening with
      | some e => (e, false)
      | none => dflt
    else dflt

/-- The largest delay of R127 at this tick. -/
def leadNow (m : Module) : Nat :=
  let ests := (List.range 128).map fun c =>
    let man := if manEn m c then max (m.cf (Reg.LEARN_CH_MAN_OPEN c) 26 0) (m.cf (Reg.LEARN_CH_MAN_CLOSE c) 26 0) else 0
    let est := if m.recs.vcUsable c then max ((estSeen m c true).getD 0) ((estSeen m c false).getD 0) else 0
    max man est
  let defs := (List.range 16).map fun p =>
    usT (max (m.cf (Reg.LEARN_PF_DEF p) 15 0) (m.cf (Reg.LEARN_PF_DEF p) 31 16))
  (ests ++ defs).foldl max 0

/-- HOB_LEAD_MAX (R127): it has risen with every value and falls at a boundary. -/
def leadMax (m : Module) : Nat := max m.hob.leadMax (leadNow m)

/-- Keep what HOB_LEAD_MAX has risen to. -/
def noteLead (m : Module) : Module := { m with hob := { m.hob with leadMax := leadMax m } }

end Sys2Proof.Machine
end

