-- ==== Sys2Proof/Machine/Notes.lean ====
section
/-! DEFINITION. Notifications: their form, the streams they are queued on, the counters of the coverage engine, and the
completion of FENCEs (R113 to R117, R155, R220). -/

namespace Sys2Proof.Machine

/-- KIND codes (R114). -/
def kFired : Nat := 1
def kMissed : Nat := 2
def kCancelled : Nat := 3
def kRejected : Nat := 4
def kTooLate : Nat := 5

/-- REASON codes (R117). -/
def rOpcode : Nat := 0x01
def rOpDenied : Nat := 0x02
def rChannel : Nat := 0x03
def rChDisabled : Nat := 0x04
def rChGroup : Nat := 0x05
def rLoopOwned : Nat := 0x06
def rAxisDenied : Nat := 0x07
def rTargetRange : Nat := 0x08
def rArgRange : Nat := 0x09
def rMode : Nat := 0x0A
def rNoMatch : Nat := 0x0B
def rFenceLimit : Nat := 0x0C
def rLate : Nat := 0x20
def rAxisNotReady : Nat := 0x21
def rAxisDown : Nat := 0x22
def rDisarmed : Nat := 0x23
def rQueueFull : Nat := 0x24
def rBoostBusy : Nat := 0x25
def rOutputFault : Nat := 0x26
def rDuration : Nat := 0x27
def rRequest : Nat := 0x40
def rActivation : Nat := 0x41
def rCommittedCancel : Nat := 0x60
def rCommittedReplace : Nat := 0x61

/-- The OP byte of a timed opcode (R96). -/
def EvOp.code : EvOp → Nat
  | .fire => 0x10 | .open => 0x11 | .close => 0x12 | .level => 0x20 | .setpt => 0x21 | .mark => 0x30

/-- The producer number of the coverage engine (R119). -/
def coverProducer : Nat := 64

/-- The 16 bytes of a notification (R114). -/
def Note.bytes (n : Note) : List Byte :=
  leBytes 1 n.kind ++ leBytes 1 n.reason ++ leBytes 2 n.chan ++ leBytes 2 n.tag ++ leBytes 1 n.op ++ leBytes 1 n.flags
    ++ leBytes 8 n.field

/-- FLAGS of a notification but for those an actuation adds (R116). -/
def noteFlags (m : Module) (cold replaced coast : Bool) : Nat :=
  2 * b2n cold + 8 * b2n (holdFlag m) + 16 * b2n replaced + 32 * b2n coast

/-- Change ring `n`. -/
def Module.updRing (m : Module) (n : Nat) (f : RingSt → RingSt) : Module :=
  { m with ingest := { m.ingest with ring := Arr.updD m.ingest.ring n f } }

/-- Ring `n`. -/
def Module.ringAt (m : Module) (n : Nat) : RingSt := Arr.getD m.ingest.ring n RingSt.reset

/-- The next serial number after `s` of a 32-bit count. -/
def bump (s : Word) : Word := s + 1

/-- Queue a notification on ring `n`'s stream under its next NSEQ (R155). -/
def pushNote (m : Module) (n : Nat) (note : Note) : Module :=
  m.updRing n fun r => { r with notes := r.notes ++ [⟨r.nseq, m.mt, none, note⟩], nseq := bump r.nseq }

/-- The target index k of a channel (HOB registers), of 0 to 255. -/
def targetIx (c : Nat) : Option (Fin 256) :=
  if h : c ≤ 127 then some ⟨c, by omega⟩
  else if 256 ≤ c ∧ c ≤ 271 then fin? 256 (128 + (c - 256))
  else if 512 ≤ c ∧ c ≤ 527 then fin? 256 (144 + (c - 512))
  else if 2048 ≤ c ∧ c ≤ 2079 then fin? 256 (160 + (c - 2048))
  else if 4096 ≤ c ∧ c ≤ 4159 then fin? 256 (192 + (c - 4096))
  else none

/-- The decision number an event of the coverage engine carries out (R220); 0 for a flow SETPT. -/
def decisionOf (m : Module) (acc : Nat) : Nat :=
  match m.cover.evDecision.find? (·.1 == acc) with
  | some e => e.2.2
  | none => 0

/-- A notification of the coverage engine's own event: counted, never sent (R220). -/
def coverNote (m : Module) (ev : EvRec) (note : Note) : Module :=
  let m :=
    if note.kind = kFired then m.count Reg.COVER_PUB_FIRED
    else if note.kind = kMissed then (m.count Reg.COVER_PUB_MISSED).raise Reg.COVER_INT_STATUS 6
    else if note.kind = kCancelled then m.count Reg.COVER_PUB_CANCELLED
    else if note.kind = kTooLate then m.count Reg.COVER_PUB_TOO_LATE
    else m
  match targetIx ev.chan with
  | some k =>
    if note.kind = kMissed ∧ k.val < 160 then
      let m := m.addSat (Reg.COVER_SEC_COUNT k.val) 31 16 1
      if note.reason = rLate ∨ note.reason = rQueueFull then
        { m with cover := { m.cover with again := m.cover.again ++ [(ev, decisionOf m ev.acc)] } }
      else m
    else m
  | none => m

/-- Report on an event to its producer. -/
def notify (m : Module) (ev : EvRec) (note : Note) : Module :=
  if ev.producer = coverProducer then coverNote m ev note else pushNote m ev.producer note

/-- The FIRED of a completed FENCE (R113). -/
def fenceFired (m : Module) (n : Nat) (f : FenceRec) : Module :=
  pushNote m n ⟨kFired, 0, f.chan, f.tag, 0x50, noteFlags m false false false, m.mt⟩

/-- An event of ring `n` with acceptance number `a` is final: FENCEs that waited for it alone complete (R113). -/
def fencesFinal (m : Module) (n a : Nat) : Module :=
  let fs := (m.ringAt n).fences.map fun f => { f with waits := f.waits.filter (· != a) }
  let done := fs.filter (·.waits.isEmpty)
  let m := m.updRing n fun r => { r with fences := fs.filter (!·.waits.isEmpty) }
  done.foldl (fun m f => fenceFired m n f) m

/-- FIRED_EN of ring `n` in force. -/
def firedEn (m : Module) (n : Nat) : Bool := m.cb (Reg.INGEST_RING_CFG n) 4

/-- An event has reached its final state: its notification is formed and the FENCEs that covered it are looked at. -/
def finalNote (m : Module) (ev : EvRec) (kind reason flags field : Nat) : Module :=
  let note : Note := ⟨kind, reason, ev.chan, ev.tag, ev.op.code, flags, field⟩
  let sent := kind != kFired || ev.op == .mark || ev.producer == coverProducer || firedEn m ev.producer
  let m := if sent then notify m ev note else m
  if ev.producer = coverProducer then
    { m with cover := { m.cover with evDecision := m.cover.evDecision.filter (·.1 != ev.acc) } }
  else fencesFinal m ev.producer ev.acc

/-- A MISSED, with the Hob's counts and flags for the reasons it decides itself (R115, HOB registers). -/
def missNote (m : Module) (ev : EvRec) (reason : Nat) : Module :=
  let m :=
    if reason = rOutputFault ∨ reason = rBoostBusy then m
    else
      let m := m.count Reg.HOB_PUB_MISSED
      if reason = rLate then (m.count Reg.HOB_PUB_LATE).raise Reg.HOB_INT_STATUS 4
      else if reason = rAxisDown ∨ reason = rAxisNotReady then m.raise Reg.HOB_INT_STATUS 5
      else if reason = rQueueFull then m.raise Reg.HOB_INT_STATUS 6
      else m
  finalNote m ev kMissed reason (noteFlags m ev.cold ev.replaced ev.coast) m.mt

/-- A CANCELLED (R115). -/
def cancelNote (m : Module) (ev : EvRec) (reason : Nat) : Module :=
  finalNote m ev kCancelled reason (noteFlags m ev.cold ev.replaced ev.coast) m.mt

end Sys2Proof.Machine
end

