-- ==== Sys2Proof/Machine/HobCore.lean ====
section
/-! DEFINITION. The event store and the scheduler: space, placement, edges, promotion, demotion and commit (05, 06). -/

namespace Sys2Proof.Machine

/-! ## Space (R119 to R122) -/

def storeSlots : Nat := 2097152
def hobSlots : Nat := 65536
def fifoSlots : Nat := 8192

/-- USE_p: slots held by producer `p` (R119). -/
def useOf (m : Module) (p : Nat) : Nat :=
  (m.hob.events.filter (·.producer == p)).length + (m.ringAt p).unchecked.length

/-- RES_p in force. -/
def resOf (m : Module) (p : Nat) : Nat :=
  if p = coverProducer then m.cf Reg.HOB_COVER_RES 21 0 else m.cf (Reg.HOB_RING_RES p) 21 0

/-- The slots that count against the store for one producer. -/
def heldOf (m : Module) (p : Nat) : Nat := max (useOf m p) (resOf m p)

/-- SHARED_FREE (R119). -/
def sharedFree (m : Module) : Nat := storeSlots - ((List.range 65).map (heldOf m)).sum

/-- A claim of `n` slots by producer `p` is admissible (R120). -/
def claimOk (m : Module) (p n : Nat) : Bool :=
  decide (max (useOf m p + n) (resOf m p) - heldOf m p ≤ sharedFree m)

/-- HOB_FILL: every slot held (R122). -/
def storeFill (m : Module) : Nat := m.hob.events.length + ((List.range 64).map fun n => (m.ringAt n).unchecked.length).sum

/-- Hob entries in use. -/
def nearFill (m : Module) : Nat := (m.hob.events.filter (·.place == .hob)).length

/-- Events in the filing FIFO (R160). -/
def fifoFill (m : Module) : Nat := (m.hob.events.filter (·.place == .fifo)).length

/-- Bring the watermark, STORE_FULL, HOB_FULL and FIFO_FULL conditions and the cycle's maxima up to date (R122). -/
def fillNote (m : Module) : Module :=
  let fill := storeFill m
  let near := nearFill m
  let h := m.hob
  let hi := decide (fill > m.cf Reg.HOB_FILL_WM 31 16 * 64)
  let lo := decide (fill < m.cf Reg.HOB_FILL_WM 15 0 * 64)
  let full := decide (sharedFree m = 0)
  let hf := decide (hobSlots ≤ near)
  let ff := decide (fifoSlots ≤ fifoFill m)
  let flags := (if hi && !h.aboveHi then 1 else 0) + (if lo && h.aboveHi then 2 else 0) + (if hf && !h.hobFull then 4 else 0)
    + (if full && !h.storeFull then 8 else 0)
  let ffOn := ff && !m.ingest.fifoFull
  let m := { m with
    hob := { h with aboveHi := hi || (h.aboveHi && !lo), storeFull := full, hobFull := hf,
                    fillMax := max h.fillMax fill, nearMax := max h.nearMax near },
    ingest := { m.ingest with fifoFull := ff } }
  let m := if flags = 0 then m else m.orR Reg.HOB_INT_STATUS (w32 flags)
  if ffOn then m.raise Reg.INGEST_INT_STATUS 3 else m

/-- Replace the list of stored and queued events. -/
def Module.setEvents (m : Module) (es : List EvRec) : Module := fillNote { m with hob := { m.hob with events := es } }

/-- Drop the event with acceptance number `a` from the store. -/
def dropEvent (m : Module) (a : Nat) : Module := m.setEvents (m.hob.events.filter (·.acc != a))

/-- Change the event with acceptance number `a`. -/
def updEvent (m : Module) (a : Nat) (f : EvRec → EvRec) : Module :=
  m.setEvents (m.hob.events.map fun e => if e.acc = a then f e else e)

/-- An event leaves the store MISSED. -/
def missEvent (m : Module) (ev : EvRec) (reason : Nat) : Module := missNote (dropEvent m ev.acc) ev reason

/-! ## Edges (R98, R126) -/

/-- Nozzle PWM mode of profile set `p` in force (R103). -/
def pwmMode (m : Module) (p : Nat) : Bool := m.cb (Reg.VDRV_PF_MODE p) 0

/-- The commit queue of target `k`. -/
def queueOf (m : Module) (k : Fin 256) : List CEdge := Arr.at' m.hob.queues k

/-- The duty in force on a channel. -/
def dutyInForce (m : Module) (c : Nat) : Nat :=
  if c ≤ 127 then (Arr.getD m.vdrv.ch c VcSt.reset).level
  else if c ≤ 271 then (Arr.getD m.lsw.ch (c - 256) LsSt.reset).level
  else (Arr.getD m.fio.fo (c - 512) FoSt.reset).level

/-- The duty a committed LEVEL or CLOSE edge sets (R98). -/
def CEdge.sets (e : CEdge) : Option Nat :=
  match e.act with
  | .duty d => some d
  | .closeOff => some 0
  | _ => none

/-- The duty a LEVEL moves from (R98): set by the last LEVEL or CLOSE edge that waits, or in force. -/
def dutyFrom (m : Module) (c : Nat) : Nat :=
  match targetIx c with
  | some k => (((queueOf m k).filterMap CEdge.sets).getLast?).getD (dutyInForce m c)
  | none => 0

/-- DUTY of a LEVEL (R97). -/
def EvRec.duty (e : EvRec) : Nat := bits e.arg 15 0

/-- The delay applied to an event's first edge, and whether it is a cold default (R98, R126). -/
def firstDelay (m : Module) (e : EvRec) : Nat × Bool :=
  if e.chan ≤ 127 then
    match e.op with
    | .fire | .open => delayOf m e.chan e.profile true
    | .close => delayOf m e.chan e.profile false
    | .level =>
      if e.duty = 0 then delayOf m e.chan e.profile false
      else if dutyFrom m e.chan = 0 then delayOf m e.chan e.profile true
      else (0, false)
    | .setpt | .mark => (0, false)
  else (0, false)

/-- The prediction of an axis that offers one. -/
def axisPred (m : Module) (n : Nat) : Option Pred :=
  match fin? 15 n with
  | some i =>
    let x := Arr.at' m.axes.ax i
    if x.phase == .locked || x.phase == .coast then some (predOf m n x) else none
  | none => none

/-- T(TARGET) as an MT (R81, R74). -/
def timeOf (m : Module) (e : EvRec) : Option Int :=
  if e.axis = 15 then some (axtTarget e.target e.accMt)
  else
    match axisPred m e.axis with
    | none => none
    | some q =>
      let x := arrivalAt e.ref e.target (axisWrap m e.axis) (decide (0 < q.vn))
      (q.timeTo x).map fun d => ((q.mtk + d : Nat) : Int)

/-- The predicted first edge E (R126). -/
def edgeOf (m : Module) (e : EvRec) : Option Int := (timeOf m e).map fun t => t - ((firstDelay m e).1 : Int)

/-- The coordinate DURATION beyond TARGET in the direction of motion, and the MT it is reached (R98). -/
def timeOfDistance (m : Module) (e : EvRec) : Option Int :=
  match axisPred m e.axis with
  | none => none
  | some q =>
    let up : Bool := decide (0 < q.vn)
    let w := axisWrap m e.axis
    let x := arrivalAt e.ref e.target w up
    let d := targetQ (bits e.arg 30 0 : Nat)
    let d := if w = 0 then d else (let r := d % ((w : Int) * qOne); if r = 0 then (w : Int) * qOne else r)
    (q.timeTo (if up then x + d else x - d)).map fun d => ((q.mtk + d : Nat) : Int)

/-- The commit point C of a channel in ticks (R128). -/
def commitPoint (m : Module) (c : Nat) : Nat :=
  match targetIx c with
  | some k => usT (m.cf (Reg.HOB_CH_COMMIT k.val) 10 0)
  | none => 0

/-- HORIZON of an axis in ticks. -/
def horizonOf (m : Module) (n : Nat) : Nat := m.cf (Reg.HOB_AX_HORIZON n) 9 0 * 40000

/-! ## Pages (R124, R125) -/

/-- BUCKET_LOG2 of an axis; 20 on AXT (R124). -/
def bucketLog (m : Module) (n : Nat) : Nat :=
  if n = 15 then 20 else match axisRec m n with
    | some r => r.bucketLog2
    | none => 0

/-- The number of buckets of a wrapped axis (R124). -/
def bucketCount (m : Module) (n : Nat) : Nat := cdiv (axisWrap m n) (2 ^ bucketLog m n)

/-- The bucket that holds coordinate `c` (Q40.24, unwrapped), counted over whole turns on a wrapped axis. -/
def bucketAt (m : Module) (n : Nat) (c : Int) : Int :=
  let w := axisWrap m n
  let k := (reported w c / qOne) / (2 ^ bucketLog m n : Nat)
  turns w c * bucketCount m n + k

/-- The bucket of an event: of K, or of its MT on AXT (R124). -/
def bucketOf (m : Module) (e : EvRec) : Int :=
  if e.axis = 15 then axtTarget e.target e.accMt / (2 ^ 20) else (e.target / 256) / (2 ^ bucketLog m e.axis : Nat)

/-- Bucket `b` lies in the interval of buckets, modulo N on a wrapped axis. -/
def bucketWithin (m : Module) (n : Nat) (lo hi b : Int) : Bool :=
  if axisWrap m n = 0 then decide (lo ≤ b ∧ b ≤ hi)
  else
    let c := (bucketCount m n : Int)
    decide ((b - lo) % c ≤ hi - lo)

/-- Bucket `b` lies in the span of the page wheel (R125). -/
def inSpan (m : Module) (n : Nat) (b : Int) : Bool :=
  if axisWrap m n ≠ 0 ∧ bucketCount m n ≤ 1024 then true
  else
    let now := bucketAt m n (axisNow m n)
    bucketWithin m n (now - 512) (now + 511) b

/-- Where a stored record is filed: a page of the wheel or the far chain (R125). -/
def filePlace (m : Module) (e : EvRec) : Place := if inSpan m e.axis (bucketOf m e) then .wheel else .far

/-! ## Late targets and promotion (R73, R105, R128 to R131) -/

/-- The coordinate `c` has reached or crossed the event's TARGET, seen from its reference (R73, R128 case 1). -/
def hasPassed (m : Module) (e : EvRec) (c : Int) : Bool :=
  let w := axisWrap m e.axis
  if w = 0 then
    let t := targetQ e.target
    if e.ref < t then decide (t ≤ c) else if t < e.ref then decide (c ≤ t) else true
  else decide (nextUp e.ref (targetQ e.target) w ≤ c) || decide (c ≤ nextDown e.ref (targetQ e.target) w)

/-- Mark the pending events of an axis whose TARGET the coordinate it offers now has reached or crossed. -/
def notePassed (m : Module) (n : Nat) : Module :=
  let c := axisNow m n
  { m with hob := { m.hob with events := m.hob.events.map fun e =>
      if e.axis = n ∧ n ≠ 15 ∧ !e.passed then { e with passed := hasPassed m e c } else e } }

/-- A timed event on a ready axis is late at acceptance (R105). -/
def lateAtAcceptance (m : Module) (e : EvRec) : Bool :=
  if e.axis = 15 then decide (axtTarget e.target e.accMt ≤ (e.accMt : Int))
  else if axisWrap m e.axis ≠ 0 || !axisReady m e.axis then false
  else
    let t := targetQ e.target
    let c := axisNow m e.axis
    if axisUp m e.axis then decide (t ≤ c) else decide (c ≤ t)

/-- What R128 cases 2 to 4 make of an event now. -/
inductive Verdict where
  | stay | late | queue
  deriving DecidableEq, Repr

def verdictOf (m : Module) (e : EvRec) : Verdict :=
  match edgeOf m e with
  | none => .stay
  | some t =>
    if t > (m.mt + horizonOf m e.axis : Nat) then .stay
    else if t - (commitPoint m e.chan : Int) < (m.mt : Int) then .late
    else .queue

/-- The latest predicted edge among the queued events, with its event (R130). -/
def latestQueued (m : Module) : Option (EvRec × Int) :=
  (m.hob.events.filter (·.place == .hob)).foldl (fun b e =>
    match edgeOf m e with
    | none => some (e, 2 ^ 80)
    | some t => match b with
      | none => some (e, t)
      | some (_, t') => if t' < t then some (e, t) else b) none

/-- Note when a STORED event's edge first came within the horizon, and the promotion lag (R131). -/
def noteDue (m : Module) : Module :=
  let due (e : EvRec) : EvRec :=
    if e.place = .hob then e
    else match edgeOf m e with
      | none => { e with due := none }
      | some t =>
        let at_ := t - (horizonOf m e.axis : Int)
        if (m.mt : Int) < at_ then { e with due := none }
        else match e.due with
          | some _ => e
          | none => { e with due := some (max at_.toNat e.accMt) }
  let es := m.hob.events.map due
  let lag : Nat := (es.filterMap fun e => if e.place = .hob then none else e.due.map fun d => m.mt - d).foldl max 0
  let lagging := decide (20000 < lag)
  let on := lagging && !m.hob.pagerLag
  let m := { m with hob := { m.hob with events := es, pagerLag := lagging, lagMax := max m.hob.lagMax lag } }
  if on then m.raise Reg.HOB_INT_STATUS 7 else m

/-- Put a ready event into the Hob (R129, R130): the latest entry is demoted for an earlier newcomer when it is full. -/
def intoHob (m : Module) (e : EvRec) : Module :=
  let enter (m : Module) : Module :=
    (updEvent m e.acc fun e => { e with place := .hob, due := none }).count Reg.HOB_PUB_PROMOTED
  if nearFill m < hobSlots then enter m
  else
    match latestQueued m, edgeOf m e with
    | some (l, t), some te =>
      if te < t then enter (updEvent m l.acc fun l => { l with place := filePlace m l })
      else updEvent m e.acc fun e => { e with place := filePlace m e }
    | _, _ => updEvent m e.acc fun e => { e with place := filePlace m e }

/-! ## Commit (R132 to R134) -/

/-- Entries of a commit queue an event uses (R133). -/
def EvRec.edges (e : EvRec) : Nat := if e.op = .fire then 2 else 1

/-- The first check of R132 that fails, if one does: `e1` is E and `offs` the second edge's MT. -/
def commitFault (m : Module) (e : EvRec) (e1 : Int) (distOk : Bool) : Option Nat :=
  let output := decide (e.chan ≤ 527)
  let room := match targetIx e.chan with
    | some k => decide ((queueOf m k).length + e.edges ≤ 8)
    | none => false
  if output && !m.armed then some rDisarmed
  else if e.op = .level ∧ e.chan ≤ 127 ∧ !pwmMode m e.profile then some rMode
  else if e1 < (m.mt + 16 : Nat) then some rLate
  else if !room then some rQueueFull
  else if !distOk then some rDuration
  else none

/-- Insert an edge in execution order: MT, then acceptance number (R112). -/
def putEdge (x : CEdge) : List CEdge → List CEdge
  | [] => [x]
  | y :: ys => if x.mt < y.mt ∨ (x.mt = y.mt ∧ x.acc < y.acc) then x :: y :: ys else y :: putEdge x ys

/-- What the first edge of an event does. -/
def EvRec.firstAct (e : EvRec) : EdgeAct :=
  match e.op with
  | .fire | .open => .on
  | .close => .closeOff
  | .level => .duty e.duty
  | .setpt => .setpt (w32 e.arg)
  | .mark => .mark

/-- Fix an event's edges in its commit queue (R132). -/
def fixEdges (m : Module) (e : EvRec) (edges : List CEdge) (first : Nat) : Module :=
  match targetIx e.chan with
  | none => m
  | some k =>
    { m with hob := { m.hob with
      queues := Arr.upd m.hob.queues k fun q => edges.foldl (fun q x => putEdge x q) q,
      committed := m.hob.committed ++ [{ ev := e, first := first, left := edges.length, ran := false, clipped := false,
                                         skipped := false, noEffect := false }] } }

/-- Commit an event at the present tick, or end it by the first check that fails (R132). -/
def commitEvent (m : Module) (e : EvRec) : Module :=
  match timeOf m e with
  | none => m
  | some t =>
    let (d, cold1) := firstDelay m e
    let e1 := t - (d : Int)
    let dist := e.op == .fire && tb e.arg 31
    let t2 := if dist then timeOfDistance m e else some (t + (bits e.arg 30 0 : Nat))
    match commitFault m e e1 t2.isSome with
    | some r =>
      let m := if r = rQueueFull then
          match targetIx e.chan with
          | some k => m.addSat (Reg.HOB_CH_QUEUE k.val) 31 16 1
          | none => m
        else m
      missEvent m e r
    | none =>
      let (dc, cold2) := if e.op = .fire ∧ e.chan ≤ 127 then delayOf m e.chan e.profile false else (0, false)
      let e2 := (t2.getD 0) - (dc : Int)
      let coast := match fin? 15 e.axis with
        | some i => (Arr.at' m.axes.ax i).phase == .coast
        | none => false
      let ev := { e with place := .hob, cold := e.cold || cold1 || cold2, coast := coast }
      let first := e1.toNat
      let edges := (⟨first, e.acc, e.firstAct, d⟩ : CEdge) ::
        (if e.op = .fire then [⟨e2.toNat, e.acc, .fireOff, dc⟩] else [])
      let m := dropEvent m e.acc
      let m := fixEdges m ev edges first
      let m := { m with time := { m.time with commits := m.time.commits + 1 } }
      m.count Reg.HOB_PUB_COMMITTED

/-- The queued event whose commit instant is reached, earliest E first, then acceptance number (R134). -/
def nextCommit (m : Module) : Option EvRec :=
  let due := (m.hob.events.filter (·.place == .hob)).filterMap fun e =>
    match edgeOf m e with
    | some t => if t - (commitPoint m e.chan : Int) ≤ (m.mt : Int) then some (t, e) else none
    | none => none
  (due.foldl (fun (b : Option (Int × EvRec)) x => match b with
    | none => some x
    | some y => if x.1 < y.1 ∨ (x.1 = y.1 ∧ x.2.acc < y.2.acc) then some x else b) none).map (·.2)

/-- The earliest commit instant ahead. -/
def nextCommitMt (m : Module) : Option Nat :=
  ((m.hob.events.filter (·.place == .hob)).filterMap fun e =>
    (edgeOf m e).map fun t => (t - (commitPoint m e.chan : Int)).toNat).min?

/-- Place an accepted event that is not late (R129): into the Hob when its edge lies within the horizon and there is
room, otherwise as `other` says. -/
def placeAccepted (m : Module) (e : EvRec) (other : Place) : Module :=
  match verdictOf m e with
  | .late => missEvent m e rLate
  | .queue => if nearFill m < hobSlots ∨ other ≠ .fifo then intoHob m e else updEvent m e.acc fun e => { e with place := other }
  | .stay => updEvent m e.acc fun e => { e with place := other }

/-- Accept a timed event: it takes the next acceptance number, is MISSED when it is late, and is placed (R104, R105,
R118, R129). The caller has released the claim that the ring made for it. -/
def acceptTimed (m : Module) (e : EvRec) : Module :=
  let e := { e with acc := m.hob.nextAcc, accMt := m.mt, ref := axisNow m e.axis, place := .fifo }
  let m := { m with hob := { m.hob with nextAcc := m.hob.nextAcc + 1 } }
  let m := m.setEvents (m.hob.events ++ [e])
  if lateAtAcceptance m e then missEvent m e rLate
  else if axisReady m e.axis then placeAccepted m e .fifo
  else m

/-! ## Axis states (R136) -/

/-- An axis enters DOWN: its STORED and QUEUED events are MISSED. -/
def eventsAxisDown (m : Module) (n : Nat) : Module :=
  (m.hob.events.filter (·.axis == n)).foldl (fun m e => missEvent m e rAxisDown) m

/-- An axis enters ACQUIRE: its QUEUED events are demoted. -/
def eventsAcquire (m : Module) (n : Nat) : Module :=
  m.setEvents (m.hob.events.map fun e => if e.axis = n ∧ e.place = .hob then { e with place := filePlace m e } else e)

/-- An accepted update in ACQUIRE: events whose TARGET the coordinate has reached or crossed are MISSED. -/
def eventsNotReady (m : Module) (n : Nat) : Module :=
  let m := notePassed m n
  (m.hob.events.filter fun e => e.axis == n && e.passed).foldl (fun m e => missEvent m e rAxisNotReady) m

/-- Pending events take the coordinate `c` as their reference (events accepted while the axis was DOWN). -/
def rebaseEvents (m : Module) (n : Nat) (c : Int) : Module :=
  { m with hob := { m.hob with events := m.hob.events.map fun e => if e.axis = n then { e with ref := c, passed := false } else e } }

end Sys2Proof.Machine
end

