-- ==== Sys2Proof/Machine/Shadow.lean ====
section
/-! DEFINITION. Shadow register sets: the pending stage and its taking (R17). -/

namespace Sys2Proof.Machine

/-- The unit whose shadow set a register belongs to (R17). -/
def unitOf (off : Nat) : Option ApplyUnit :=
  match regAt off with
  | none => none
  | some (d, ix) =>
    match d.shadow with
    | .none => none
    | .axis => (fin? 15 (ix.headD 0)).map .axis
    | .loop => (fin? 32 (ix.headD 0)).map .loop
    | .hob => some .hob | .ingest => some .ingest | .learn => some .learn | .vdrv => some .vdrv
    | .cover => some .cover | .gnss => some .gnss | .flue => some .flue | .fio => some .fio
    | .lsw => some .lsw | .pwr => some .pwr

/-- The pending stage of a unit. -/
def stageOf (m : Module) (u : ApplyUnit) : Option Stage := m.regs.pend.find? (·.owner == u)

/-- APPLY_PENDING of a unit. -/
def applyPending (m : Module) (u : ApplyUnit) : Bool := (stageOf m u).isSome

/-- A write of 1 to a unit's APPLY bit: the shadow set is copied at once and replaces a stage not yet taken (R17). -/
def applyUnit (m : Module) (u : ApplyUnit) : Module :=
  let regs := m.regs.rw.filter fun e => unitOf e.1 == some u
  { m with regs := { m.regs with pend := m.regs.pend.filter (·.owner != u) ++ [⟨u, m.mt, regs⟩] } }

/-- The stage that a boundary at the present tick takes: one applied in an earlier tick (R17). -/
def stageDue (m : Module) (u : ApplyUnit) : Option Stage :=
  match stageOf m u with
  | some s => if s.mt < m.mt then some s else none
  | none => none

/-- Drop the pending stage of a unit. -/
def dropStage (m : Module) (u : ApplyUnit) : Module :=
  { m with regs := { m.regs with pend := m.regs.pend.filter (·.owner != u) } }

/-- The registers of a stage that resident firmware keeps among its settings: all but an axis offset, which SAVE_OFFSET stores
(R92, R377). -/
def Stage.kept (s : Stage) : List (Nat × Word) :=
  match s.owner with
  | .axis n => s.regs.filter fun e => e.1 != Reg.AXIS_AX_OFFSET_LO n.val && e.1 != Reg.AXIS_AX_OFFSET_HI n.val
  | _ => s.regs

/-- Resident firmware stores the values of a stage put in force in the settings area in use (R377). -/
def keepSettings (m : Module) (s : Stage) : Module :=
  { m with sec := { m.sec with area := Arr.updD m.sec.area m.sec.areaNow fun r =>
      { r with regs := s.kept.foldl (fun a e => Sparse.set resetOf a e.1 e.2) (r.regs.filter fun e => unitOf e.1 != some s.owner) } } }

/-- Put a stage in force as a whole (R17). -/
def putInForce (m : Module) (s : Stage) : Module :=
  let act := m.regs.act.filter fun e => unitOf e.1 != some s.owner
  let act := s.regs.foldl (fun a e => Sparse.set resetOf a e.1 e.2) act
  keepSettings { m with regs := { m.regs with act := act } } s

/-- The value of a register in a stage. -/
def Stage.val (s : Stage) (off : Nat) : Word := Sparse.get resetOf s.regs off

/-- Bits `[h:l]` of a register in a stage. -/
def Stage.f (s : Stage) (off h l : Nat) : Nat := fld (s.val off) h l

end Sys2Proof.Machine
end

