-- ==== Sys2Proof/Machine/Axis.lean ====
section
/-! DEFINITION. The axis unit: measurements, the estimator, states, faults, index, settings and offsets (04). -/

namespace Sys2Proof.Machine

/-- Axis `n`. -/
def axisAt (m : Module) (n : Fin 15) : AxisSt := Arr.at' m.axes.ax n

/-- Change axis `n`. -/
def Module.updAxis (m : Module) (n : Fin 15) (f : AxisSt → AxisSt) : Module :=
  { m with axes := { m.axes with ax := Arr.upd m.axes.ax n f } }

/-- Set event flag `i` of axis `n`. -/
def axisEvt (m : Module) (n : Fin 15) (i : Nat) : Module := m.raise (Reg.AXIS_AX_EVT n.val) i

/-- Pending events see the axis's new prediction (R77, R132). -/
def axisMoved (m : Module) (n : Fin 15) : Module := noteDue (notePassed m n.val)

/-! ## States (R83) -/

/-- Entry into DOWN. -/
def axisDown (m : Module) (n : Fin 15) (r : DownReason) : Module :=
  let c := axisNow m n.val
  let m := m.updAxis n fun x => { x with phase := .down, reason := r, p := c, v := 0, a := 0, still := false }
  eventsAxisDown (axisEvt m n 3) n.val

/-- Entry into ACQUIRE: estimator and history are cleared, the raw count goes on, BLEND_SCALE starts at PULSE_SCALE
(R83, R86). -/
def axisAcquire (m : Module) (n : Fin 15) : Module :=
  let c := axisNow m n.val
  let blend := if axisSrc m n.val = .blended then (m.cfg (Reg.AXIS_AX_PULSE_SCALE n.val)).toNat else 0
  let m := m.updAxis n fun x =>
    { x with phase := .acquire, rebase := x.phase == .down, p := c, v := 0, a := 0, history := [], acq := 0, acqFirst := (0, 0),
             resync := .none, still := false, dirKnown := false, outlierRun := 0, blendScale := blend, stretchMm := 0,
             stretchG := 0, stretchD := 0, pulseFault := false, epochsNoPulse := 0, gnssGap := false }
  eventsAcquire (axisEvt m n 0) n.val

/-- Entry into COAST: no acceleration; timer and distance start (R83). -/
def axisCoast (m : Module) (n : Fin 15) : Module :=
  let c := axisNow m n.val
  let m := m.updAxis n fun x => { x with phase := .coast, a := 0, coastMt := m.mt, coastP := c, still := false }
  axisMoved (axisEvt m n 2) n

/-- Onset of a source fault (R83, R84). -/
def axisFault (m : Module) (n : Fin 15) (cause : Option FaultCause) : Module :=
  let x := axisAt m n
  if x.fault then m
  else
    let m := m.updAxis n fun x => { x with fault := true, faultOutlier := cause.isNone, faultCause := cause,
                                           stretchMm := 0, stretchG := 0, stretchD := 0 }
    let m := (axisEvt m n 9).addSat (Reg.AXIS_AX_ERRCNT n.val) 15 8 1
    match x.phase with
    | .locked => if m.cf (Reg.AXIS_AX_COAST n.val) 31 16 ≠ 0 then axisCoast m n else axisDown m n .sourceFault
    | .acquire => m.updAxis n fun x => { x with acq := 0 }
    | .coast | .down => m

/-- The fault condition has ended. -/
def axisClearFault (m : Module) (n : Fin 15) : Module :=
  m.updAxis n fun x => { x with fault := false, faultOutlier := false, faultCause := none, outlierRun := 0 }

/-! ## Estimation (R78, R79, R82, R85) -/

/-- GATE in force as a coordinate; Q24.8 counts. -/
def gateOf (m : Module) (n : Fin 15) : Int := ((m.cfg (Reg.AXIS_AX_GATE n.val)).toNat : Int) * 65536

def posShift (m : Module) (n : Fin 15) : Nat := m.cf (Reg.AXIS_AX_CFG n.val) 27 24
def velShift (m : Module) (n : Fin 15) : Nat := m.cf (Reg.AXIS_AX_CFG n.val) 23 20
def accShift (m : Module) (n : Fin 15) : Nat := m.cf (Reg.AXIS_AX_CFG n.val) 19 16

/-- Prediction `n` ticks after a state (R78 step 2). -/
def predictBy (p v a : Int) (n : Nat) : Int := p + rdiv (2 * v * n * fclk + a * (n * n : Nat)) (2 * fclk * fclk)

/-- v after the correction by residual `r` over `n` ticks (R78 steps 2 and 6): one rounding. -/
def velBy (v a r : Int) (n vs : Nat) : Int :=
  v + rdiv (a * (n * n : Nat) * (2 ^ vs : Nat) + r * (fclk * fclk : Nat)) (fclk * n * 2 ^ vs)

/-- a after the correction by residual `r` over `n` ticks (R78 step 7). -/
def accBy (a r : Int) (n as_ : Nat) : Int := a + rdiv (2 * r * (fclk * fclk : Nat)) (n * n * 2 ^ as_)

/-- Keep a state in the history (R76). -/
def AxisSt.push (x : AxisSt) (t : Nat) (p : Int) : AxisSt := { x with history := ((t, p) :: x.history).take 64 }

/-- One outlier: the state stands; the third in a row is a source fault (R78 step 4). -/
def axisOutlier (m : Module) (n : Fin 15) : Module :=
  let m := (axisEvt m n 8).addSat (Reg.AXIS_AX_ERRCNT n.val) 31 16 1
  let run := (axisAt m n).outlierRun + 1
  let m := m.updAxis n fun x => { x with outlierRun := run }
  if run ≥ 3 then axisFault m n none else m

/-- An increment of opposite sign (R82): the axis state that follows. -/
def axisReverse (m : Module) (n : Fin 15) (y : Int) (t : Nat) (down : Bool) : Module :=
  let m := m.updAxis n fun x =>
    { (x.push t y) with p := y, v := 0, a := 0, mtk := t, upd := t, accepted := x.accepted + 1, dirDown := down, dirKnown := true,
                        reversals := x.reversals + 1, resync := .twoPoint, still := false, outlierRun := 0,
                        stretchMm := 0, stretchG := 0, stretchD := 0 }
  axisEvt m n 5

/-- An accepted update in ACQUIRE (R79). -/
def acquireUpdate (m : Module) (n : Fin 15) (y : Int) (t : Nat) : Module :=
  let x := axisAt m n
  let k := x.acq + 1
  let first := if k = 1 then (t, y) else x.acqFirst
  let m := m.updAxis n fun x => { (x.push t y) with p := y, v := 0, a := 0, mtk := t, upd := t, accepted := x.accepted + 1, acq := k, acqFirst := first }
  let m := if x.rebase then rebaseEvents (m.updAxis n fun x => { x with rebase := false }) n.val y else m
  let m := eventsNotReady m n.val
  if outOfRange (axisWrap m n.val) y then axisDown m n .range
  else if k < 4 then m
  else
    let dt := t - first.1
    let (v, m) := if dt = 0 then (sx 64 m.freeVal, m.freed) else (rdiv ((y - first.2) * fclk) dt, m)
    let m := m.updAxis n fun x => { x with phase := .locked, v := v, a := 0, resync := .none, outlierRun := 0 }
    axisMoved (axisEvt m n 1) n

/-- Leave COAST at coordinate `c` (R85); `diff` is what REJOIN shows. -/
def axisRejoin (m : Module) (n : Fin 15) (c diff : Int) (t : Nat) : Module :=
  let off := axisOffset m n.val
  let m := axisClearFault m n
  let m := m.updAxis n fun x =>
    { (x.push t c) with phase := .locked, p := c, a := 0, mtk := t, upd := t, accepted := x.accepted + 1, sum := c - off, resync := .none, gnssGap := false }
  let m := m.wr (Reg.AXIS_AX_REJOIN n.val) (wInt (sat32 (rdiv diff qOne.toNat)))
  axisMoved (axisEvt (axisEvt m n 1) n 10) n

/-- The tracker of R78 on a measurement `y` stamped `t`; `ps` is POS_SHIFT. -/
def trackUpdate (m : Module) (n : Fin 15) (y : Int) (t ps : Nat) (gated : Bool) : Module :=
  let x := axisAt m n
  let late := decide (t < x.mtk)
  let xh := if late then (historyAt x.history t).getD x.p else predictBy x.p x.v x.a (t - x.mtk)
  let r := y - xh
  if gated && gateOf m n ≠ 0 && decide (gateOf m n < (absN r : Int)) then axisOutlier m n
  else
    let dt := if late then t - ((stampBefore x.history t).getD t) else t - x.mtk
    let p := (if late then x.p else xh) + rdiv r (2 ^ ps)
    let lim := ((m.cfg (Reg.AXIS_AX_ACC_LIMIT n.val)).toNat : Int) * qOne
    let as_ := accShift m n
    let (v, a, m) :=
      match x.resync with
      | .setPos => (0, 0, m)
      | .twoPoint =>
        if dt = 0 then (sx 64 m.freeVal, 0, m.freed) else (rdiv ((y - x.p) * fclk) dt, 0, m)
      | .none =>
        if dt = 0 then
          let v := sx 64 m.freeVal
          let m := m.freed
          if as_ = 15 then (v, 0, m) else (v, clampI (-lim) lim (sx 64 m.freeVal), m.freed)
        else
          let v := if late then x.v + rdiv (r * fclk) (dt * 2 ^ velShift m n) else velBy x.v x.a r dt (velShift m n)
          (v, if as_ = 15 then 0 else clampI (-lim) lim (accBy x.a r dt as_), m)
    let p := if x.resync = .none then p else y
    let next : Resync := if x.resync = .setPos then .twoPoint else .none
    let m := m.updAxis n fun x =>
      let x := if late then { x with history := (match x.history with | (t0, _) :: h => (t0, p) :: h | [] => []) }
               else { (x.push t p) with mtk := t }
      { x with p := p, v := v, a := a, upd := max x.upd t, accepted := x.accepted + 1, resync := next, still := false, outlierRun := 0 }
    if outOfRange (axisWrap m n.val) y || outOfRange (axisWrap m n.val) p then axisDown m n .range else axisMoved m n

/-- Whether the fault that is present ends with the next good measurement by itself (R84). -/
def AxisSt.selfClearing (x : AxisSt) : Bool :=
  x.faultOutlier || match x.faultCause with
    | some .phase | some .epochs | some .blendGap => true
    | _ => false

/-- A measurement with coordinate `y`, stamped `t`, of a source other than BLENDED's pulses and corrections. `dir` is the
sign of its increment where the source can reverse; `step` the source step of an incremental source. -/
def measure (m : Module) (n : Fin 15) (y : Int) (t : Nat) (dir : Option Bool) (step : Option Int) : Module :=
  let x := axisAt m n
  if x.phase = .down then (if x.fault && x.selfClearing then axisClearFault m n else m)
  else if x.fault && !x.selfClearing then m
  else
    let rev := match dir with
      | some d => x.dirKnown && d != x.dirDown
      | none => false
    match x.phase with
    | .down => m
    | .acquire =>
      let m := if x.fault then axisClearFault m n else m
      if rev then
        let m := axisReverse m n y t (dir.getD false)
        let m := m.updAxis n fun x => { x with acq := 0, history := [], resync := .none }
        acquireUpdate m n y t
      else
        let m := m.updAxis n fun x => { x with dirDown := dir.getD x.dirDown, dirKnown := x.dirKnown || dir.isSome }
        acquireUpdate m n y t
    | .coast =>
      let q := predictBy x.p x.v 0 (t - x.mtk)
      let g := gateOf m n
      if x.faultOutlier && g ≠ 0 && decide (g < (absN (y - q) : Int)) then axisOutlier m n
      else
        let m := m.updAxis n fun x => { x with dirDown := dir.getD x.dirDown, dirKnown := x.dirKnown || dir.isSome }
        match step with
        | some s =>
          let last := y - s
          let c := if s = 0 then q else last + rdiv (q - last) s.natAbs * s.natAbs
          axisRejoin m n c (c - y) t
        | none => axisRejoin m n y (y - q) t
    | .locked =>
      if rev then axisMoved (axisReverse m n y t (dir.getD false)) n
      else
        let m := m.updAxis n fun x => { x with dirDown := dir.getD x.dirDown, dirKnown := x.dirKnown || dir.isSome }
        trackUpdate m n y t (posShift m n) true

/-! ## Blended path (R86, R87) -/

/-- The correction of BLEND_SCALE at the end of a stretch (R86). -/
def blendLearn (m : Module) (n : Fin 15) : Module :=
  let x := axisAt m n
  let cfg := Reg.AXIS_AX_BLEND_CFG n.val
  if x.stretchMm < m.cf cfg 23 16 * 1000 then m
  else
    let s := m.cf cfg 31 28
    let ps := (m.cfg (Reg.AXIS_AX_PULSE_SCALE n.val)).toNat
    let rng := m.cf cfg 27 24 * 25
    let lo := rdiv (ps * (1000 - rng) : Nat) 1000
    let hi := rdiv (ps * (1000 + rng) : Nat) 1000
    let (new, m) :=
      if x.stretchD ≤ 0 then ((m.freeVal : Int), m.freed)
      else (rdiv (x.blendScale * (((2 ^ s : Nat) - 1 : Int) * x.stretchD + x.stretchG)) ((2 ^ s) * x.stretchD.toNat), m)
    m.updAxis n fun x => { x with blendScale := (clampI lo hi new).toNat, stretchMm := 0, stretchG := 0, stretchD := 0 }

/-- A pulse of SECONDARY (R86, R87). -/
def blendPulse (m : Module) (n : Fin 15) (t : Nat) (inv : Bool) : Module :=
  let x := axisAt m n
  let d : Int := if inv then -((x.blendScale : Int) * 16) else (x.blendScale : Int) * 16
  let m := m.updAxis n fun x => { x with epochsNoPulse := 0, pulseFault := false, sum := x.sum + d,
                                         stretchD := x.stretchD + d.natAbs }
  let y := axisOffset m n.val + (axisAt m n).sum
  match x.phase with
  | .locked => trackUpdate m n y t 0 true
  | .coast =>
    axisMoved (m.updAxis n fun x => { (x.push t y) with p := y, mtk := t, upd := t, accepted := x.accepted + 1 }) n
  | .acquire | .down => m

/-- A stretch starts afresh (R86). -/
def AxisSt.noStretch (x : AxisSt) : AxisSt := { x with stretchMm := 0, stretchG := 0, stretchD := 0 }

/-- A PVT epoch of a BLENDED axis with path coordinate `y` (R86, R87). -/
def blendEpoch (m : Module) (n : Fin 15) (y : Int) (t : Nat) (down : Option Bool) (mm : Nat) (g : Int) (fast : Bool) :
    Module :=
  let x := axisAt m n
  match x.phase with
  | .acquire | .coast =>
    let m := measure m n y t down none
    m.updAxis n fun x => { x.noStretch with sum := x.p - axisOffset m n.val, gnssGap := false }
  | .down => measure m n y t down none
  | .locked =>
    let rev := match down with
      | some d => x.dirKnown && d != x.dirDown
      | none => false
    if rev then
      let m := axisReverse m n y t (down.getD false)
      axisMoved (m.updAxis n fun x => { x.noStretch with sum := y - axisOffset m n.val, gnssGap := false }) n
    else
      let m := m.updAxis n fun x => { x with dirDown := down.getD x.dirDown, dirKnown := x.dirKnown || down.isSome }
      let quiet := if fast then x.epochsNoPulse + 1 else 0
      let onset := decide (2 ≤ quiet) && !x.pulseFault
      let m := m.updAxis n fun x => { x with epochsNoPulse := quiet, pulseFault := x.pulseFault || decide (2 ≤ quiet) }
      let m := if onset then axisEvt m n 13 else m
      if (axisAt m n).pulseFault then
        let m := trackUpdate m n y t (posShift m n) (!x.gnssGap)
        m.updAxis n fun x => { x.noStretch with sum := x.p - axisOffset m n.val, gnssGap := false }
      else
        let c := if t < x.mtk then (historyAt x.history t).getD x.p else predictBy x.p x.v x.a (t - x.mtk)
        let r := y - c
        if !x.gnssGap && gateOf m n ≠ 0 && decide (gateOf m n < (absN r : Int)) then axisOutlier m n
        else
          let d := rdiv r (2 ^ posShift m n)
          let m := m.updAxis n fun x =>
            { x with p := x.p + d, sum := x.sum + d, upd := max x.upd t, accepted := x.accepted + 1, gnssGap := false, outlierRun := 0,
                     still := false,
                     history := (match x.history with | (t0, p0) :: h => (t0, p0 + d) :: h | [] => []),
                     stretchMm := if x.gnssGap then 0 else x.stretchMm + mm,
                     stretchG := if x.gnssGap then 0 else x.stretchG + g,
                     stretchD := if x.gnssGap then 0 else x.stretchD }
          axisMoved (blendLearn m n) n

/-! ## Settings (R90, R91) -/

/-- The checks of R90 on a pending stage. -/
def axisStageOk (m : Module) (n : Fin 15) (s : Stage) : Bool :=
  let k := n.val
  let mode := s.f (Reg.AXIS_AX_INDEX_CFG k) 31 30
  let src := axisSrc m k
  let en := src == .enQuad || src == .enPulse || src == .enGate
  let w := axisWrap m k
  let per := s.f (Reg.AXIS_AX_SRC_CFG k) 15 0
  s.val (Reg.AXIS_AX_SCALE k) != 0 && s.val (Reg.AXIS_AX_PULSE_SCALE k) != 0 && decide (1 ≤ per ∧ per ≤ 1000)
    && s.f (Reg.AXIS_AX_BLEND_CFG k) 23 16 != 0 && s.f (Reg.AXIS_AX_BLEND_CFG k) 27 24 != 0
    && (decide (mode < 2) || (w != 0 && decide (w ≤ 2 ^ 32) && decide ((s.val (Reg.AXIS_AX_INDEX_POS k)).toNat < w) && en))

/-- Shift an axis's coordinate by `d` without motion. -/
def AxisSt.shift (x : AxisSt) (d : Int) : AxisSt :=
  { x with p := x.p + d, coastP := x.coastP + d, visitP := x.visitP + d, history := x.history.map fun e => (e.1, e.2 + d),
           acqFirst := (x.acqFirst.1, x.acqFirst.2 + d) }

/-- A new SCALE: P stands, v and a follow the ratio, and so does the distance an acquisition under way has covered (R91, R92). -/
def AxisSt.rescale (x : AxisSt) (new old : Nat) : AxisSt :=
  { x with v := rdiv (x.v * new) old, a := rdiv (x.a * new) old,
           acqFirst := (x.acqFirst.1, x.p - rdiv ((x.p - x.acqFirst.2) * new) old) }

/-- A boundary of the axis takes its pending stage (R90, R91). -/
def takeAxisStage (m : Module) (n : Fin 15) : Module :=
  match stageDue m (.axis n) with
  | none => m
  | some s =>
    let m' := dropStage m (.axis n)
    if !axisStageOk m n s then axisEvt m' n 15
    else
      let k := n.val
      let so := m.cfg (Reg.AXIS_AX_SCALE k)
      let off := axisOffset m k
      let psO := m.cfg (Reg.AXIS_AX_PULSE_SCALE k)
      let m := putInForce m' s
      let sn := m.cfg (Reg.AXIS_AX_SCALE k)
      let d := axisOffset m k - off
      let psN := m.cfg (Reg.AXIS_AX_PULSE_SCALE k)
      let m := m.updAxis n fun x =>
        let x := if so = sn then x else x.rescale sn.toNat so.toNat
        let x := x.shift d
        if psO = psN ∨ axisSrc m k ≠ .blended then x else { x with blendScale := psN.toNat }
      axisMoved m n

/-! ## The commands -/

/-- SOURCE_UPDATE (R69, R70, R75 to R79): one measurement, stamped `t`. -/
def sourceUpdate (n : Fin 15) (t : Nat) (meas : Measurement) (m : Module) : Module :=
  let m := (m.advanceTo t).enterPhase 4
  match axisRec m n.val with
  | none => m
  | some rec =>
    let x := axisAt m n
    let stale := decide (80000000 < m.mt - t) ||
      (decide (t < x.mtk) && x.history != [] && decide (t < ((x.history.getLast?).getD (0, 0)).1))
    let flip (d : Int) : Int := if rec.invert then -d else d
    let scale := scaleQ (m.cfg (Reg.AXIS_AX_SCALE n.val))
    let minFix := m.cf (Reg.AXIS_AX_SRC_CFG n.val) 19 18
    let good (f : FixKind) : Bool := match f with
      | .none => false
      | .single => decide (minFix ≤ 0)
      | .dgnss => decide (minFix ≤ 1)
      | .rtkFloat => decide (minFix ≤ 2)
      | .rtkFixed => true
    match meas with
    | .edge down =>
      if rec.source.incremental then
        let quad := rec.source == .enQuad || rec.source == .fiQuad
        let d := flip (if quad && down then -scale else scale)
        let lost := x.fault && !x.selfClearing
        let m := if lost then m else m.updAxis n fun x => { x with sum := x.sum + d }
        if stale then axisEvt m n 11
        else
          let y := axisOffset m n.val + (axisAt m n).sum
          let upd := (axisAt m n).upd
          let m := measure m n y t (if quad then some (decide (d < 0)) else none) (some d)
          let m := if quad then m else m.updAxis n fun x => { x with dirDown := rec.invert }
          if (axisAt m n).upd = upd && (axisAt m n).outlierRun ≠ 0 then m else takeAxisStage m n
      else if rec.source == .blended then
        if stale then axisEvt m n 11 else takeAxisStage (blendPulse m n t rec.invert) n
      else m
    | .epoch mm fix speed =>
      -- an epoch without a fix has no solution, and is a missing one (R84, R262)
      if (rec.source == .gnssPath || rec.source == .blended) && fix != .none then
        let d := flip (mm * scale)
        let m := m.updAxis n fun x => { x with gsum := x.gsum + d }
        if stale then axisEvt m n 11
        else if !good fix then (if rec.source == .gnssPath then axisFault m n (some .epochs) else m)
        else
          let y := axisOffset m n.val + (axisAt m n).gsum
          let dir := if d = 0 then none else some (decide (d < 0))
          let m := if rec.source == .gnssPath then
              let m := measure m n y t dir none
              m.updAxis n fun x => { x with sum := x.gsum }
            else blendEpoch m n y t dir mm.natAbs (d.natAbs : Int) (decide (500 < speed))
          if (axisAt m n).outlierRun ≠ 0 then m else takeAxisStage m n
      else m

/-- SRC_FAULT (R84, R87). -/
def srcFault (n : Fin 15) (c : FaultCause) (m : Module) : Module :=
  let src := axisSrc m n.val
  let fits := match c with
    | .receiver => src == .enQuad || src == .enPulse || src == .enGate
    | .phase => src == .enQuad || src == .fiQuad
    | .barrier => src == .fiQuad || src == .fiPulse
    | .epochs => src == .gnssPath
    | .blendGap => src == .blended && (axisAt m n).gnssGap
    | .chainLost | .chainDown => src == .chain
  if !fits then m
  else
    let m := if c = .blendGap then
        m.advanceTo ((axisAt m n).gapMt + m.cf (Reg.AXIS_AX_BLEND_CFG n.val) 15 0 * 40000000) else m
    let m := m.enterPhase 3
    if c = .chainDown then
      (if (axisAt m n).phase = .down then m
       else axisDown (axisEvt (m.addSat (Reg.AXIS_AX_ERRCNT n.val) 15 8 1) n 9) n .chainDown)
    else axisFault m n (some c)

/-- SOURCE_FAULT_CLEARED (R84): the condition has ended. A condition that ends with a measurement ends there. -/
def sourceFaultCleared (n : Fin 15) (m : Module) : Module :=
  let m := m.enterPhase 3
  if (axisAt m n).fault && !(axisAt m n).selfClearing then axisClearFault m n else m

/-- GNSS_GAP (R87): GAP epochs of a BLENDED axis are missing. -/
def gnssGapBegins (n : Fin 15) (m : Module) : Module :=
  let x := axisAt m n
  if axisSrc m n.val = .blended ∧ x.phase = .locked ∧ !x.gnssGap then
    let m := m.enterPhase 3
    axisEvt (m.updAxis n fun x => { x with gnssGap := true, gapMt := m.mt }) n 12
  else m

/-- COAST_TIME_EXPIRY (R83). -/
def coastTimeExpiry (n : Fin 15) (m : Module) : Module :=
  let x := axisAt m n
  if x.phase = .coast then
    let m := (m.advanceTo (x.coastMt + m.cf (Reg.AXIS_AX_COAST n.val) 31 16 * 40000)).enterPhase 3
    axisDown m n .coastTime
  else m

/-- COAST_DIST_REACHED (R83). -/
def coastDistReached (n : Fin 15) (m : Module) : Module :=
  let x := axisAt m n
  let dist := ((m.cfg (Reg.AXIS_AX_COAST_DIST n.val)).toNat : Int) * qOne
  if x.phase = .coast ∧ dist ≠ 0 then
    let q := predOf m n.val x
    if (dist : Int) ≤ absN (q.atMt m.mt - x.coastP) then axisDown (m.enterPhase 3) n .coastDist
    else
      match q.timeTo (if 0 < q.vn then x.coastP + dist else x.coastP - dist) with
      | some d => axisDown ((m.advanceTo (q.mtk + d)).enterPhase 3) n .coastDist
      | none => m
  else m

/-- RANGE_EXCEEDED (R71). -/
def rangeExceeded (n : Fin 15) (m : Module) : Module :=
  let x := axisAt m n
  if axisWrap m n.val = 0 ∧ (x.phase = .locked ∨ x.phase = .coast) then
    if outOfRange 0 (axisNow m n.val) then axisDown (m.enterPhase 3) n .range
    else
      let q := predOf m n.val x
      match q.timeTo (if 0 < q.vn then 2 ^ 63 else -(2 ^ 63) - 1) with
      | some d => axisDown ((m.advanceTo (q.mtk + d)).enterPhase 3) n .range
      | none => m
  else m

/-- STILL (R80). -/
def stillEntered (n : Fin 15) (m : Module) : Module :=
  let x := axisAt m n
  let ms := m.cf (Reg.AXIS_AX_CFG n.val) 15 8
  if x.phase = .locked ∧ !x.still ∧ ms ≠ 0 then
    let m := (m.advanceTo (x.upd + ms * msTicks)).enterPhase 3
    let m := m.updAxis n fun x => { x with v := 0, a := 0, still := true, resync := .setPos }
    axisMoved (axisEvt m n 4) n
  else m

/-- The index error, wrapped into (-WRAP/2, WRAP/2] (R89). -/
def indexError (c pos : Int) (wrap : Nat) : Int :=
  let w := (wrap : Int) * qOne
  let e := (c - pos) % w
  if w < 2 * e then e - w else e

/-- INDEX (R89): a Z rising edge. -/
def indexEdge (n : Fin 15) (m : Module) : Module :=
  let k := n.val
  let src := axisSrc m k
  let mode := m.cf (Reg.AXIS_AX_INDEX_CFG k) 31 30
  let x := axisAt m n
  if !(src == .enQuad || src == .enPulse) || mode = 0 || x.phase = .down then m
  else
    let m := m.enterPhase 4
    let w := axisWrap m k
    let c := axisNow m k
    let pos := (reported w c % 2 ^ 64).toNat
    let m := ((m.wr (Reg.AXIS_AX_IDX_POS_LO k) (w32 pos)).wr (Reg.AXIS_AX_IDX_POS_HI k) (w32 (pos / 2 ^ 32)))
    let m := ((m.wr (Reg.AXIS_AX_IDX_MT_LO k) (w32 m.mt)).wr (Reg.AXIS_AX_IDX_MT_HI k) (w32 (m.mt / 2 ^ 32)))
    let m := axisEvt m n 6
    if mode < 2 ∨ w = 0 then m
    else
      let e := indexError c (((m.cfg (Reg.AXIS_AX_INDEX_POS k)).toNat : Int) * qOne) w
      if ((m.cf (Reg.AXIS_AX_INDEX_CFG k) 15 0 : Nat) : Int) * qOne < absN e then
        (axisEvt m n 7).addSat (Reg.AXIS_AX_ERRCNT k) 7 0 1
      else if mode = 3 then
        let before := turns w c
        let m := m.updAxis n fun x =>
          { (x.shift (-e)) with sum := x.sum - e, revsAdj := x.revsAdj + before - turns w (c - e) }
        axisMoved m n
      else m

/-- RESTART (R83). -/
def axisRestart (n : Fin 15) (m : Module) : Module :=
  if (axisAt m n).phase = .down ∧ axisSrc m n.val = .none then m else axisAcquire (m.enterPhase 3) n

/-- SAVE_OFFSET (R92). -/
def saveOffset (n : Fin 15) (m : Module) : Module :=
  let gen := match Arr.at' m.axes.stored n with
    | some r => r.gen + 1
    | none => 1
  { m with axes := { m.axes with stored := Arr.put m.axes.stored n (some ⟨m.serial, m.structId, gen, axisOffset m n.val⟩) } }

/-- CLEAR_COUNTS (R84). -/
def clearCounts (n : Fin 15) (m : Module) : Module := m.wr (Reg.AXIS_AX_ERRCNT n.val) 0

/-- REVS of an axis (R72). -/
def axisRevs (m : Module) (n : Fin 15) : Int := turns (axisWrap m n.val) (axisNow m n.val) + (axisAt m n).revsAdj

end Sys2Proof.Machine
end

