-- ==== Sys2Proof/Machine/Events.lean ====
section
/-! DEFINITION. Events: the acceptance checks, the immediate events, filing, the pager and commit (05, 06). -/

namespace Sys2Proof.Machine

/-! ## The fields of an event (R94) -/

/-- An event as it arrives. -/
structure RawEv where
  op : Nat
  axis : Nat
  profile : Nat
  chan : Nat
  tag : Nat
  target : Int
  arg : Nat
  deriving DecidableEq, Repr

/-- The fields of 16 bytes (R94). -/
def rawOf (bs : List Byte) : RawEv :=
  { op := byteAt bs 0, axis := bits (byteAt bs 1) 7 4, profile := bits (byteAt bs 1) 3 0, chan := leAt bs 2 2,
    tag := leAt bs 4 2, target := sx 48 (leAt bs 6 6), arg := leAt bs 12 4 }

/-- Opcodes of the immediate events (R96). -/
def opCancel : Nat := 0x40
def opReplace : Nat := 0x41
def opFence : Nat := 0x50

/-- The timed opcodes (R96). -/
def evOpOf (c : Nat) : Option EvOp :=
  if c = 0x10 then some .fire else if c = 0x11 then some .open else if c = 0x12 then some .close
  else if c = 0x20 then some .level else if c = 0x21 then some .setpt else if c = 0x30 then some .mark else none

/-- OP is defined (R96). -/
def opDefined (c : Nat) : Bool := (evOpOf c).isSome || c == opCancel || c == opReplace || c == opFence

/-- The bit of OPS that permits an opcode (R35). -/
def opBit (c : Nat) : Nat :=
  if c = 0x10 then 0 else if c = 0x11 then 1 else if c = 0x12 then 2 else if c = 0x20 then 3 else if c = 0x21 then 4
  else if c = 0x30 then 5 else if c = opCancel then 6 else if c = opReplace then 7 else 8

/-- ARG of a timed event with this OP and AXIS is valid (R97). -/
def argOk (op : EvOp) (axis arg : Nat) : Bool :=
  match op with
  | .fire => bits arg 30 0 != 0 && !(tb arg 31 && axis == 15)
  | .open | .close | .mark => arg == 0
  | .level => decide (arg < 65536)
  | .setpt => true

/-- CHANNEL is defined and accepts OP (R103). -/
def channelTakes (p : Records) (e : RawEv) : Bool :=
  let imm := e.op == opCancel || e.op == opReplace || e.op == opFence
  if channelDefined e.chan then
    if e.chan ≤ 527 then imm || e.op == 0x10 || e.op == 0x11 || e.op == 0x12 || e.op == 0x20
    else if e.chan ≤ 2079 then (imm || e.op == 0x21) && (p.loopAt (e.chan - 2048)).isSome
    else imm || e.op == 0x30
  else e.chan == 0xFFFF && ((e.op == opCancel && e.arg % 4 == 3) || e.op == opFence)

/-- The target is owned by a loop (R39, R100, R103). -/
def loopOwned (p : Records) (c : Nat) : Bool :=
  if 2048 ≤ c ∧ c ≤ 2079 then p.loops.any fun l => l.2.outKind == .setpoint && l.2.outIndex == c - 2048
  else p.loops.any fun l => l.2.outputs.contains c

/-- The RING record of ring `n`. -/
def ringRec (m : Module) (n : Nat) : Option RingRec := (m.recs.rings.find? (·.2.ring == n)).map (·.2)

/-- TARGET lies in [0, WRAP) on a wrapped axis (R73). -/
def targetOk (m : Module) (e : RawEv) : Bool :=
  let w := axisWrap m e.axis
  e.axis == 15 || w == 0 || decide (0 ≤ e.target ∧ e.target < (w : Int) * 256)

/-! ## Matching (R106, R107) -/

/-- An event of a ring in one of its three states. -/
inductive Match where
  | pending (e : EvRec)
  | committed (c : CommEv)
  deriving DecidableEq, Repr

def Match.ev : Match → EvRec
  | .pending e => e
  | .committed c => c.ev

/-- Insert by acceptance number. -/
def insMatch (x : Match) : List Match → List Match
  | [] => [x]
  | y :: ys => if x.ev.acc < y.ev.acc then x :: y :: ys else y :: insMatch x ys

/-- The events of ring `n` that are not final and satisfy `f`, in order of acceptance. -/
def matches_ (m : Module) (n : Nat) (f : EvRec → Bool) : List Match :=
  let ps := (m.hob.events.filter fun e => e.producer == n && f e).map Match.pending
  let cs := (m.hob.committed.filter fun c => c.ev.producer == n && f c.ev).map Match.committed
  (ps ++ cs).foldl (fun l x => insMatch x l) []

/-- The events a CANCEL reaches (R106). -/
def cancelReach (m : Module) (n : Nat) (e : RawEv) : List Match :=
  match e.arg % 4 with
  | 0 => (matches_ m n fun x => x.chan == e.chan && x.tag == e.tag).take 1
  | 1 => matches_ m n fun x => x.chan == e.chan && x.tag == e.tag
  | 2 => matches_ m n fun x => x.chan == e.chan
  | _ => matches_ m n fun x => x.tag == e.tag

/-- The event a REPLACE matches (R107). -/
def replaceMatch (m : Module) (n : Nat) (e : RawEv) : Option Match :=
  (matches_ m n fun x => x.chan == e.chan && x.tag == e.tag).head?

/-- The CANCEL_TOO_LATE of a committed event (R106, R107, R115). -/
def tooLate (m : Module) (c : CommEv) (reason : Nat) : Module :=
  notify m c.ev ⟨kTooLate, reason, c.ev.chan, c.ev.tag, c.ev.op.code, noteFlags m c.ev.cold c.ev.replaced c.ev.coast, c.first⟩

/-! ## The acceptance checks (R104) -/

/-- The reason of check 12 that a REPLACE fails, if it fails it. -/
def replaceFault (m : Module) (e : RawEv) (x : EvRec) : Option Nat :=
  if !argOk x.op e.axis e.arg then some rArgRange
  else if x.op = .level ∧ x.chan ≤ 127 ∧ !pwmMode m e.profile then some rMode
  else none

/-- The reason of the first check that fails for an event of ring `n` (R104); a FENCE beyond the limit of R113 last. -/
def checkFault (m : Module) (n : Nat) (e : RawEv) : Option Nat :=
  let p := m.recs
  let r : RingRec := (ringRec m n).getD ⟨n, 0, 0, 0, false, 0⟩
  let timed := evOpOf e.op
  let moves := timed.isSome || e.op == opReplace
  if !opDefined e.op then some rOpcode
  else if !tb r.ops (opBit e.op) then some rOpDenied
  else if !channelTakes p e then some rChannel
  else if e.chan ≤ 127 ∧ !p.vcUsable e.chan then some rChDisabled
  else if e.chan ≠ 0xFFFF ∧ !p.inGroups r.groups e.chan then some rChGroup
  else if moves ∧ loopOwned p e.chan then some rLoopOwned
  else if moves ∧ !tb r.axes e.axis then some rAxisDenied
  else if moves ∧ !targetOk m e then some rTargetRange
  else if (match timed with | some op => !argOk op e.axis e.arg | none => false) then some rArgRange
  else if e.op = opCancel ∧ (4 ≤ e.arg ∨ (e.chan ≠ 0xFFFF ∧ e.arg % 4 = 3)) then some rArgRange
  else if e.op = opFence ∧ e.arg ≠ 0 then some rArgRange
  else if timed = some .level ∧ e.chan ≤ 127 ∧ !pwmMode m e.profile then some rMode
  else if e.op = opCancel ∧ (cancelReach m n e).isEmpty then some rNoMatch
  else if e.op = opReplace then
    match replaceMatch m n e with
    | none => some rNoMatch
    | some x => replaceFault m e x.ev
  else none

/-- REJECTED (R114): bytes 2 to 6 as received, BATCH_SEQ and INDEX in the last eight bytes. -/
def rejectNote (m : Module) (n : Nat) (u : Unchecked) (reason : Nat) : Module :=
  let e := rawOf u.bytes
  pushNote m n ⟨kRejected, reason, e.chan, e.tag, e.op, noteFlags m false false false, u.bseq.toNat + u.index * 2 ^ 32⟩

/-- The next acceptance number is used (R104). -/
def takeAcc (m : Module) : Module := { m with hob := { m.hob with nextAcc := m.hob.nextAcc + 1 } }

/-- A CANCEL acts (R106). -/
def doCancel (m : Module) (n : Nat) (e : RawEv) : Module :=
  (cancelReach m n e).foldl (fun m x => match x with
    | .pending p => cancelNote (dropEvent m p.acc) p rRequest
    | .committed c => tooLate m c rCommittedCancel) (takeAcc m)

/-- A REPLACE acts: its match is re-filed as newly accepted, with its own acceptance number (R107, R129). -/
def doReplace (m : Module) (n : Nat) (e : RawEv) : Module :=
  let m := takeAcc m
  match replaceMatch m n e with
  | none => m
  | some (.committed c) => tooLate m c rCommittedReplace
  | some (.pending x) =>
    let x := { x with axis := e.axis, profile := e.profile, target := e.target, arg := e.arg, accMt := m.mt,
                      ref := axisNow m e.axis, passed := false, replaced := true, due := none }
    let x := { x with place := filePlace m x }
    let m := updEvent m x.acc fun _ => x
    if lateAtAcceptance m x then missEvent m x rLate
    else if axisReady m x.axis then placeAccepted m x x.place
    else m

/-- A FENCE is registered, or reported at once when it covers nothing (R113). -/
def doFence (m : Module) (n : Nat) (e : RawEv) : Module :=
  let m := takeAcc m
  let waits := (matches_ m n fun x => e.chan == 0xFFFF || x.chan == e.chan).map fun x => x.ev.acc
  let f : FenceRec := ⟨e.chan, e.tag, waits⟩
  if waits.isEmpty then fenceFired m n f
  else m.updRing n fun r => { r with fences := r.fences ++ [f] }

/-- A FENCE on a ring that has 64 outstanding (R113, R114). -/
def fenceFull (m : Module) (n : Nat) (e : RawEv) : Bool :=
  e.op == opFence && decide (64 ≤ (m.ringAt n).fences.length)

/-- The event of a timed opcode as ring `n` sends it. -/
def evRecOf (op : EvOp) (n : Nat) (e : RawEv) : EvRec :=
  { op := op, axis := e.axis, profile := e.profile, chan := e.chan, tag := e.tag, target := e.target, arg := e.arg,
    producer := n, acc := 0, accMt := 0, ref := 0, passed := false, place := .fifo, replaced := false, cold := false,
    coast := false, due := none }

/-- One event of ring `n` leaves the receive buffer, is checked, and acts, is stored or is REJECTED (R104). -/
def checkEvent (m : Module) (n : Nat) (u : Unchecked) : Module :=
  let e := rawOf u.bytes
  let immediate := e.op == opCancel || e.op == opReplace || e.op == opFence
  let m := m.enterPhase (if immediate then 2 else 6)
  let m := m.updRing n fun r => { r with unchecked := r.unchecked.drop 1 }
  let recent := m.mt :: m.ingest.checked.filter fun t => m.mt < t + 40000
  let m := { m with ingest := { m.ingest with checked := recent, peak := max m.ingest.peak recent.length } }
  match checkFault m n e with
  | some r => fillNote (rejectNote m n u r)
  | none =>
    if fenceFull m n e then fillNote (rejectNote m n u rFenceLimit)
    else match evOpOf e.op with
      | some op => acceptTimed m (evRecOf op n e)
      | none =>
        fillNote (if e.op = opCancel then doCancel m n e
          else if e.op = opReplace then doReplace m n e
          else doFence m n e)

/-! ## Selection of the ring to be checked (R152), and the pauses (R157, R160) -/

def noteSlots : Nat := 3407872

/-- Notifications held for all rings. -/
def notesHeld (m : Module) : Nat := ((List.range 64).map fun n => (m.ringAt n).notes.length).sum

/-- Room for one more check (R157). -/
def noteRoom (m : Module) : Bool :=
  let use := ((List.range 64).map (useOf m)).sum
  let comm := (m.hob.committed.filter fun c => decide (c.ev.producer < 64)).length
  decide (use + comm + 2049 ≤ noteSlots - notesHeld m)

/-- Bring NOTE_PAUSE up to date (R157). -/
def pauseNote (m : Module) : Module :=
  let p := !noteRoom m
  let on := p && !m.ingest.notePause
  let m := { m with ingest := { m.ingest with notePause := p } }
  if on then m.raise Reg.INGEST_INT_STATUS 6 else m

/-- The ring whose next event is checked: the highest class, in rotation within it (R152). -/
def nextRing (m : Module) : Option (Fin 64) :=
  let from_ := m.ingest.lastServed.val + 1
  let order := (List.range 64).map fun i => (from_ + i) % 64
  let waiting := order.filter fun n => !(m.ringAt n).unchecked.isEmpty
  let cls (n : Nat) : Nat := m.cf (Reg.INGEST_RING_CFG n) 2 0
  (waiting.foldl (fun (b : Option Nat) n => match b with
    | none => some n
    | some k => if cls k < cls n then some n else b) none).bind (fin? 64)

/-- Check the waiting events up to and including the first with opcode `code`, past heads whose opcode is reserved;
nothing more happens when the event whose turn it is has another opcode, or while checking waits (R104, R157, R160). -/
def checkNext (code : Nat) : Nat → Module → Module
  | 0, m => m
  | fuel + 1, m =>
    let m := pauseNote m
    match nextRing m with
    | none => m
    | some n =>
      match (m.ringAt n.val).unchecked with
      | [] => m
      | u :: _ =>
        let op := byteAt u.bytes 0
        if m.ingest.notePause || decide (fifoSlots ≤ fifoFill m) then m
        else if op = code then
          pauseNote (checkEvent { m with ingest := { m.ingest with lastServed := n } } n.val u)
        else if opDefined op then m
        else checkNext code fuel (checkEvent { m with ingest := { m.ingest with lastServed := n } } n.val u)

/-- The check of the next event, when it has opcode `code`. -/
def checkFor (code : Nat) (m : Module) : Module :=
  checkNext code (((List.range 64).map fun n => (m.ringAt n).unchecked.length).sum + 1) m

/-! ## Filing and the pager (R125, R127, R128, R130, R160) -/

/-- EVENT_FILING (R160): the oldest event of the FIFO goes into the Hob when case 4 of R128 applies, else to its page or
the far chain. -/
def eventFiling (m : Module) : Module :=
  let m := m.enterPhase 6
  match m.hob.events.find? (·.place == .fifo) with
  | none => m
  | some e =>
    let p := filePlace m e
    let m := updEvent m e.acc fun e => { e with place := p }
    let e := { e with place := p }
    if axisReady m e.axis ∧ verdictOf m e = .queue then intoHob m e else m

/-- The previous visit's coordinate of an axis; MT on AXT (R127). -/
def visitOf (m : Module) (n : Nat) : Int :=
  match fin? 15 n with
  | some i => (Arr.at' m.axes.ax i).visitP
  | none => (m.axes.axtVisit : Int) * qOne

/-- Keep the coordinate of this visit. -/
def setVisit (m : Module) (n : Nat) : Module :=
  match fin? 15 n with
  | some i => let c := axisNow m n; m.updAxis i fun x => { x with visitP := c }
  | none => { m with axes := { m.axes with axtVisit := m.mt } }

/-- The coordinate predicted at the end of the pager's window (R127). -/
def visitEnd (m : Module) (n : Nat) : Int :=
  let t := m.mt + horizonOf m n + leadMax m
  match fin? 15 n with
  | some i => (predOf m n (Arr.at' m.axes.ax i)).atMt t
  | none => (t : Int) * qOne

/-- The commit of an event whose instant is this tick (R128 case 4, R134). -/
def commitIfNow (m : Module) (acc : Nat) : Module :=
  match m.hob.events.find? (·.acc == acc) with
  | none => m
  | some e =>
    match edgeOf m e with
    | some t => if e.place = .hob ∧ t - (commitPoint m e.chan : Int) = (m.mt : Int) ∧ m.time.commits < 2 then commitEvent m e else m
    | none => m

/-- One record as the pager reads it (R128). -/
def readRecord (m : Module) (acc : Nat) : Module :=
  match m.hob.events.find? (·.acc == acc) with
  | none => m
  | some e =>
    if e.place ≠ .wheel then m
    else if e.passed then missEvent m e rLate
    else match verdictOf m e with
      | .stay => m
      | .late => missEvent m e rLate
      | .queue => commitIfNow (intoHob m e) acc

/-- Demotion of queued events whose edge has become NONE or lies beyond twice the horizon (R130). -/
def demote (m : Module) (n : Nat) : Module :=
  let far (e : EvRec) : Bool := match edgeOf m e with
    | none => true
    | some t => decide (t > (m.mt + 2 * horizonOf m n : Nat))
  m.setEvents (m.hob.events.map fun e =>
    if e.axis = n ∧ e.place = .hob ∧ far e then { e with place := filePlace m e } else e)

/-- PAGER_VISIT (R127): the pages between the coordinate of the last visit and the end of the window are read. -/
def pagerVisit (axis : Fin 16) (m : Module) : Module :=
  let n := axis.val
  if !axisReady m n then m
  else
    let m := notePassed (m.enterPhase 6) n
    let b0 := bucketAt m n (visitOf m n)
    let b1 := bucketAt m n (visitEnd m n)
    let within (e : EvRec) : Bool := bucketWithin m n (min b0 b1) (max b0 b1) (bucketOf m e)
    let page := (m.hob.events.filter fun e => e.axis == n && e.place == .wheel && within e).map (·.acc)
    let m := page.foldl readRecord m
    setVisit (noteDue (demote m n)) n

/-- FAR_CHAIN_SWEEP (R125): once b_now has moved 128 buckets since the last sweep, records of the far chain whose bucket
has entered the span move to their pages. -/
def farChainSweep (axis : Fin 16) (m : Module) : Module :=
  let n := axis.val
  let now := bucketAt m n (axisNow m n)
  let last := match fin? 15 n with
    | some i => (Arr.at' m.axes.ax i).sweepBucket
    | none => m.axes.axtSweep
  if absN (now - last) < 128 then m
  else
    let m := m.enterPhase 6
    let m := match fin? 15 n with
      | some i => m.updAxis i fun x => { x with sweepBucket := now }
      | none => { m with axes := { m.axes with axtSweep := now } }
    m.setEvents (m.hob.events.map fun e =>
      if e.axis = n ∧ e.place = .far ∧ inSpan m n (bucketOf m e) then { e with place := .wheel } else e)

/-- The commit of the next event whose instant comes (R132, R134). -/
def commitNext (m : Module) : Module :=
  match nextCommitMt m with
  | none => m
  | some t =>
    let m := (m.advanceTo t).enterPhase 5
    let m := if 2 ≤ m.time.commits then m.tick.enterPhase 5 else m
    match nextCommit m with
    | none => m
    | some e => commitEvent m e

end Sys2Proof.Machine
end

