-- ==== Sys2Proof/Machine/Drive.lean ====
section
/-! DEFINITION. The valve drive array: claims and phases, boost sharing, the Damper, nozzle PWM, faults, reset policies
and the limp-home drive of valves (09). -/

namespace Sys2Proof.Machine

/-! ## Access -/

/-- Valve channel `k`. -/
def vc (m : Module) (k : Nat) : VcSt := Arr.getD m.vdrv.ch k VcSt.reset

/-- Change valve channel `k`. -/
def Module.updVc (m : Module) (k : Nat) (f : VcSt → VcSt) : Module :=
  { m with vdrv := { m.vdrv with ch := Arr.updD m.vdrv.ch k f } }

/-- Bank `b`. -/
def bankSt (m : Module) (b : Nat) : BankSt := Arr.getD m.vdrv.bank b ⟨.off, none⟩

/-- Change bank `b`. -/
def Module.updBank (m : Module) (b : Nat) (f : BankSt → BankSt) : Module :=
  { m with vdrv := { m.vdrv with bank := Arr.updD m.vdrv.bank b f } }

/-- Half `i`. -/
def half (m : Module) (i : Nat) : HalfSt :=
  Arr.getD m.vdrv.half i ⟨0, false, false, 0, false, 100, 0, false, false, false, false, 0, false⟩

/-- Change half `i`. -/
def Module.updHalf (m : Module) (i : Nat) (f : HalfSt → HalfSt) : Module :=
  { m with vdrv := { m.vdrv with half := Arr.updD m.vdrv.half i f } }

/-- Change the learning state of channel `k`. -/
def Module.updLearn (m : Module) (k : Nat) (f : LearnCh → LearnCh) : Module :=
  { m with learn := { m.learn with ch := Arr.updD m.learn.ch k f } }

/-- The bank and the half of a channel (R180). -/
def bankOf' (k : Nat) : Nat := k / 8
def halfOf (k : Nat) : Nat := k / 64

/-- The channels of half `i` that the structure lets drive. -/
def halfChannels (m : Module) (i : Nat) : List Nat :=
  ((List.range 64).map (64 * i + ·)).filter m.recs.vcUsable

/-- The channels of bank `b` that the structure lets drive. -/
def bankChannels (m : Module) (b : Nat) : List Nat := ((List.range 8).map (8 * b + ·)).filter m.recs.vcUsable

/-- The values of profile set `p` in force (R182). -/
def profOf (m : Module) (p : Nat) : Prof :=
  { boostT := m.cf (Reg.VDRV_PF_TIME p) 9 0, peakT := m.cf (Reg.VDRV_PF_TIME p) 31 16,
    peakI := m.cf (Reg.VDRV_PF_CURRENT p) 27 16, holdI := m.cf (Reg.VDRV_PF_CURRENT p) 10 0,
    waitMax := m.cf (Reg.VDRV_PF_CHOP p) 31 16, chopF := m.cf (Reg.VDRV_PF_CHOP p) 5 0,
    slowPth := m.cb (Reg.VDRV_PF_MODE p) 3, busyReject := m.cb (Reg.VDRV_PF_MODE p) 2,
    reopenFull := m.cb (Reg.VDRV_PF_MODE p) 1, pwm := m.cb (Reg.VDRV_PF_MODE p) 0,
    pwmFreq := m.cf (Reg.VDRV_PF_PWM p) 25 16, offMin := m.cf (Reg.VDRV_PF_PWM p) 7 0,
    dutyMax := m.cf (Reg.VDRV_PF_DUTY p) 31 24, holdFloor := m.cf (Reg.VDRV_PF_DUTY p) 23 16,
    dutyBurst := m.cf (Reg.VDRV_PF_DUTY p) 15 0 }

/-- A bank may use Bellows: its BANK record has BOOST (R188). -/
def bankBoosts (m : Module) (b : Nat) : Bool :=
  match m.recs.bank b with
  | some r => r.boost
  | none => false

/-- VSET and VMIN_BOOST of half `i`, mV (R196). -/
def vset (m : Module) (i : Nat) : Nat := m.cf (Reg.VDRV_BW_CFG i) 9 0 * 100
def vminBoost (m : Module) (i : Nat) : Nat := vset m i - m.cf (Reg.VDRV_BW_CFG i) 23 16 * 500

/-- A supply warning is in force for input `i` (R198). -/
def supplyWarn (m : Module) (i : Nat) : Bool := m.pwr.vbatWarn || (half m i).vsolWarn

/-- Phases in which a channel drives (R197, VDRV_STATUS.ON). -/
def VPhase.drives : VPhase → Bool
  | .boost | .peak | .hold | .held | .limp => true
  | _ => false

/-! ## The duty accumulator (R197) -/

/-- The accumulator at the present tick, in units of 1/40,000 µs. -/
def dutyNow (m : Module) (x : VcSt) : Nat :=
  let n := m.mt - x.dutyMt
  if x.phase.drives then x.dutyAcc + n * (100 - x.lat.dutyMax) else x.dutyAcc - n * x.lat.dutyMax

/-- The cap C in the same unit. -/
def dutyCap (x : VcSt) : Nat := x.lat.dutyBurst * 1000 * (100 - x.lat.dutyMax) * 400

/-- Bring the accumulator to the present tick; every change of phase or of the latched profile does so first. -/
def settle (m : Module) (k : Nat) : Module :=
  let a := dutyNow m (vc m k)
  m.updVc k fun x => { x with dutyAcc := a, dutyMt := m.mt }

/-- Change the phase of a channel. -/
def setPhase (m : Module) (k : Nat) (ph : VPhase) : Module := (settle m k).updVc k fun x => { x with phase := ph }

/-! ## The Damper (R195, R196) -/

/-- Twice the value counts for a pair. -/
def pairMul (m : Module) (k : Nat) : Nat := if m.recs.paired k then 2 else 1

/-- The hold target of a channel under factor `f`, in 1/100 mA. -/
def holdTarget (x : VcSt) (f : Nat) : Nat := x.lat.holdI * max f x.lat.holdFloor

/-- The load of one channel in 1/100 mA. -/
def chLoad (m : Module) (k f : Nat) : Nat :=
  let x := vc m k
  match x.phase with
  | .boost | .peak => x.peakMa * 100
  | .hold | .held => holdTarget x f * pairMul m k
  | .limp => if x.limpDrive then holdTarget x f * pairMul m k else 0
  | _ => 0

/-- L_i under factor `f`, in 1/100 mA (R195). -/
def loadOf (m : Module) (i f : Nat) : Nat :=
  ((halfChannels m i).map fun k => chLoad m k f).sum + (half m i).inputMa * 100

/-- B_i in 1/100 mA: the reduced budget while it is in force (R195, R199). -/
def budgetOf (m : Module) (i : Nat) : Nat :=
  let b := m.cf (Reg.VDRV_SUP_CFG i) 8 0
  if (half m i).reduced then b * 100 * m.cf (Reg.VDRV_SUP_CFG i) 23 16 else b * 10000

/-- The lowest HOLD_FLOOR among the holding channels of half `i`, if any holds. -/
def lowestFloor (m : Module) (i : Nat) : Option Nat :=
  (((halfChannels m i).map (vc m)).filter fun x => x.phase == .hold || x.phase == .held || (x.phase == .limp && x.limpDrive)).map
    (·.lat.holdFloor) |>.min?

/-- Lower the factor by 1 % at a time until `need` fits or no channel can go lower. -/
def lowerTo (m : Module) (i need floor : Nat) : Nat → Nat → Nat
  | 0, f => f
  | fuel + 1, f => if loadOf m i f + need ≤ budgetOf m i ∨ f ≤ floor then f else lowerTo m i need floor fuel (f - 1)

/-- What the Damper answers: the current admitted in mA, whether the peak is limited, and the factor (R196). -/
def takeOn (m : Module) (k : Nat) (p : Prof) : Option (Nat × Bool) × Nat :=
  let i := halfOf k
  let f0 := (half m i).factor
  let need := p.peakI * pairMul m k * 100
  if loadOf m i f0 + need ≤ budgetOf m i then (some (p.peakI * pairMul m k, false), f0)
  else
    let f := match lowestFloor m i with
      | some floor => lowerTo m i need floor 100 f0
      | none => f0
    if loadOf m i f + need ≤ budgetOf m i then (some (p.peakI * pairMul m k, false), f)
    else
      let room := budgetOf m i - loadOf m i f
      if p.holdI * pairMul m k * 100 ≤ room then (some (room / 100, true), f) else (none, f)

/-- Keep the factor the Damper arrived at. -/
def keepFactor (m : Module) (i f : Nat) : Module :=
  let old := (half m i).factor
  let m := m.updHalf i fun h => { h with factor := f }
  if old = 100 ∧ f < 100 then m.raise Reg.VDRV_INT_STATUS 3 else m

/-! ## The phase grid (R191) -/

/-- The phase of channel `k` in 1/256 of a period. -/
def pwmPhase (m : Module) (k : Nat) : Nat :=
  if m.cb (Reg.VDRV_CH_CFG k) 8 then m.cf (Reg.VDRV_CH_CFG k) 7 0 else 2 * ((k % 8) * 16 + k / 8)

/-- Grid instant `j` of a channel with frequency `f` (0.1 Hz) and phase `c` (1/256): rounded to the nearest tick. -/
def gridAt (f c j : Nat) : Nat := (2 * 4000000000 * (256 * j + c) + 256 * f) / (2 * 256 * f)

/-- The first grid instant whose exact value is at or after `num / (256 f)` ticks. -/
def gridFrom (f c num : Nat) : Nat := gridAt f c (cdiv (num - 4000000000 * c) 1024000000000)

/-- The first grid instant after the present tick. -/
def nextGrid (m : Module) (k : Nat) (p : Prof) : Nat :=
  if p.pwmFreq = 0 then m.mt else gridFrom p.pwmFreq (pwmPhase m k) (256 * p.pwmFreq * m.mt + 128 * p.pwmFreq)

/-! ## Events of a channel that end MISSED (R189, R201) -/

/-- Drop the edges of an event from its commit queue. -/
def dropEdges (m : Module) (chan acc : Nat) : Module :=
  match targetIx chan with
  | some t => { m with hob := { m.hob with queues := Arr.upd m.hob.queues t fun q => q.filter (·.acc != acc) } }
  | none => m

/-- A committed event that is not final ends MISSED; its later edges are dropped. -/
def missCommitted (m : Module) (acc reason : Nat) : Module :=
  match m.hob.committed.find? (·.ev.acc == acc) with
  | none => m
  | some c =>
    let m := dropEdges m c.ev.chan acc
    let m := { m with hob := { m.hob with committed := m.hob.committed.filter (·.ev.acc != acc) } }
    missNote m c.ev reason

/-- Nozzle PWM goes on from the next grid instant when the channel has a LEVEL duty (R186, R191). -/
def resumePwm (m : Module) (k : Nat) : Module :=
  let x := vc m k
  if x.level = 0 then m
  else m.updVc k fun x => { x with pwmRun := true, pulse := false, nextPulse := nextGrid m k (profOf m x.levelProf) }

/-- The claim set of a channel ends: each event in it that is not yet final is MISSED. -/
def missClaims (m : Module) (k reason : Nat) : Module :=
  let cs := (vc m k).claims
  let m := m.updVc k fun x => { x with claims := [], heldOffs := [] }
  let m := if cs.isEmpty then m else resumePwm m k
  cs.foldl (fun m c => missCommitted m c.1 reason) m

/-! ## Leaving drive (R187, R192) -/

/-- The decay path that begins now is the clamp (R192). -/
def clampPath (m : Module) (k : Nat) : Bool :=
  (bankSt m (bankOf' k)).rail == .bellows || (half m (halfOf k)).full || (half m (halfOf k)).ov

/-- The clamp conducts in this actuation. -/
def useClamp (m : Module) (k : Nat) : Module :=
  (m.updVc k fun x => { x with clamped := true, onClamp := true }).raise Reg.VDRV_INT_STATUS 5

/-- A decay begins on its path. -/
def beginDecay (m : Module) (k : Nat) : Module :=
  if clampPath m k then useClamp m k else m.updVc k fun x => { x with onClamp := false }

/-- The bank goes back to VSOL when channel `k` was its boost owner (R184 step 2). -/
def releaseBank (m : Module) (k : Nat) : Module :=
  let b := bankOf' k
  if (bankSt m b).owner = fin? 128 k then m.updBank b fun _ => ⟨.vsol, none⟩ else m

/-- A registers view of the learning settings in force, kept for a measurement in progress (08). -/
def learnAct (m : Module) : Sparse Word := m.regs.act.filter fun e => unitOf e.1 == some .learn

/-- A closing measurement begins at a switch-off edge (R178), with what the actuation was. -/
def closeEdge (m : Module) (k : Nat) (fault : Bool) : Module :=
  let x := vc m k
  m.updLearn k fun l => { l with closeMeas := some m.mt, closeCfg := learnAct m, closeProf := x.prof,
                                 closeFault := x.faulted || fault, closePwm := x.internalOff }

/-- A switch-off from a driving phase: DECAY (R184 step 5, R187). -/
def switchOff (m : Module) (k : Nat) : Module :=
  let x := vc m k
  if x.phase = .wait then (releaseBank (setPhase m k .idle) k).updVc k fun x => { x with startWait := .none }
  else if x.phase.drives then
    let m := releaseBank (setPhase m k .decay) k
    let m := m.updVc k fun x => { x with lastOff := some m.mt, startWait := .none, heldOffs := [], limpDrive := false }
    beginDecay (closeEdge m k false) k
  else m.updVc k fun x => { x with startWait := .none }

/-! ## What a channel is to do (R186, R191) -/

/-- What the claim set and the duty ask for. -/
inductive Want where
  | on | off | pwm (d : Nat)
  deriving DecidableEq, Repr

def wantOf (x : VcSt) : Want := if x.claims.isEmpty then (if x.level = 0 then .off else .pwm x.level) else .on

/-- The claim set has emptied: the channel goes off, and follows its LEVEL duty from the next grid instant (R186, R191). -/
def afterClaims (m : Module) (k : Nat) : Module := resumePwm (switchOff m k) k

/-! ## Starting (R184, R187 to R189, R415) -/

/-- BOOST_SKIPPED of the claim set's events (R116). -/
def markSkipped (m : Module) (k : Nat) : Module :=
  let cs := (vc m k).claims
  let mark := fun (c : CommEv) => { c with skipped := c.skipped || cs.any fun x => x.1 == c.ev.acc }
  { m with hob := { m.hob with committed := m.hob.committed.map mark } }

/-- Count a skip of a bank (VDRV_BANK WAITS.SKIPS). -/
def countSkip (m : Module) (k : Nat) : Module := m.addSat (Reg.VDRV_BANK_WAITS (bankOf' k)) 31 16 1

/-- A boost that was due is skipped (R189, R199). -/
def skipBoost (m : Module) (k : Nat) : Module :=
  let m := m.updVc k fun x => { x with skipped := true }
  (markSkipped ((countSkip m k).count Reg.VDRV_PUB_SKIPPED) k).raise Reg.VDRV_INT_STATUS 1

/-- A switch-on is refused by the Damper: the claim set ends MISSED; a PWM pulse is skipped and counted (R196, R201). -/
def refuseStart (m : Module) (k : Nat) : Module :=
  let pulse := (vc m k).claims.isEmpty
  let m := (m.raise (Reg.VDRV_CH_FAULT k) 8).raise Reg.VDRV_INT_STATUS 3
  let m := (setPhase m k (if (vc m k).phase == .decay then .decay else .idle)).updVc k fun x =>
    { x with startWait := .none, pulse := false }
  if pulse then countSkip m k else missClaims m k rOutputFault

/-- The end of PEAK in HOLD: the FAST transition takes its decay path (R184 step 4, R192). -/
def enterHold (m : Module) (k : Nat) : Module :=
  let m := setPhase m k .hold
  if (vc m k).lat.slowPth then m else beginDecay m k

/-- Remove the claims whose switch-off was held until now (R99). -/
def releaseHeld (m : Module) (k : Nat) : Module :=
  m.updVc k fun x => { x with claims := x.claims.filter (fun c => !x.heldOffs.contains c.1), heldOffs := [] }

/-- The low side turns on for an actuation: its opening measurement, if still in progress, counts from here (R164). -/
def markStart (m : Module) (k : Nat) : Module :=
  let m := m.updVc k fun x => { x with driveStart := m.mt }
  m.updLearn k fun l => { l with openMeas := l.openMeas.map fun _ => m.mt }

/-- An opening measurement begins at a switch-on edge (R178); the signature of the last closing may be outstanding
(R166 REOPEN). -/
def openEdge (m : Module) (k : Nat) : Module :=
  let m := m.updVc k fun x => { x with reopened := (learnCh m k).closeMeas.isSome }
  m.updLearn k fun l => { l with openMeas := some m.mt, openCfg := learnAct m }

/-- Enter PEAK, which ends at `until_` (R184 step 3); a peak that would be empty is left at once. -/
def enterPeak (m : Module) (k until_ : Nat) : Module :=
  let m := (setPhase m k .peak).updVc k fun x => { x with peakEnd := until_, startWait := .none }
  let x := vc m k
  if until_ ≤ m.mt then
    let m := releaseHeld (enterHold m k) k
    if !x.claims.isEmpty ∧ (vc m k).claims.isEmpty then afterClaims m k else m
  else m

/-- Admission by the Damper into a phase that `enter` takes (R196). -/
def withAdmission (m : Module) (k : Nat) (enter : Module → Module) : Module :=
  let (a, f) := takeOn m k (vc m k).lat
  let m := keepFactor m (halfOf k) f
  match a with
  | none => refuseStart m k
  | some (ma, lim) =>
    let m := m.updVc k fun x => { x with peakMa := ma, peakLimited := lim }
    enter (if lim then m.raise Reg.VDRV_INT_STATUS 3 else m)

/-- Enter PEAK without a boost that was due: the time of the boost is given to PEAK (R184 step 3). -/
def peakSkipped (m : Module) (k : Nat) : Module :=
  withAdmission (skipBoost m k) k fun m =>
    let x := vc m k
    let m := markStart m k
    enterPeak m k (m.mt + x.lat.boostT * 200 + usT x.lat.peakT)

/-- Start a boost: the bank goes over to Bellows, and decays under way in it move to the clamp (R189, R192). -/
def startBoost (m : Module) (k : Nat) : Module :=
  withAdmission m k fun m =>
    let b := bankOf' k
    let m := (markStart m k).updBank b fun _ => ⟨.bellows, fin? 128 k⟩
    let m := (setPhase m k .boost).updVc k fun x => { x with boostStart := m.mt, startWait := .none, reached := false }
    (bankChannels m b).foldl (fun m j => if (vc m j).phase == .decay && !(vc m j).onClamp then useClamp m j else m) m

/-- The profile that an actuation starting now latches (R415). -/
def latchProfile (m : Module) (k : Nat) : Nat :=
  let x := vc m k
  match x.claims with
  | [] => x.levelProf
  | c :: cs => (cs.foldl (fun (b : Nat × Nat) c => if b.1 < c.1 then c else b) c).2

/-- The drive of an actuation from IDLE begins: steps 1 of R184, R188, R189 and R199. -/
def beginDrive (m : Module) (k : Nat) : Module :=
  let p := latchProfile m k
  let m := settle m k
  let pulseOn := (vc m k).claims.isEmpty
  let m := m.updVc k fun x =>
    { x with prof := p, lat := profOf m p, startWait := .none, skipped := false, waited := false,
             faulted := false, clamped := false, onClamp := false, reached := false,
             peakLimited := false, peakMa := 0, internalOff := false, internalOn := pulseOn && x.internalOn,
             dutyMt := m.mt }
  let m := (m.count Reg.VDRV_PUB_ACTUATIONS).count (Reg.VDRV_CH_COUNT k)
  let m := markStart m k
  let x := vc m k
  let due := decide (0 < x.lat.boostT) && bankBoosts m (bankOf' k)
  if due then
    if supplyWarn m (halfOf k) then peakSkipped m k
    else if (bankSt m (bankOf' k)).owner.isSome ∨ (half m (halfOf k)).rail < vminBoost m (halfOf k) then
      (setPhase m k .wait).updVc k (fun x => { x with waitSince := m.mt, waited := true })
        |>.addSat (Reg.VDRV_BANK_WAITS (bankOf' k)) 15 0 1
    else startBoost m k
  else withAdmission m k fun m => enterPeak m k (m.mt + usT (vc m k).lat.peakT)

/-- The channel cannot be driven: a fault, a duty cut, an undervoltage or limp-home stands in the way (R201). -/
def blocked (m : Module) (k : Nat) : Bool :=
  let x := vc m k
  x.phase == .fault || x.phase == .limp || x.phase == .held || x.dutyCut || (half m (halfOf k)).uv

/-- PEAK without boost out of DECAY (R187, REOPEN = PEAK). -/
def reopenPeak (m : Module) (k : Nat) : Module :=
  let m := m.updVc k fun x => { x with reopened := true, startWait := .none, faulted := false,
                                       clamped := false, reached := false, internalOn := false, internalOff := false }
  let m := markStart m k
  withAdmission m k fun m => enterPeak m k (m.mt + usT (vc m k).lat.peakT)

/-- A switch-on is wanted (R184, R187). -/
def switchOn (m : Module) (k : Nat) : Module :=
  let x := vc m k
  let gapEnd := match x.lastOff with
    | some t => t + 20000
    | none => 0
  match x.phase with
  | .idle =>
    let m := if x.startWait = .none then openEdge (m.updVc k fun x => { x with onEdge := m.mt }) k else m
    if x.startWait ≠ .none then m
    else if m.mt < gapEnd then m.updVc k fun x => { x with startWait := .gap gapEnd }
    else beginDrive m k
  | .decay =>
    let m := if x.startWait = .none then openEdge m k else m
    if x.startWait ≠ .none then m
    else if x.lat.reopenFull then m.updVc k fun x => { x with startWait := .decayFull, onEdge := m.mt, reopened := true }
    else if gapEnd ≤ m.mt then reopenPeak (m.updVc k fun x => { x with onEdge := m.mt }) k
    else m.updVc k fun x => { x with startWait := .reopen gapEnd, onEdge := m.mt }
  | _ => m

/-! ## Nozzle PWM (R191) -/

/-- The end of a pulse started at `t` with duty `d`; `none` holds continuously (R191). -/
def pulseEndOf (p : Prof) (t d : Nat) : Option Nat :=
  let f := p.pwmFreq
  -- the off-time 4e9 (65535 - d) / (65535 f) against OFF_MIN in 40,000 ticks
  if 4000000000 * (65535 - d) < p.offMin * 40000 * 65535 * f then none
  else
    let on := (2 * 4000000000 * d + 65535 * f) / (2 * 65535 * f)
    some (t + max on (p.boostT * 200 + usT p.peakT))

/-- A pulse begins at the present tick. -/
def startPulse (m : Module) (k : Nat) (first : Bool) : Module :=
  let p := profOf m (vc m k).levelProf
  let m := m.updVc k fun x =>
    { x with pulse := true, pulseStart := m.mt, pulseEnd := (pulseEndOf p m.mt x.level).getD 0, internalOn := !first }
  switchOn m k

/-- The LEVEL duty has been raised from 0 (R191): the first pulse starts at the edge, the later ones on the grid. -/
def startPwm (m : Module) (k : Nat) : Module :=
  let x := vc m k
  let p := profOf m x.levelProf
  if !p.pwm then m.updVc k fun x => { x with level := 0, pwmRun := false }
  else
    let nxt := if p.pwmFreq = 0 then m.mt
      else gridFrom p.pwmFreq (pwmPhase m k) (256 * p.pwmFreq * m.mt + 512000000000)
    let m := m.updVc k fun x => { x with pwmRun := true, pwmEdge := m.mt, nextPulse := nxt }
    if blocked m k then countSkip m k else startPulse m k true

/-! ## The phase logic (R187) -/

/-- The phase logic acts once on what the edges of a tick have left; `old` is what the channel did before them. -/
def vcReact (m : Module) (k : Nat) (old : Want) : Module :=
  let x := vc m k
  match wantOf x with
  | .on =>
    let m := m.updVc k fun x => { x with pwmRun := false, pulse := false }
    if blocked m k then m else switchOn m k
  | .off =>
    let m := m.updVc k fun x => { x with pwmRun := false, pulse := false }
    if x.phase = .held ∨ x.phase = .limp then m else switchOff m k
  | .pwm d =>
    match old with
    | .off => startPwm m k
    | .on => afterClaims m k
    | .pwm d0 =>
      if d0 = d then m
      else if !x.pulse then
        let p := profOf m x.levelProf
        if !x.pwmRun || !p.pwm || (pulseEndOf p m.mt d).isSome then m
        else if blocked m k then countSkip m k else startPulse m k false
      else
        match pulseEndOf x.lat x.pulseStart d with
        | none => m.updVc k fun x => { x with pulseEnd := 0 }
        | some e =>
          let m := m.updVc k fun x => { x with pulseEnd := e }
          if e ≤ m.mt then
            let m := switchOff (m.updVc k fun x => { x with pulse := false, internalOff := true }) k
            m.updVc k fun x => { x with nextPulse := nextGrid m k x.lat }
          else m

/-- A duty set by a loop acts as a LEVEL edge (R240). -/
def vcSetLevel (m : Module) (k d p : Nat) : Module :=
  let old := wantOf (vc m k)
  let m := m.updVc k fun x => { x with level := d, levelProf := p }
  if wantOf (vc m k) = old then m else vcReact m k old

/-! ## Faults (R200, R201) -/

/-- A channel is latched in FAULT with fault bit `bit`. -/
def vcLatch (m : Module) (k bit : Nat) : Module :=
  let m := m.raise (Reg.VDRV_CH_FAULT k) bit
  let x := vc m k
  let m := if x.phase.drives then closeEdge m k true else m
  let m := releaseBank (setPhase m k .fault) k
  let m := m.updVc k fun x =>
    { x with faulted := true, lastOff := if x.phase.drives then some m.mt else x.lastOff, startWait := .none,
             pulse := false, limpDrive := false }
  let m := m.raise Reg.VDRV_INT_STATUS 0
  let m := missClaims m k rOutputFault
  ashLatch m k (m.rf (Reg.VDRV_CH_FAULT k) 15 0)

/-- A fault that does not latch switches a channel off: its claim set ends MISSED; a cut PWM pulse is counted. -/
def vcStop (m : Module) (k : Nat) : Module :=
  let x := vc m k
  let m := if x.pulse && x.claims.isEmpty then countSkip m k else m
  let m := m.updVc k fun x => { x with faulted := x.faulted || x.phase.drives, pulse := false }
  let m := missClaims m k rOutputFault
  switchOff m k

/-- The converter of a half stops. -/
def bwStop (m : Module) (i : Nat) : Module := m.updHalf i fun h => { h with run := false, inputMa := 0 }

/-- The home channel of a command about channel `k`. -/
def homeVc (m : Module) (k : Fin 128) : Nat := vcHome m k.val

/-! ## The commands of a channel's phases -/

/-- BOOST_END (R184 step 2): the current reaches PEAK_I now, or BOOST_T passes. `mj` is the energy the boost drew and
`rail` the rail's voltage after it. -/
def boostEnd (k : Fin 128) (reached : Bool) (mj rail : Nat) (m : Module) : Module :=
  let k := homeVc m k
  let x := vc m k
  if x.phase ≠ .boost then m
  else
    let m := if reached then m else m.advanceTo (x.boostStart + x.lat.boostT * 200)
    let m := m.enterPhase 7
    let i := halfOf k
    let m := m.wr (Reg.VDRV_PUB_BOOST i) (m.rd (Reg.VDRV_PUB_BOOST i) + w32 mj)
    let m := m.updHalf i fun h => { h with rail := rail }
    let m := releaseBank (m.updVc k fun x => { x with reached := reached }) k
    let x := vc m k
    enterPeak m k (if x.lat.peakT = 0 then m.mt else x.boostStart + x.lat.boostT * 200 + usT x.lat.peakT)

/-- PEAK_END (R184 steps 3 and 4): PEAK_I was reached by then or not (R200 SLOW_RISE); switch-offs held by R99 act. -/
def peakEnd (k : Fin 128) (reached : Bool) (m : Module) : Module :=
  let k := homeVc m k
  let x := vc m k
  if x.phase ≠ .peak then m
  else
    let m := (m.advanceTo x.peakEnd).enterPhase 7
    let ok := x.reached || reached
    let warn := supplyWarn m (halfOf k)
    let runs := if ok then 0 else if warn then x.slowRuns else x.slowRuns + 1
    let onset := decide (4 ≤ runs) && !x.slowRise
    let m := m.updVc k fun x => { x with reached := ok, slowRuns := runs, slowRise := decide (4 ≤ runs) || (x.slowRise && !ok) }
    let m := if onset then m.raise (Reg.VDRV_CH_FAULT k) 6 else m
    let m := enterHold m k
    let old := wantOf (vc m k)
    let m := releaseHeld m k
    if wantOf (vc m k) = old then m else vcReact m k old

/-- DECAY_END (R184 step 5): the channel is IDLE; a switch-on that waited for it starts (R187). The energies are those
returned into the rail and put into the clamp. -/
def decayEnd (k : Fin 128) (retMj clampMj : Nat) (m : Module) : Module :=
  let k := homeVc m k
  let x := vc m k
  if x.phase ≠ .decay then m
  else
    let m := m.enterPhase 7
    let i := halfOf k
    let m := m.wr (Reg.VDRV_PUB_RETURN i) (m.rd (Reg.VDRV_PUB_RETURN i) + w32 retMj)
    let m := if x.clamped then m.wr (Reg.VDRV_PUB_CLAMP i) (m.rd (Reg.VDRV_PUB_CLAMP i) + w32 clampMj) else m
    let m := (setPhase m k .idle).updVc k fun x => { x with onClamp := false }
    match x.startWait with
    | .decayFull =>
      let gapEnd := (x.lastOff.getD 0) + 20000
      if m.mt < gapEnd then m.updVc k fun x => { x with startWait := .gap gapEnd } else beginDrive m k
    | _ => m

/-- The channel of a bank that has waited longest: by switch-on MT, then channel number (R189). -/
def longestWait (m : Module) (b : Nat) : Option Nat :=
  (((bankChannels m b).filter fun k => (vc m k).phase == .wait).foldl (fun (o : Option Nat) k => match o with
    | none => some k
    | some j => if (vc m k).onEdge < (vc m j).onEdge then some k else o) none)

/-- Note how long a boost waited (VDRV_PUB_WAIT_MAX). -/
def noteWait (m : Module) (k : Nat) : Module :=
  let us := (m.mt - (vc m k).waitSince) / usTicks
  if (m.rd Reg.VDRV_PUB_WAIT_MAX).toNat < us then m.wr Reg.VDRV_PUB_WAIT_MAX (w32 us) else m

/-- BOOST_START (R189): the longest-waiting channel of a bank starts its boost when the bank is free and the rail, now at
`rail` mV, allows. -/
def boostStart (b : Fin 16) (rail : Nat) (m : Module) : Module :=
  let m := m.enterPhase 7
  let i := b.val / 8
  let m := m.updHalf i fun h => { h with rail := rail, low := h.low && decide (rail < vminBoost m i) }
  match longestWait m b.val with
  | none => m
  | some k =>
    if (bankSt m b.val).owner.isNone ∧ vminBoost m i ≤ rail ∧ !supplyWarn m i then startBoost (noteWait m k) k else m

/-- BOOST_WAIT_MAX (R189): SKIP enters PEAK without boost; REJECT ends the claim set MISSED. -/
def boostWaitMax (k : Fin 128) (m : Module) : Module :=
  let k := homeVc m k
  let x := vc m k
  if x.phase ≠ .wait then m
  else
    let m := noteWait ((m.advanceTo (x.waitSince + usT x.lat.waitMax)).enterPhase 7) k
    if x.lat.busyReject then
      let m := (setPhase m k .idle).updVc k fun x => { x with startWait := .none }
      if x.claims.isEmpty then countSkip (m.updVc k fun x => { x with pulse := false }) k
      else
      let open_ := x.claims.any fun c => m.hob.committed.any (·.ev.acc == c.1)
      missClaims (if open_ then m.raise Reg.VDRV_INT_STATUS 2 else m) k rBoostBusy
    else peakSkipped m k

/-- MINIMUM_GAP_END (R187): a switch-on that waited for the 50 µs gap starts its drive. -/
def minimumGapEnd (k : Fin 128) (m : Module) : Module :=
  let k := homeVc m k
  match (vc m k).startWait with
  | .gap t => beginDrive (((m.advanceTo t).enterPhase 7).updVc k fun x => { x with startWait := .none }) k
  | .reopen t => reopenPeak ((m.advanceTo t).enterPhase 7) k
  | _ => m

/-- PWM_PULSE_START (R191). -/
def pwmPulseStart (k : Fin 128) (m : Module) : Module :=
  let k := homeVc m k
  let x := vc m k
  if !x.pwmRun || x.pulse || !x.claims.isEmpty then m
  else
    let m := (m.advanceTo x.nextPulse).enterPhase 7
    let p := profOf m x.levelProf
    if !p.pwm then m.updVc k fun x => { x with level := 0, pwmRun := false }
    else
      let m := m.updVc k fun x => { x with nextPulse := nextGrid m k p }
      if blocked m k then countSkip m k else startPulse m k false

/-- PWM_PULSE_END (R191). -/
def pwmPulseEnd (k : Fin 128) (m : Module) : Module :=
  let k := homeVc m k
  let x := vc m k
  if !x.pulse || x.pulseEnd == 0 || !x.claims.isEmpty then m
  else
    let m := (m.advanceTo x.pulseEnd).enterPhase 7
    let m := m.updVc k fun x => { x with pulse := false, internalOff := true }
    let m := switchOff m k
    if (vc m k).nextPulse ≤ m.mt then m.updVc k fun x => { x with nextPulse := nextGrid m k x.lat } else m

/-- HOLD_FACTOR_RAISE (R196): every 10 µs the factor rises by 1 % while the load still fits; `ma` is the converter's
input current over those 10 µs. -/
def holdFactorRaise (i : Fin 2) (ma : Nat) (m : Module) : Module :=
  let m := m.advanceTo ((m.mt / 4000 + 1) * 4000)
  let m := m.updHalf i.val fun h => { h with inputMa := ma }
  let f := (half m i.val).factor
  if f < 100 ∧ loadOf m i.val (f + 1) ≤ budgetOf m i.val then m.updHalf i.val fun h => { h with factor := f + 1 } else m

/-- DUTY_CUT (R197). -/
def dutyCut (k : Fin 128) (m : Module) : Module :=
  let k := homeVc m k
  let x := vc m k
  if !x.phase.drives || decide (100 ≤ x.lat.dutyMax) then m
  else
    let m := m.advanceTo (m.mt + cdiv (dutyCap x - dutyNow m x) (100 - x.lat.dutyMax))
    let m := settle (m.enterPhase 7) k
    let m := (m.updVc k fun x => { x with dutyCut := true }).raise (Reg.VDRV_CH_FAULT k) 7
    vcStop (m.raise Reg.VDRV_INT_STATUS 4) k

/-- DUTY_CUT_RELEASE (R197). -/
def dutyCutRelease (k : Fin 128) (m : Module) : Module :=
  let k := homeVc m k
  let x := vc m k
  if !x.dutyCut || x.phase.drives then m
  else
    let m := m.advanceTo (m.mt + cdiv (dutyNow m x - dutyCap x / 2) x.lat.dutyMax)
    (settle m k).updVc k fun x => { x with dutyCut := false }

/-! ## Supplies (R193, R198 to R200) -/

/-- A supply warning begins for half `i`: the reduced budget, and waiting channels go on without boost (R199). -/
def warnOnset (m : Module) (i : Nat) : Module :=
  let m := m.updHalf i fun h => { h with reduced := true }
  ((halfChannels m i).filter fun k => (vc m k).phase == .wait).foldl peakSkipped m

/-- Warnings have ended for half `i`. -/
def warnEnd (m : Module) (i : Nat) : Module :=
  if supplyWarn m i then m else m.updHalf i fun h => { h with okSince := m.mt }

/-- SUP_WARN (R198). -/
def supWarn (i : Fin 2) (mv : Nat) (m : Module) : Module :=
  let m := m.updHalf i.val fun h => { h with vsol := mv }
  if mv < m.cf (Reg.VDRV_SUP_WARN i.val) 8 0 * 100 ∧ !(half m i.val).vsolWarn then
    let m := m.updHalf i.val fun h => { h with vsolWarn := true }
    let m := ashPost (m.raise Reg.VDRV_INT_STATUS 7) 0x0002 .power (leBytes 1 (i.val + 1) ++ leBytes 1 0 ++ leBytes 2 mv)
    warnOnset m i.val
  else m

/-- VSOL_WARNING_END (R198). -/
def vsolWarningEnd (i : Fin 2) (mv : Nat) (m : Module) : Module :=
  let m := m.updHalf i.val fun h => { h with vsol := mv }
  if m.cf (Reg.VDRV_SUP_WARN i.val) 8 0 * 100 + 500 ≤ mv ∧ (half m i.val).vsolWarn then
    let m := m.updHalf i.val fun h => { h with vsolWarn := false }
    warnEnd (ashPost m 0x0003 .power (leBytes 1 (i.val + 1) ++ leBytes 1 0 ++ leBytes 2 mv)) i.val
  else m

/-- REDUCED_BUDGET_END (R199). -/
def reducedBudgetEnd (i : Fin 2) (m : Module) : Module :=
  if (half m i.val).reduced ∧ !supplyWarn m i.val then
    (m.advanceTo ((half m i.val).okSince + msTicks)).updHalf i.val fun h => { h with reduced := false }
  else m

/-- VALVE_OPEN_FAULT (R200): 200 µs after the low side first turned on. -/
def valveOpenFault (k : Fin 128) (m : Module) : Module :=
  let k := homeVc m k
  let x := vc m k
  if x.phase = .boost ∨ x.phase = .peak ∨ x.phase = .hold then
    vcLatch ((m.advanceTo (x.driveStart + 80000)).enterPhase 7) k 1
  else m

/-- VALVE_SHORT (R200). -/
def valveShort (k : Fin 128) (m : Module) : Module :=
  let k := homeVc m k
  if (vc m k).phase = .fault ∧ m.rf (Reg.VDRV_CH_FAULT k) 2 2 = 1 then m else vcLatch (m.enterPhase 7) k 2

/-- DRIVE_OVERTEMP (R200). -/
def driveOvertemp (i : Fin 2) (m : Module) : Module :=
  if (half m i.val).dieOt then m
  else
    let m := (m.enterPhase 7).updHalf i.val fun h => { h with dieOt := true }
    let m := bwStop (m.raise Reg.VDRV_INT_STATUS 9) i.val
    (halfChannels m i.val).foldl (fun m k => vcLatch m k 3) m

/-- INPUT_OC (R200). -/
def inputOc (i : Fin 2) (m : Module) : Module :=
  let m := bwStop (m.enterPhase 7) i.val
  (halfChannels m i.val).foldl (fun m k => vcLatch m k 4) m

/-- BANK_SW (R200). -/
def bankSw (b : Fin 16) (m : Module) : Module :=
  let m := (bankChannels m b.val).foldl (fun m k => vcLatch m k 5) (m.enterPhase 7)
  m.updBank b.val fun _ => ⟨.off, none⟩

/-- VSOL_UV (R200). -/
def vsolUv (i : Fin 2) (mv : Nat) (m : Module) : Module :=
  let m := m.updHalf i.val fun h => { h with vsol := mv }
  if mv < 6000 ∧ !(half m i.val).uv then
    let m := (m.enterPhase 7).updHalf i.val fun h => { h with uv := true }
    let m := bwStop (m.raise Reg.VDRV_INT_STATUS 8) i.val
    (halfChannels m i.val).foldl vcStop m
  else m

/-- VSOL_UV_RELEASE (R200): VSOL has stood at 7.0 V or more for 1 ms. -/
def vsolUvRelease (i : Fin 2) (mv : Nat) (m : Module) : Module :=
  let m := m.updHalf i.val fun h => { h with vsol := mv }
  if 7000 ≤ mv then m.updHalf i.val fun h => { h with uv := false } else m

/-- Decays under way in half `i` go over to the clamp (R192). -/
def clampHalf (m : Module) (i : Nat) : Module :=
  (halfChannels m i).foldl (fun m k => if (vc m k).phase == .decay && !(vc m k).onClamp then useClamp m k else m) m

/-- BW_OV (R200). -/
def bwOv (i : Fin 2) (mv : Nat) (m : Module) : Module :=
  let m := m.updHalf i.val fun h => { h with rail := mv }
  if 69000 < mv ∧ !(half m i.val).ov then
    let m := (m.enterPhase 7).updHalf i.val fun h => { h with ov := true }
    clampHalf ((bwStop m i.val).raise Reg.VDRV_INT_STATUS 6) i.val
  else m

/-- BW_LOW (R200). -/
def bwLow (i : Fin 2) (mv : Nat) (m : Module) : Module :=
  let m := m.updHalf i.val fun h => { h with rail := mv }
  if mv < vminBoost m i.val ∧ (half m i.val).run ∧ !(half m i.val).low then
    (m.updHalf i.val fun h => { h with low := true }).raise Reg.VDRV_INT_STATUS 6
  else m

/-- BELLOWS_FULL (R192). -/
def bellowsFull (i : Fin 2) (mv : Nat) (m : Module) : Module :=
  let m := m.updHalf i.val fun h => { h with rail := mv }
  if vset m i.val + 3000 ≤ mv then clampHalf ((m.enterPhase 7).updHalf i.val fun h => { h with full := true }) i.val else m

/-- FULL_END (R192, R200). -/
def fullEnd (i : Fin 2) (mv : Nat) (m : Module) : Module :=
  let m := m.updHalf i.val fun h => { h with rail := mv }
  if mv < vset m i.val + 2000 then m.updHalf i.val fun h => { h with full := false, ov := false } else m

/-- The conditions under which a converter runs (R193, R200). -/
def bwMayRun (m : Module) (i : Nat) : Bool :=
  m.cb (Reg.VDRV_BW_CFG i) 31 && decide (8000 < (half m i).vsol) && m.structActive
    && (List.range 8).any (fun b => bankBoosts m (8 * i + b)) && !(half m i).uv && !(half m i).ov && !(half m i).dieOt
    && !((halfChannels m i).any fun k => m.rf (Reg.VDRV_CH_FAULT k) 4 4 = 1)

/-- BELLOWS_CONVERTER_START (R193): with VSOL at `vsol` mV the converter starts and its rail stands at `rail` mV. -/
def converterStart (i : Fin 2) (vsol rail : Nat) (m : Module) : Module :=
  let m := m.updHalf i.val fun h => { h with vsol := vsol }
  if bwMayRun m i.val then
    m.updHalf i.val fun h => { h with run := true, rail := rail, low := h.low && decide (rail < vminBoost m i.val) }
  else m

/-- CONVERTER_STOP (R193): its input has fallen to 8.0 V, or a condition no longer holds. -/
def converterStop (i : Fin 2) (vsol : Nat) (m : Module) : Module :=
  let m := m.updHalf i.val fun h => { h with vsol := vsol }
  if bwMayRun m i.val then m else bwStop m i.val

/-- W1C of a channel's FAULT register releases it when no latched bit is left and its die is cool (R200). -/
def vdrvFaultClear (k : Fin 128) (mask : Word) (m : Module) : Module :=
  let k := homeVc m k
  let hot := (half m (halfOf k)).dieOt
  let m := m.clrR (Reg.VDRV_CH_FAULT k) (mask &&& (if hot then 0x1F7 else 0x1FF))
  let m := if m.recs.bank (bankOf' k) != none && (bankSt m (bankOf' k)).rail == .off
      && !((bankChannels m (bankOf' k)).any fun j => m.rf (Reg.VDRV_CH_FAULT j) 5 5 = 1) then
      m.updBank (bankOf' k) fun b => { b with rail := .vsol } else m
  if (vc m k).phase = .fault ∧ m.rf (Reg.VDRV_CH_FAULT k) 5 1 = 0 then
    resumePwm (setPhase m k .idle) k
  else m

end Sys2Proof.Machine
end

