-- ==== Sys2Proof/Machine/Lsw.lean ====
section
/-! DEFINITION. The load switches: claims, duty and bridges, protection, retries, the thermal latch (15). -/

namespace Sys2Proof.Machine

/-- Load switch `n`. -/
def ls (m : Module) (n : Nat) : LsSt := Arr.getD m.lsw.ch n LsSt.reset

/-- Change load switch `n`. -/
def Module.updLs (m : Module) (n : Nat) (f : LsSt → LsSt) : Module :=
  { m with lsw := { m.lsw with ch := Arr.updD m.lsw.ch n f } }

/-- The loop that drives channel `c` of the channel space as its output. -/
def ownerLoop (m : Module) (c : Nat) : Option LoopRec := (m.recs.loops.find? fun l => l.2.outputs.contains c).map (·.2)

/-- A LOOP record makes load switch `n` half of a bridge (R318). -/
def bridgeRec (m : Module) (n : Nat) : Bool :=
  match ownerLoop m (256 + n) with
  | some l => l.outKind == .bridge
  | none => false

/-- Load switch `n` is half of a bridge, or was at the onset of a reset (R318, R324). -/
def lsBridge (m : Module) (n : Nat) : Bool :=
  match (ls m n).keep with
  | some k => k.bridge
  | none => bridgeRec m n

/-- BRAKE of the bridge of load switch `n`, and OFF_STATE LOW of the switch, in force now or at the onset of a reset. -/
def lsBrake (m : Module) (n : Nat) : Bool :=
  match (ls m n).keep with
  | some k => k.brake
  | none => m.cb (Reg.LSW_BRIDGE_CFG (n / 2)) 0
def lsOffLow (m : Module) (n : Nat) : Bool :=
  match (ls m n).keep with
  | some k => k.offLow
  | none => decide (n < 4) && m.cb (Reg.LSW_CH_CFG n) 16

/-- The duty the claim set, the LEVEL or the loop ask of a channel's high side (R316, R318, R240). -/
def lsWanted (m : Module) (n : Nat) : Nat :=
  let x := ls m n
  if lsBridge m n then
    if n % 2 = 0 then (if 0 < x.u then x.u.natAbs else 0) else (if x.u < 0 then x.u.natAbs else 0)
  else if x.keep.isNone ∧ (ownerLoop m (256 + n)).isSome then x.u.natAbs
  else if x.claims.isEmpty then x.level else 65535

/-- The duty at which a channel's high side is driven now: limp-home's, the wanted one, or 0 in a wait or latched. -/
def lsDuty (m : Module) (n : Nat) : Nat :=
  let x := ls m n
  if x.latched || x.wait != .none then 0
  else match x.limp with
    | some d => if x.limpDead then 0 else d * 257
    | none => lsWanted m n

/-- The low side of load switch `n` (R317, R318, R326): a half of a bridge in a wait or latched has both sides off. -/
def lsLow (m : Module) (n : Nat) : LowSide :=
  let x := ls m n
  if 4 ≤ n ∨ x.limp.isSome then .off
  else if lsBridge m n then
    if x.latched || x.wait != .none then .off
    else if x.u = 0 then (if lsBrake m n then .on else .off)
    else if decide (0 < x.u) == decide (n % 2 = 0) then (if x.u.natAbs < 65535 then .rest else .off)
    else .on
  else if !lsOffLow m n then .off
  else if lsDuty m n = 0 then .on
  else if lsDuty m n = 65535 then .off
  else .rest

/-- The output follows what has changed, `old` being its duty before: the time it has been on, and an attempt owed
(R321). -/
def lsReact (m : Module) (n old : Nat) : Module :=
  let now := lsDuty m n
  if old = 0 ∧ now ≠ 0 then
    let m := m.updLs n fun x => { x with onSince := some m.mt, openOff := false }
    if (ls m n).owed then
      (m.updLs n fun x => { x with owed := false, retries := x.retries + 1 }).addSat (Reg.LSW_CH_COUNT n) 15 0 1
    else m
  else if old ≠ 0 ∧ now = 0 then m.updLs n fun x => { x with onSince := none }
  else m

/-- The claim set of a load switch or field output ends MISSED with OUTPUT_FAULT. -/
def missAll (m : Module) (accs : List Nat) : Module := accs.foldl (fun m a => missCommitted m a rOutputFault) m

/-- Entry into LATCHED (R323). -/
def lsLatch (m : Module) (n : Nat) : Module :=
  let x := ls m n
  if x.latched then m
  else
    let m := m.updLs n fun x => { x with latched := true, claims := [], level := 0, u := 0, wait := .none, owed := false,
                                         onSince := none, heldUntil := none }
    ashLatch (missAll m x.claims) (128 + n) (m.rf (Reg.LSW_CH_FAULT n) 15 0)

/-- RETRY_MAX: in limp-home it is taken as 7 (R321, R326). -/
def lsRetryMax (m : Module) (n : Nat) : Nat := if (ls m n).limp.isSome then 7 else m.cf (Reg.LSW_CH_CFG n) 22 20

/-- RETRY_EXHAUSTED: the channel latches; in limp-home it stays off until limp-home ends (R321, R326). -/
def lsExhausted (m : Module) (n : Nat) : Module :=
  if (ls m n).limp.isSome then m.updLs n fun x => { x with limpDead := true, wait := .none, onSince := none }
  else lsLatch ((m.raise (Reg.LSW_CH_FAULT n) 5).raise Reg.LSW_INT_STATUS 4) n

/-- The halves of the output that holds load switch `n`. -/
def lsHalves (m : Module) (n : Nat) : List Nat := if lsBridge m n then [n - n % 2, n - n % 2 + 1] else [n]

/-- A SHORT or OVERLOAD trip with fault bit `bit` (R320, R321); under HOLD it ends the hold (R324). -/
def lsTrip (m : Module) (n bit : Nat) : Module :=
  if lsDuty m n = 0 ∧ lsLow m n = .off then m
  else
    let m := ((m.raise (Reg.LSW_CH_FAULT n) bit).raise Reg.LSW_INT_STATUS 2).addSat (Reg.LSW_CH_COUNT n) 31 16 1
    let x := ls m n
    if x.heldUntil.isSome then
      (lsHalves m n).foldl (fun m n => m.updLs n fun x =>
        { x with claims := [], level := 0, u := 0, heldUntil := none, onSince := none }) m
    else if lsRetryMax m n ≤ x.retries then lsExhausted m n
    else m.updLs n fun x => { x with wait := .retry (m.mt + 10 * msTicks * 2 ^ x.retries), onSince := none }

/-- A latching condition of R320 is still present on channel `n`, or a latching bit is set. -/
def lsLatchHolds (m : Module) (n : Nat) : Bool :=
  m.rf (Reg.LSW_CH_FAULT n) 5 4 != 0 || m.lsw.uv || m.rf Reg.LSW_SUP_FAULT 0 0 == 1

/-- A LATCHED channel is released once nothing latches it; it stays off until its next edge or loop output (R323). -/
def lsRelease (m : Module) (n : Nat) : Module :=
  if (ls m n).latched && !lsLatchHolds m n then m.updLs n fun x => { x with latched := false } else m

/-- Every channel in turn. -/
def allLs (f : Module → Nat → Module) (m : Module) : Module := (List.range 16).foldl f m

/-! ## The commands -/

/-- LS_SHORT (R320): at the limit for longer than INRUSH_T. -/
def lsShort (n : Fin 16) (m : Module) : Module := lsTrip (m.enterPhase 7) n.val 2

/-- OVERLOAD (R320). -/
def lsOverload (n : Fin 16) (m : Module) : Module := lsTrip (m.enterPhase 7) n.val 3

/-- LS_OVERTEMP (R320, R322): the thermal latch sets, in any state. -/
def lsOvertemp (n : Fin 16) (m : Module) : Module :=
  let n := n.val
  if (ls m n).hot then m
  else
    let m := ((m.enterPhase 7).raise (Reg.LSW_CH_FAULT n) 4).raise Reg.LSW_INT_STATUS 3
    let m := m.updLs n fun x => { x with hot := true, wait := .none, onSince := none }
    if (ls m n).heldUntil.isSome then
      lsLatch (m.updLs n fun x => { x with heldUntil := none }) n
    else if (ls m n).latched then m
    else if m.cb (Reg.LSW_CH_CFG n) 18 then m.updLs n fun x => { x with wait := .thermal }
    else lsLatch m n

/-- LS_OPEN (R320): the off-state test has found the output above 2.5 V for 10 ms, or below it again. -/
def lsOpen (n : Fin 16) (present : Bool) (m : Module) : Module :=
  let n := n.val
  if !present then m.updLs n fun x => { x with openOff := false }
  else if m.cb (Reg.LSW_CH_CFG n) 17 && !m.cb (Reg.LSW_CH_CFG n) 16 && lsDuty m n == 0 then
    ((m.updLs n fun x => { x with openOff := true }).raise (Reg.LSW_CH_FAULT n) 1).raise Reg.LSW_INT_STATUS 1
  else m

/-- VLS_UV (R320): every channel is off and LATCHED while VLS is low. -/
def vlsUv (m : Module) : Module :=
  if m.lsw.uv then m
  else
    let m := (m.enterPhase 7).raise Reg.LSW_INT_STATUS 5
    allLs lsLatch { m with lsw := { m.lsw with uv := true } }

/-- VLS_UV_RELEASE (R320): VLS has stood at 7.0 V or more for 1 ms. -/
def vlsUvRelease (m : Module) : Module := allLs lsRelease { m with lsw := { m.lsw with uv := false } }

/-- VLS_OC (R320). -/
def vlsOc (m : Module) : Module :=
  allLs lsLatch (((m.enterPhase 7).raise Reg.LSW_INT_STATUS 5).raise Reg.LSW_SUP_FAULT 0)

/-- W1C of LSW_SUP_FAULT (R320). -/
def vlsOcClear (mask : Word) (m : Module) : Module := allLs lsRelease (m.clrR Reg.LSW_SUP_FAULT (mask &&& 1))

/-- RETRY_WAIT_END (R321). -/
def retryWaitEnd (n : Fin 16) (m : Module) : Module :=
  let n := n.val
  match (ls m n).wait with
  | .retry t =>
    let m := ((m.advanceTo t).enterPhase 7).updLs n fun x => { x with wait := .none, owed := true }
    lsReact m n 0
  | _ => m

/-- RETRY_COUNTER_RESET (R321): on for 1 s without a trip. -/
def retryCounterReset (n : Fin 16) (m : Module) : Module :=
  let n := n.val
  match (ls m n).onSince with
  | some t => (m.advanceTo (t + secTicks)).updLs n fun x => { x with retries := 0, onSince := some m.mt }
  | none => m

/-- THERMAL_RELEASE (R322): the junction falls below 150 °C. -/
def thermalRelease (n : Fin 16) (m : Module) : Module :=
  let n := n.val
  if !(ls m n).hot then m
  else
    let m := (m.enterPhase 7).updLs n fun x => { x with hot := false }
    if !bit (m.rd (Reg.LSW_CH_FAULT n)) 4 ∧ (ls m n).wait ≠ .thermal then m
    else if !m.cb (Reg.LSW_CH_CFG n) 18 then (if (ls m n).wait = .thermal then lsLatch m n else m)
    else if lsRetryMax m n ≤ (ls m n).retries then lsExhausted m n
    else
      let m := (m.clrR (Reg.LSW_CH_FAULT n) 16).updLs n fun x => { x with wait := .none, owed := true }
      lsReact (lsRelease m n) n 0

/-- W1C of LSW_CH_FAULT (R322, R323): OVERTEMP stands while the junction is hot; RETRY_EXHAUSTED resets the counter, unless the
thermal latch still freezes it. -/
def lswFaultClear (n : Fin 16) (mask : Word) (m : Module) : Module :=
  let n := n.val
  let was := m.rf (Reg.LSW_CH_FAULT n) 5 5 = 1
  let m := m.clrR (Reg.LSW_CH_FAULT n) (mask &&& (if (ls m n).hot ∨ (ls m n).wait = .thermal then 0x2E else 0x3E))
  let m := if was ∧ bit mask 5 ∧ !bit (m.rd (Reg.LSW_CH_FAULT n)) 4 then m.updLs n fun x => { x with retries := 0 } else m
  lsRelease m n

end Sys2Proof.Machine
end

