-- ==== Sys2Proof/Machine/Limp.lean ====
section
/-! DEFINITION. Limp-home, the reset policies of every output and their onset at a reset, disarming of outputs
(R46, R202 to R204, R307, R324 to R327, R383). -/

namespace Sys2Proof.Machine

/-- Field output `n`. -/
def fo (m : Module) (n : Nat) : FoSt := Arr.getD m.fio.fo n FoSt.reset

/-- Change field output `n`. -/
def Module.updFo (m : Module) (n : Nat) (f : FoSt → FoSt) : Module :=
  { m with fio := { m.fio with fo := Arr.updD m.fio.fo n f } }

/-! ## Retained policies (R46, R202) -/

/-- The retained policy of channel `c`. -/
def policyFor (m : Module) (c : Nat) : PolicyEntry :=
  match m.grate.retained.pols.find? (·.1 == c) with
  | some e => e.2
  | none => PolicyEntry.off

/-- The channel whose policy governs channel `c`: a bridge's second channel follows its first (R324). -/
def policyChan (m : Module) (c : Nat) : Nat := if 256 ≤ c ∧ c ≤ 259 ∧ lsBridge m (c - 256) then c - c % 2 else c

/-- RESET_POLICY code. -/
def Policy.code : Policy → Nat
  | .off => 0 | .hold => 1 | .limp => 2

/-- The RESETPOL register of a channel as it reads. -/
def policyWord (p : PolicyEntry) : Word := w32 (p.holdMs + p.policy.code * 2 ^ 16 + b2n p.lock * 2 ^ 31)

/-- A policy after a write of `w`: a POLICY of 0b11 and a HOLD_MS above 500 are ignored. -/
def PolicyEntry.write (p : PolicyEntry) (w : Word) : PolicyEntry :=
  let pc := fld w 17 16
  { p with policy := if pc = 3 then p.policy else if pc = 2 then .limp else if pc = 1 then .hold else .off,
           holdMs := if fld w 8 0 ≤ 500 then fld w 8 0 else p.holdMs }

/-- RESETPOL_WRITE (R202): ignored and flagged when locked, else kept for the next boundary. -/
def resetPolWrite (c : Nat) (w : Word) (m : Module) : Module :=
  let flag : Option (Nat × Nat) :=
    if c ≤ 127 then some (Reg.VDRV_INT_STATUS, 11)
    else if 256 ≤ c ∧ c ≤ 271 then some (Reg.LSW_INT_STATUS, 8)
    else if 512 ≤ c ∧ c ≤ 527 then some (Reg.FIO_INT_STATUS, 7)
    else none
  match flag with
  | none => m
  | some (r, b) =>
    if (policyFor m c).lock then m.raise r b
    else { m with vdrv := { m.vdrv with polWrites := m.vdrv.polWrites.filter (·.1 != c) ++ [(c, w.toNat)] } }

/-- At a Mantel cycle boundary the writes reach PD0 retention (R202). -/
def takePolicies (m : Module) : Module :=
  let put := fun (r : List (Nat × PolicyEntry)) (e : Nat × Nat) =>
    r.filter (·.1 != e.1) ++ [(e.1, (policyFor m e.1).write (w32 e.2))]
  { m with grate := { m.grate with retained := { m.grate.retained with
      pols := m.vdrv.polWrites.foldl put m.grate.retained.pols } },
           vdrv := { m.vdrv with polWrites := [] } }

/-- A reset of the data plane is in progress (R414). -/
def inReset (m : Module) : Bool := m.pwr.hold.isSome || m.pwr.pd2Hold.isSome

/-! ## The limp-home mapping (R204, R307, R326) -/

/-- Limp-home drives channel `c`. -/
def limpGoverns (m : Module) (c : Nat) : Bool :=
  m.lsw.limpActive || (inReset m && (policyFor m (policyChan m c)).policy == .limp)

/-- The retained LIMP records whose input is active. -/
def activeLimps (m : Module) : List LimpRec := m.grate.retained.limps.filter fun r => tb m.lsw.lhIn r.input

/-- The duty of 255 that the mapping gives load switch `n`. -/
def limpLsDuty (m : Module) (n : Nat) : Nat :=
  ((activeLimps m).map fun r => if tb r.lsMask n then r.lsDuty else 0).foldl max 0

/-- The mapping turns field output `n` on. -/
def limpFoOn (m : Module) (n : Nat) : Bool := (activeLimps m).any fun r => tb r.foMask n

/-- The profile with which the mapping drives valve channel `k`: that of the lowest active input naming it. -/
def limpVcProfile (m : Module) (k : Nat) : Option Nat :=
  ((activeLimps m).filter fun r => m.grate.retained.limpVcs.any fun v => v.1 == r.input && v.2.contains k).foldl
    (fun (o : Option LimpRec) r => match o with
      | none => some r
      | some q => if r.input < q.input then some r else o) none |>.map (·.vcProfile)

/-- Valve channel `k` under the mapping: PEAK then HOLD from VSOL, or off (R204). -/
def limpVc (m : Module) (k : Nat) : Module :=
  let x := vc m k
  if x.phase = .fault then m
  else match limpVcProfile m k with
    | some p =>
      if x.phase = .limp ∧ x.limpDrive ∧ x.prof = p then m
      else
        let lat := { profOf m p with boostT := 0 }
        (setPhase (releaseBank m k) k .limp).updVc k fun x =>
          { x with limpDrive := true, prof := p, lat := lat, driveStart := m.mt, peakEnd := m.mt + usT lat.peakT,
                   peakMa := lat.peakI * pairMul m k, faulted := true, startWait := .none }
    | none =>
      let off := if x.phase.drives && (x.phase != .limp || x.limpDrive) then some m.mt else x.lastOff
      (setPhase (releaseBank m k) k .limp).updVc k fun x =>
        { x with limpDrive := false, lastOff := off, faulted := true, startWait := .none }

/-- Valve channel `k` leaves the mapping (R327). -/
def unlimpVc (m : Module) (k : Nat) : Module :=
  let x := vc m k
  if x.phase ≠ .limp then m else if x.limpDrive then switchOff m k else setPhase m k .idle

/-- Bring every output in line with limp-home: the mapping drives those it governs, the others leave it. -/
def limpApply (m : Module) : Module :=
  let m := (List.range 128).foldl (fun m k =>
    if limpGoverns m k then (if m.recs.vcUsable k ∨ (limpVcProfile m k).isSome then limpVc m k else m) else unlimpVc m k) m
  let m := (List.range 16).foldl (fun m n =>
    let old := lsDuty m n
    let d := limpLsDuty m n
    let g := limpGoverns m (256 + n)
    let m := m.updLs n fun x =>
      { x with limp := if g then some d else none, limpDead := g && x.limpDead,
               wait := if g || x.limp.isNone || x.wait == .thermal then x.wait else .none }
    lsReact m n old) m
  (List.range 16).foldl (fun m n =>
    let on := limpFoOn m n
    let g := limpGoverns m (512 + n)
    m.updFo n fun x => { x with limp := if g then some on else none }) m

/-! ## Outputs emptied -/

/-- Every claim set and duty empties without a notification: the events are gone or already final. An output held under a
reset policy keeps its duty. -/
def emptyOutputs (m : Module) : Module :=
  let m := (List.range 128).foldl (fun m k =>
    m.updVc k fun x => { x with claims := [], heldOffs := [], level := 0, pwmRun := false, pulse := false, startWait := .none }) m
  let m := allLs (fun m n =>
    let old := lsDuty m n
    lsReact (m.updLs n fun x => if x.heldUntil.isSome then x else { x with claims := [], level := 0, u := 0 }) n old) m
  (List.range 16).foldl (fun m n => m.updFo n fun x =>
    if x.heldUntil.isSome then x else { x with claims := [], level := 0, u := 0 }) m

/-- The outputs go to their off states (R383): nothing the mapping drives is touched. -/
def outputsOff (m : Module) : Module :=
  let m := emptyOutputs m
  (List.range 128).foldl (fun m k =>
    match (vc m k).phase with
    | .limp | .held | .fault => m
    | _ => switchOff m k) m

/-! ## A reset's onset (R203, R307, R324) -/

/-- One valve channel at the onset. -/
def vcOnset (m : Module) (k : Nat) : Module :=
  let p := policyFor m k
  let x := vc m k
  match x.phase with
  | .fault | .limp => m
  | .boost | .peak | .hold =>
    if p.policy = .hold ∧ p.holdMs ≠ 0 then
      (setPhase (releaseBank m k) k .held).updVc k fun x =>
        { x with heldUntil := m.mt + p.holdMs * msTicks, faulted := true, startWait := .none }
    else if p.policy = .limp then m
    else switchOff m k
  | .held => m
  | _ => if p.policy = .limp then m else switchOff m k

/-- One load switch at the onset: a bridge follows the policy of its first channel and keeps its u (R324). -/
def lsOnset (m : Module) (n : Nat) : Module :=
  let p := policyFor m (policyChan m (256 + n))
  let old := lsDuty m n
  let wanted := lsWanted m n
  let br := lsBridge m n
  let k : LsKeep := ⟨br, lsBrake m n, lsOffLow m n⟩
  let hold := p.policy = .hold ∧ p.holdMs ≠ 0 ∧ (if br then (ls m n).u ≠ 0 else old ≠ 0)
  let m := m.updLs n fun x =>
    if hold then { x with level := if br then 0 else wanted, u := if br then x.u else 0, claims := [], keep := some k,
                          heldUntil := some (m.mt + p.holdMs * msTicks) }
    else { x with claims := [], level := 0, u := 0, keep := some k, wait := if x.wait == .thermal then x.wait else .none }
  lsReact m n old

/-- One field output at the onset. -/
def foOnset (m : Module) (n : Nat) : Module :=
  let p := policyFor m (512 + n)
  let hold := p.policy = .hold ∧ p.holdMs ≠ 0
  m.updFo n fun x =>
    if hold then { x with level := if x.claims.isEmpty then (if x.u ≠ 0 then x.u else x.level) else 65535, claims := [],
                          u := 0, heldUntil := some (m.mt + p.holdMs * msTicks) }
    else { x with claims := [], level := 0, u := 0 }

/-- What every output does at the onset of a reset that stops the data plane; the converters stop (R203). -/
def outputsOnset (m : Module) : Module :=
  let m := (List.range 128).foldl (fun m k =>
    vcOnset (m.updVc k fun x => { x with claims := [], heldOffs := [], level := 0, pwmRun := false, pulse := false }) k) m
  let m := bwStop (bwStop m 0) 1
  let m := allLs lsOnset m
  limpApply ((List.range 16).foldl foOnset m)

/-- HOLD_MS_EXPIRY (R203, R307, R324) of the output with channel number `c`. -/
def holdMsExpiry (c : Nat) (m : Module) : Module :=
  if c ≤ 127 then
    if (vc m c).phase = .held then switchOff ((m.advanceTo (vc m c).heldUntil).enterPhase 7) c else m
  else if 256 ≤ c ∧ c ≤ 271 then
    let n := c - 256
    match (ls m n).heldUntil with
    | some t =>
      (lsHalves m n).foldl (fun m n =>
        let old := lsDuty m n
        lsReact (m.updLs n fun x => { x with level := 0, u := 0, heldUntil := none, keep := if m.structActive then none else x.keep })
          n old) ((m.advanceTo t).enterPhase 7)
    | none => m
  else if 512 ≤ c ∧ c ≤ 527 then
    let n := c - 512
    match (fo m n).heldUntil with
    | some t => ((m.advanceTo t).enterPhase 7).updFo n fun x => { x with level := 0, heldUntil := none }
    | none => m
  else m

/-! ## Limp-home (R325 to R327) -/

/-- Every event of every claim set ends MISSED with OUTPUT_FAULT, and the duties empty (R327, as R323). -/
def limpTakesOutputs (m : Module) : Module :=
  let m := (List.range 128).foldl (fun m k => missClaims m k rOutputFault) m
  let m := allLs (fun m n => missAll m (ls m n).claims) m
  let m := (List.range 16).foldl (fun m n => missAll m (fo m n).claims) m
  emptyOutputs m

/-- LIMP_ENTRY (R327): LH_EN_N active after its filter, with the levels of LH_IN0 to LH_IN7. -/
def limpEntry (inputs : Nat) (m : Module) : Module :=
  let m := { m with lsw := { m.lsw with lhEn := true, lhIn := inputs % 256 } }
  if m.lsw.limpActive then limpApply m
  else
    let m := limpTakesOutputs (m.enterPhase 7)
    let m := { m with lsw := { m.lsw with limpActive := true } }
    let m := limpApply (m.raise Reg.LSW_INT_STATUS 6)
    if inReset m || m.pwr.asleep then m else ashPost m 0x0040 .operation (leBytes 1 (inputs % 256))

/-- LIMP_INPUT_CHANGE (R327). -/
def limpInputChange (inputs : Nat) (m : Module) : Module :=
  limpApply { m with lsw := { m.lsw with lhIn := inputs % 256 } }

/-- LIMP_EXIT (R327): LH_EN_N has been inactive for 100 ms; every output goes to its off state. -/
def limpExit (m : Module) : Module :=
  let m := { m with lsw := { m.lsw with lhEn := false } }
  if !m.lsw.limpActive then m
  else limpApply ({ m with lsw := { m.lsw with limpActive := false } }.raise Reg.LSW_INT_STATUS 7)

/-- VDRV_FAULT_CLEAR (R200): a released channel that limp-home governs passes to the mapping. -/
def vdrvFaultWrite (k : Fin 128) (mask : Word) (m : Module) : Module := limpApply (vdrvFaultClear k mask m)

end Sys2Proof.Machine
end

