-- ==== Sys2Proof/Machine/Fio.lean ====
section
/-! DEFINITION. The field I/O: barrier frames and faults, field inputs, field outputs, the field supply, the analog
inputs and the sensor supplies (14). -/

namespace Sys2Proof.Machine

/-! ## Access -/

/-- Ticks of a frame interval (R297). -/
def frameTicks : Nat := 800

/-- Change the field I/O. -/
def Module.updFio (m : Module) (f : FioSt → FioSt) : Module := { m with fio := f m.fio }

/-- Change field input `n`. -/
def Module.updFi (m : Module) (n : Nat) (f : FiSt → FiSt) : Module :=
  m.updFio fun s => { s with fi := Arr.updD s.fi n f }

/-- Change analog input `n`. -/
def Module.updAi (m : Module) (n : Nat) (f : AiSt → AiSt) : Module :=
  m.updFio fun s => { s with ai := Arr.updD s.ai n f }

/-- Change loop `n`. -/
def Module.updLoop (m : Module) (n : Nat) (f : LoopSt → LoopSt) : Module :=
  { m with loops := { m.loops with lp := Arr.updD m.loops.lp n f } }

/-- Change every loop whose feedback is `kind`, `ix` (R34). -/
def feedLoops (m : Module) (kinds : List FbKind) (ix : Nat) (f : LoopSt → LoopSt) : Module :=
  (m.recs.loops.filter fun l => kinds.contains l.2.fbKind && l.2.fbIndex == ix).foldl (fun m l => m.updLoop l.2.loop f) m

/-- SUPPLY_LOW: the field supply state is not NORMAL (R303, R308). -/
def supplyLow (m : Module) : Bool := m.fio.vstate != .normal

/-- Axes fed by field inputs (R303). -/
def fiAxes (m : Module) : List (Fin 15) :=
  (List.finRange 15).filter fun n => axisSrc m n.val == .fiQuad || axisSrc m n.val == .fiPulse

/-- A mark on the field inputs begins: their axes take it as a source fault (R303). -/
def fiMarked (m : Module) : Module := (fiAxes m).foldl (fun m n => axisFault (m.enterPhase 3) n (some .barrier)) m

/-- The marks have ended when neither SUPPLY_LOW nor BARRIER stands: the fault condition of those axes ends. -/
def fiUnmarked (m : Module) : Module :=
  if supplyLow m || m.fio.up.fault then m
  else (fiAxes m).foldl (fun m n =>
    if (axisAt m n).fault && (axisAt m n).faultCause == some .barrier then axisClearFault m n else m) m

/-! ## Field outputs (R304 to R306) -/

/-- The logic side's state of field output `n`: the duty it is driven at. -/
def foDuty (m : Module) (n : Nat) : Nat :=
  let x := fo m n
  if x.latched || m.fio.latch || m.fio.fieldLatch then 0
  else match x.limp with
    | some on => if on then 65535 else 0
    | none => if x.claims.isEmpty then (if x.u ≠ 0 then x.u else x.level) else 65535

/-- A field output is latched off, by its own fault, the supply or the barrier (R306). -/
def foBlocked (m : Module) (n : Nat) : Bool :=
  (fo m n).latched || m.fio.latch || m.fio.fieldLatch || (fo m n).limp.isSome || (fo m n).heldUntil.isSome

/-- The claim set of a field output ends MISSED and its duty empties (R306). -/
def foEmpty (m : Module) (n : Nat) : Module :=
  let cs := (fo m n).claims
  missAll (m.updFo n fun x => { x with claims := [], level := 0, u := 0, heldUntil := none }) cs

/-- Field output `n` is latched by a fault of its own (R305, R306). -/
def foLatch (m : Module) (n bit : Nat) : Module :=
  let m := (m.raise (Reg.FIO_FO_FAULT n) bit).raise Reg.FIO_INT_STATUS 4
  let was := (fo m n).latched
  let m := foEmpty (m.updFo n fun x => { x with latched := true }) n
  if was then m else ashLatch m (144 + n) (m.rf (Reg.FIO_FO_FAULT n) 15 0)

/-- Every field output is latched off by the supply or the barrier (R299, R306, R308). -/
def foLatchAll (m : Module) : Module :=
  let was := m.fio.latch
  let m := m.updFio fun s => { s with latch := true, ready := false, rel := false }
  (List.range 16).foldl (fun m n =>
    let m := foEmpty m n
    if was || (fo m n).latched then m else ashLatch m (144 + n) (m.rf (Reg.FIO_FO_FAULT n) 15 0)) m

/-- FO_OVERCURRENT (R305). -/
def foOvercurrent (n : Fin 16) (m : Module) : Module := foLatch (m.enterPhase 7) n.val 1

/-- FO_SHORT (R305). -/
def foShort (n : Fin 16) (m : Module) : Module := foLatch (m.enterPhase 7) n.val 2

/-- FO_OVERTEMP (R305). -/
def foOvertemp (n : Fin 16) (m : Module) : Module :=
  foLatch ((m.enterPhase 7).updFo n.val fun x => { x with hot := true }) n.val 3

/-- FO_OPEN (R305): an on output has carried less than 4 mA for 10 ms, or carries more again. -/
def foOpen (n : Fin 16) (present : Bool) (m : Module) : Module :=
  let n := n.val
  if !present then (m.updFo n fun x => { x with openLoad := false }).clrR (Reg.FIO_FO_FAULT n) 1
  else if m.cb (Reg.FIO_FO_CFG n) 31 ∧ foDuty m n ≠ 0 then
    ((m.updFo n fun x => { x with openLoad := true }).raise (Reg.FIO_FO_FAULT n) 0).raise Reg.FIO_INT_STATUS 4
  else m

/-- FO_FAULT_CLEAR (R305): a bit whose condition persists stands; the output is released with its last latching bit. -/
def foFaultClear (n : Fin 16) (mask : Word) (m : Module) : Module :=
  let n := n.val
  let x := fo m n
  let may : Nat := 6 + (if x.hot then 0 else 8) + (if x.openLoad then 0 else 1)
  let m := m.clrR (Reg.FIO_FO_FAULT n) (mask &&& w32 may)
  if m.rf (Reg.FIO_FO_FAULT n) 3 1 = 0 then m.updFo n fun x => { x with latched := false } else m

/-- DIE_OT_END (R200, R305): a power die or a field output has cooled below 150 °C. -/
def dieOtEnd (d : DieSite) (m : Module) : Module :=
  match d with
  | .valveHalf i => m.updHalf i.val fun h => { h with dieOt := false }
  | .fieldOutput n => m.updFo n.val fun x => { x with hot := false }

/-! ## Field inputs (R301, R302) -/

/-- A rising edge of input `n` stamped `t`: count, period, and the loops it feeds (R302, R413). -/
def fiRise (m : Module) (n t : Nat) : Module :=
  let last := (Arr.getD m.fio.fi n ⟨false, none, none⟩).lastRise
  let m := m.count (Reg.FIO_FI_COUNT n)
  let m := match last with
    | some t0 => m.wr (Reg.FIO_FI_PERIOD n) (w32 (satU 32 ((t - t0) / 10)))
    | none => m
  let m := m.updFi n fun x => { x with lastRise := some t }
  feedLoops m [.fiFreq, .fiPeriod] n fun l => { l with edges := l.edges + 1, latest := t }

/-- Input `n` goes to `level` in a barrier fault: the edge is lost, and the level is held until the fault ends (R299, R302). -/
def fiLose (m : Module) (n : Nat) (level : Bool) : Module :=
  let m := (m.updFio fun s => { s with fiLost := true }).updFi n fun x => { x with lost := some level }
  feedLoops m [.fiFreq, .fiPeriod] n fun l => { l with lastEdge := none, edges := 0 }

/-- A recognised change of input `n` to `level`, stamped `t`; in a barrier fault it is lost (R302). -/
def fiChange (m : Module) (n : Nat) (level : Bool) (t : Nat) : Module :=
  if m.fio.up.fault then fiLose m n level
  else
    let was := (Arr.getD m.fio.fi n ⟨false, none, none⟩).level
    let m := m.updFi n fun x => { x with level := level }
    if level && !was then fiRise m n t else m

/-- The stamp of an edge of input `n` recognised in the interval that starts at `f`, at `slot` (R301): an input of
group 0 is stamped at the pin edge, the others at the frame start that first shows the level. -/
def fiStamp (m : Module) (n f slot : Nat) : Nat :=
  if n < 8 then f + slot * 10 - usT (m.cf (Reg.FIO_FI_CFG n) 14 0) else f + frameTicks

/-- FI_EDGE (R301, R302): input `n` is recognised at `level` in this frame interval, at `slot`. -/
def fiEdge (n : Fin 32) (level : Bool) (slot : Fin 80) (m : Module) : Module :=
  fiChange m n.val level (fiStamp m n.val (m.mt / frameTicks * frameTicks) slot.val)

/-! ## The barrier (R298, R299) -/

/-- One bit of the CRC-8 of R298. -/
def crc8Bit (c : Nat) : Nat := if tb c 7 then ((c * 2) % 256) ^^^ 0x2F else c * 2

/-- The CRC-8 of R298. -/
def crc8 (bs : List Byte) : Nat :=
  bs.foldl (fun c b => (List.range 8).foldl (fun c _ => crc8Bit c) (c ^^^ b.toNat)) 0xFF

/-- One frame of a direction: whether its CRC is correct, and its SEQ; the direction after it and whether it is good. -/
def BarrierDir.take (d : BarrierDir) (crcOk : Bool) (seq : Nat) : BarrierDir × Bool :=
  let follows := match d.ref with
    | some r => decide (seq = (r + 1) % 16)
    | none => true
  let good := crcOk && follows
  ({ d with ref := if crcOk then some seq else d.ref, bad := if good then 0 else d.bad + 1,
            good := if good then d.good + 1 else 0 }, good)

/-- LOGIC_BARRIER_FAULT (R299): three upstream frames in a row were bad or missing. -/
def logicBarrierFault (m : Module) : Module :=
  if m.fio.up.fault then m
  else
    let m := (m.enterPhase 3).updFio fun s =>
      { s with up := { s.up with fault := true, good := 0 }, faults := satU 8 (s.faults + 1), vstate := .noData, volt := 0 }
    let m := foLatchAll (m.raise Reg.FIO_INT_STATUS 3)
    fiMarked (ashPost m 0x0030 .fault (leBytes 2 m.fio.badFrames))

/-- FIELD_BARRIER_FAULT (R299, R306): the field side latches every output off; a logic side that holds no latch of its own has REL
set already. -/
def fieldBarrierFault (m : Module) : Module :=
  let was := m.fio.fieldLatch || m.fio.latch
  let off := fun (x : FoSt) => { x with rxOn := false }
  let m := m.updFio fun s => { s with fieldLatch := true, rel := !s.latch, down := { s.down with fault := true, good := 0 },
                                      fo := Arr.mapIdx (fun _ x => off x) s.fo }
  (List.range 16).foldl (fun m n =>
    let m := foEmpty m n
    if was || (fo m n).latched then m else ashLatch m (144 + n) (m.rf (Reg.FIO_FO_FAULT n) 15 0)) m

/-- The logic side's barrier fault ends: the held levels follow the field side again, uncounted (R302), and the outputs stay
latched until the supply releases them (R299). -/
def logicBarrierEnd (m : Module) : Module :=
  let follow := fun (x : FiSt) => { x with level := x.lost.getD x.level, lost := none }
  if !m.fio.up.fault then m
  else m.updFio fun s => { s with up := { s.up with fault := false, bad := 0 }, vstate := .cut,
                                  fi := Arr.mapIdx (fun _ x => follow x) s.fi }

/-- The field side's latch ends once REL arrives after 16 good frames. -/
def fieldBarrierEnd (m : Module) : Module :=
  if m.fio.fieldLatch && m.fio.rel then
    m.updFio fun s => { s with fieldLatch := false, down := { s.down with fault := false, bad := 0 }, rel := false }
  else m

/-- BARRIER_RELEASE (R299): sixteen good frames have passed in one direction, and for the field side REL has come. -/
def barrierRelease (side : BarrierSide) (m : Module) : Module :=
  match side with
  | .logic => logicBarrierEnd m
  | .field => fieldBarrierEnd m

/-- A bad or missing upstream frame (R298, R299). -/
def upBad (m : Module) : Module :=
  let m := m.updFio fun s => { s with badFrames := satU 16 (s.badFrames + 1) }
  if 3 ≤ m.fio.up.bad then logicBarrierFault m else m

/-- The two bits of FO_STAT of output `n` (R297). -/
def foStat (bs : List Byte) (n : Nat) : Nat := bits (leAt bs 15 4) (2 * n + 1) (2 * n)

/-- What a good upstream frame that started at `s` says (R297, R301). -/
def upGood (m : Module) (s : Nat) (bs : List Byte) : Module :=
  let m := m.updFio fun x => { x with frameSeq := bits (byteAt bs 0) 7 4, volt := leAt bs 13 2 * 10,
                                      vstate := if x.vstate == .noData && !x.up.fault then .normal else x.vstate }
  let levels := leAt bs 1 4
  if m.fio.up.fault then
    let m := (List.range 32).foldl (fun m n =>
      let x := Arr.getD m.fio.fi n ⟨false, none, none⟩
      if (n < 8 ∧ tb (byteAt bs (5 + n)) 7) ∨ tb levels n ≠ x.lost.getD x.level then fiLose m n (tb levels n) else m) m
    if 16 ≤ m.fio.up.good then logicBarrierEnd m else m
  else
    let m := (List.range 8).foldl (fun m n =>
      let e := byteAt bs (5 + n)
      if tb e 7 then
        -- the level before the frame gives the edge's sense
        fiChange m n (!(Arr.getD m.fio.fi n ⟨false, none, none⟩).level) (fiStamp m n (s - frameTicks) (e % 128))
      else m.updFi n fun x => { x with level := tb levels n }) m
    let m := (List.range 24).foldl (fun m i => fiChange m (8 + i) (tb levels (8 + i)) s) m
    (List.range 16).foldl (fun m n =>
      if tb (leAt bs 19 2) n && !(fo m n).latched && !m.fio.latch && !m.fio.fieldLatch then
        let bit := if foStat bs n = 3 then 3 else if m.freeVal % 2 = 0 then 1 else 2
        foLatch (if foStat bs n = 3 then m else m.freed) n bit
      else m) m

/-- UPSTREAM_FRAME (R297 to R299, R301): the frame of the present interval has arrived, or is missing. -/
def upstreamFrame (frame : Option (List Byte)) (m : Module) : Module :=
  let s := m.mt / frameTicks * frameTicks
  let m := m.advanceTo (s + frameTicks)
  match frame with
  | none => upBad (m.updFio fun x => { x with up := { x.up with bad := x.up.bad + 1, good := 0 } })
  | some bs =>
    let (d, good) := m.fio.up.take (crc8 (bs.take 23) == byteAt bs 23) (bits (byteAt bs 0) 7 4)
    let m := m.updFio fun x => { x with up := d }
    if good then upGood m s bs else upBad m

/-- The edges of output `n` that the frame starting at `s` carries: those due 4 µs later (R304). -/
def foEdgeByte (m : Module) (n s : Nat) : Nat :=
  match targetIx (512 + n) with
  | none => 0
  | some k =>
    match (queueOf m k).find? fun e => decide (s + 2 * frameTicks ≤ e.mt ∧ e.mt < s + 3 * frameTicks) with
    | some e => 128 + min 79 ((e.mt - (s + 2 * frameTicks) + 5) / 10)
    | none => 0

/-- The output whose duty the next frame carries: one just changed, else the next in the cycle (R297). -/
def dutyTurn (m : Module) : Nat := (m.fio.dutyNew.head?).getD m.fio.dutyIdx

/-- Output `n` runs from its duty. -/
def foPwm (m : Module) (n : Nat) : Bool := (fo m n).claims.isEmpty && foDuty m n != 0 && foDuty m n != 65535

/-- The 24 bytes of the downstream frame that starts at `s` (R297, R298). -/
def downFrame (m : Module) (s : Nat) : List Byte :=
  let ix := dutyTurn m
  let on := bitMap 16 fun n => foDuty m n != 0
  let edges := fun (a n : Nat) => ((List.range n).map fun i => leBytes 1 (foEdgeByte m (a + i) s)).flatten
  let bs := leBytes 1 (s / frameTicks % 16 * 16 + 2 * b2n m.fio.rel + b2n (!m.fio.latch)) ++ leBytes 2 on
    ++ leBytes 2 (foDuty m ix) ++ edges 0 8 ++ edges 8 2 ++ edges 10 4 ++ edges 14 2
    ++ leBytes 1 (ix + 16 * b2n (foPwm m ix)) ++ leBytes 1 0
  bs ++ leBytes 1 (crc8 bs)

/-- DOWNSTREAM_FRAME (R297, R299): the next frame leaves; `arrives` says whether it reaches the field side unharmed. -/
def downstreamFrame (arrives : Bool) (m : Module) : Module :=
  let s := cdiv m.mt frameTicks * frameTicks
  let m := m.advanceTo s
  let frame := downFrame m s
  let ix := dutyTurn m
  let m := m.send .field frame
  let (d, good) := m.fio.down.take arrives (s / frameTicks % 16)
  let on := fun (n : Nat) => foDuty m n != 0
  let pwm := foPwm m ix
  let duty := foDuty m ix
  let m := m.updFio fun x => { x with down := d, dutyNew := x.dutyNew.drop 1,
                                      dutyIdx := if x.dutyNew.isEmpty then (ix + 1) % 16 else x.dutyIdx }
  if good then
    let take := fun (n : Nat) (x : FoSt) =>
      let x := { x with rxOn := on n && !m.fio.fieldLatch }
      if n = ix then { x with rxPwm := pwm, rxDuty := duty } else x
    let m := m.updFio fun x => { x with fo := Arr.mapIdx (fun n y => take n.val y) x.fo }
    if 16 < m.fio.down.good then fieldBarrierEnd m else m
  else if 3 ≤ m.fio.down.bad ∧ !m.fio.down.fault then fieldBarrierFault m else m

/-! ## The field supply (R308) -/

/-- VF_WARN. -/
def vfWarn (mv : Nat) (m : Module) : Module :=
  if m.fio.vstate = .normal ∧ mv < 18000 then
    let m := (m.enterPhase 3).updFio fun s => { s with vstate := .warn, volt := mv }
    fiMarked (ashPost (m.raise Reg.FIO_INT_STATUS 0) 0x0031 .power (leBytes 2 mv))
  else m

/-- VFIELD_NORMAL. -/
def vfieldNormal (mv : Nat) (m : Module) : Module :=
  if m.fio.vstate = .warn ∧ 18500 ≤ mv then fiUnmarked (m.updFio fun s => { s with vstate := .normal, volt := mv }) else m

/-- VF_CUT. -/
def vfCut (mv : Nat) (m : Module) : Module :=
  if (m.fio.vstate = .normal ∨ m.fio.vstate = .warn) ∧ mv < 15000 then
    let m := (m.enterPhase 3).updFio fun s => { s with vstate := .cut, volt := mv }
    let m := foLatchAll (m.raise Reg.FIO_INT_STATUS 1)
    fiMarked (ashPost m 0x0032 .power (leBytes 2 mv))
  else m

/-- VFIELD_RESTORE: 19.0 V reached in CUT starts the timer; below it in RESTORE the timer and READY are cleared. -/
def vfieldRestore (mv : Nat) (m : Module) : Module :=
  if m.fio.vstate = .cut ∧ 19000 ≤ mv then
    m.updFio fun s => { s with vstate := .restore, restoreFrom := m.mt, ready := false, volt := mv }
  else if m.fio.vstate = .restore ∧ mv < 19000 then
    m.updFio fun s => { s with vstate := .cut, ready := false, volt := mv }
  else m

/-- The latch is released: REL goes to the field side; a release needs the barrier free of fault. -/
def foRelease (m : Module) : Module :=
  fiUnmarked ((m.updFio fun s => { s with latch := false, ready := false, vstate := .normal, rel := s.fieldLatch }).raise
    Reg.FIO_INT_STATUS 2)

/-- FO_RELEASED: 10 ms after RESTORE began; under ACK the release waits for the command. -/
def foReleased (m : Module) : Module :=
  if m.fio.vstate = .restore ∧ !m.fio.ready then
    let m := (m.advanceTo (m.fio.restoreFrom + 10 * msTicks)).enterPhase 7
    if m.cb Reg.FIO_CFG 8 then (if m.fio.up.fault then m else foRelease m)
    else m.updFio fun s => { s with ready := true }
  else m

/-- ACK_RELEASE: FIO_CMD.ACK; before READY it is ignored. -/
def ackRelease (m : Module) : Module :=
  if m.fio.vstate = .restore ∧ m.fio.ready ∧ !m.fio.up.fault then foRelease m else m

/-- VF_OVER: VFIELD has risen above 32.0 V, or fallen back. -/
def vfOver (mv : Nat) (m : Module) : Module := m.updFio fun s => { s with vfOver := decide (32000 < mv), volt := mv }

/-! ## Analog inputs (R309 to R311) -/

/-- MODE of analog input `n` in force. -/
def aiMode (m : Module) (n : Nat) : Nat := m.cf (Reg.FIO_AI_CFG n) 1 0

/-- CODE of analog input `n`: the mean of the last 2^AVG conversions, or of those made since the restart (R310). -/
def aiCode (m : Module) (n : Nat) : Nat :=
  let c := (Arr.getD m.fio.ai n AiSt.reset).conv.take (2 ^ m.cf (Reg.FIO_AI_CFG n) 7 4)
  (rdiv (c.sum : Nat) c.length).toNat

/-- AI_CONVERSION (R309, R310): the sixteen codes of the next conversion, ready 600 ticks after its instant. A conversion that
another command has just passed over is still the next one. -/
def aiConversion (codes : Arr 16 Nat) (m : Module) : Module :=
  let next := m.fio.aiMt + 1600
  let s := if m.mt < next + 2200 then next else (m.mt - 600) / 1600 * 1600
  let m := m.advanceTo (s + 600)
  let put := fun (n : Fin 16) (x : AiSt) => { x with conv := (min 65535 (Arr.at' codes n) :: x.conv).take 256 }
  let m := m.updFio fun x => { x with aiMt := s, aiSeq := (x.aiSeq + 1) % 65536, ai := Arr.mapIdx put x.ai }
  (List.range 16).foldl (fun m n => feedLoops m [.ai] n fun l => { l with newVals := l.newVals + 1 }) m

/-- The conditions each MODE knows (R311). -/
def aiKnows (mode : Nat) (c : AiCond) : Bool :=
  match c with
  | .open_ => true
  | .short => mode == 3
  | .over_ => mode == 0 || mode == 1

/-- Set a live condition of an input. -/
def AiSt.put (x : AiSt) (c : AiCond) (b : Bool) : AiSt :=
  match c with
  | .open_ => { x with open_ := b }
  | .short => { x with short := b }
  | .over_ => { x with over_ := b }

/-- The FLAGS bit of a condition. -/
def aiBit : AiCond → Nat
  | .open_ => 0 | .over_ => 1 | .short => 2

/-- AI_FLAG (R311): a condition has held for 10 ms. -/
def aiFlag (n : Fin 16) (c : AiCond) (m : Module) : Module :=
  if aiKnows (aiMode m n.val) c then
    ((m.updAi n.val fun x => x.put c true).raise (Reg.FIO_AI_FLAGS n.val) (aiBit c)).raise Reg.FIO_INT_STATUS 5
  else m

/-- AI_FLAG_CLEAR (R311): a condition has been absent for 10 ms. -/
def aiFlagClear (n : Fin 16) (c : AiCond) (m : Module) : Module := m.updAi n.val fun x => x.put c false

/-- BURDEN_OPEN (R311): a current input above 30.0 mA. -/
def burdenOpen (n : Fin 16) (m : Module) : Module :=
  if aiMode m n.val = 1 then
    ((m.updAi n.val fun x => { x with burdenOpen := some m.mt }).raise (Reg.FIO_AI_FLAGS n.val) 3).raise Reg.FIO_INT_STATUS 5
  else m

/-- BURDEN_RECONNECT (R311). -/
def burdenReconnect (n : Fin 16) (m : Module) : Module :=
  match (Arr.at' m.fio.ai n).burdenOpen with
  | some t => (m.advanceTo (t + 100 * msTicks)).updAi n.val fun x => { x with burdenOpen := none }
  | none => m

/-! ## Sensor supplies (R313) -/

/-- SS_OC: a supply at its limit for 1 ms. -/
def ssOc (n : Fin 8) (m : Module) : Module :=
  if tb (m.rf Reg.FIO_SS_CTL 7 0) n.val ∧ !tb m.fio.ssLatched n.val then
    ((m.updFio fun s => { s with ssLatched := setBitN s.ssLatched n.val }).raise Reg.FIO_SS_FAULT n.val).raise
      Reg.FIO_INT_STATUS 6
  else m

/-- SS_OC_CLEAR: W1C of OC releases a supply latched off. -/
def ssOcClear (mask : Word) (m : Module) : Module :=
  let m := m.clrR Reg.FIO_SS_FAULT (mask &&& 0xFF)
  m.updFio fun s => { s with ssLatched := s.ssLatched &&& m.rf Reg.FIO_SS_FAULT 7 0 }

/-- SENSOR_SUPPLY_CONTROL: a write of FIO_SS_CTL acts in its tick. -/
def sensorSupplyControl (w : Word) (m : Module) : Module := m.wr Reg.FIO_SS_CTL (w &&& 0xFF)

end Sys2Proof.Machine
end

