-- ==== Sys2Proof/Machine/Can.lean ====
section
/-! DEFINITION. The CAN controllers: enabling, message objects, arbitration, error states, loop values (16). -/

namespace Sys2Proof.Machine

/-- Controller `c`. -/
def cn (m : Module) (c : Fin 4) : CnSt := Arr.at' m.can.cn c

/-- Change controller `c`. -/
def Module.updCn (m : Module) (c : Fin 4) (f : CnSt → CnSt) : Module :=
  { m with can := { m.can with cn := Arr.upd m.can.cn c f } }

/-- Object `i` of controller `c`. -/
def obj (m : Module) (c : Fin 4) (i : Fin 128) : ObjSt := Arr.at' (cn m c).obj i

/-- Change object `i` of controller `c`. -/
def Module.updObj (m : Module) (c : Fin 4) (i : Fin 128) (f : ObjSt → ObjSt) : Module :=
  m.updCn c fun x => { x with obj := Arr.upd x.obj i f }

/-- An interrupt flag of a controller. -/
def cnInt (m : Module) (c : Fin 4) (b : Nat) : Module := m.raise (Reg.CAN_CN_INT_STATUS c.val) b

/-- A flag of an object. -/
def objFlag (m : Module) (c : Fin 4) (i : Fin 128) (b : Nat) : Module := m.raise (Reg.CAN_OBJ_FLAGS c.val i.val) b

/-- TXSTATE codes (R341). -/
def txIdle : Nat := 0
def txPending : Nat := 1
def txDone : Nat := 2
def txNoAck : Nat := 3
def txFailed : Nat := 4
def txAborted : Nat := 5

/-! ## Ownership and the tunnel objects (R345, R348) -/

/-- The selector of an object in a LOOP record (R34). -/
def canSel (c : Fin 4) (i : Fin 128) : Nat := c.val * 256 + i.val

/-- The loop that owns an object, for feedback. -/
def objFeeds (m : Module) (c : Fin 4) (i : Fin 128) : Option LoopRec :=
  (m.recs.loops.find? fun l => l.2.fbKind == .can && l.2.fbIndex == canSel c i).map (·.2)

/-- The loop that owns an object, for output. -/
def objDriven (m : Module) (c : Fin 4) (i : Fin 128) : Option LoopRec :=
  (m.recs.loops.find? fun l => l.2.outKind == .can && l.2.outIndex == canSel c i).map (·.2)

/-- OWNED. -/
def objOwned (m : Module) (c : Fin 4) (i : Fin 128) : Bool := (objFeeds m c i).isSome || (objDriven m c i).isSome

/-- TUN_EN of a controller. -/
def tunEn (m : Module) (c : Fin 4) : Bool := bit (m.rd (Reg.CAN_CN_TUN_REQ c.val)) 31

/-- An object that serves the tunnel. -/
def objTunnel (m : Module) (c : Fin 4) (i : Fin 128) : Bool := tunEn m c && decide (126 ≤ i.val)

/-- A field of an object's CFG. -/
def objCfg (m : Module) (c : Fin 4) (i : Fin 128) (h l : Nat) : Nat := m.rf (Reg.CAN_OBJ_CFG c.val i.val) h l

/-- DIR, forced on an owned object: 1 receive, 2 transmit. -/
def objDir (m : Module) (c : Fin 4) (i : Fin 128) : Nat :=
  if (objFeeds m c i).isSome then 1 else if (objDriven m c i).isSome then 2 else objCfg m c i 31 30

/-- Bytes of a DLC code (R336). -/
def dlcBytes (fdf : Bool) (dlc : Nat) : Nat :=
  if dlc ≤ 8 then dlc
  else if !fdf then 8
  else if dlc = 9 then 12 else if dlc = 10 then 16 else if dlc = 11 then 20 else if dlc = 12 then 24
  else if dlc = 13 then 32 else if dlc = 14 then 48 else 64

/-- Byte `j` of an object's data. -/
def objByte (m : Module) (c : Fin 4) (i : Fin 128) (j : Nat) : Nat :=
  bits (m.rd (Reg.CAN_OBJ_DATA c.val i.val (j / 4))).toNat (8 * (j % 4) + 7) (8 * (j % 4))

/-- Write byte `j` of an object's data. -/
def setObjByte (m : Module) (c : Fin 4) (i : Fin 128) (j v : Nat) : Module :=
  if j < 64 then m.setF (Reg.CAN_OBJ_DATA c.val i.val (j / 4)) (8 * (j % 4) + 7) (8 * (j % 4)) v else m

/-- Write bytes from `j` on. -/
def setObjBytes (m : Module) (c : Fin 4) (i : Fin 128) : Nat → List Byte → Module
  | _, [] => m
  | j, b :: bs => setObjBytes (setObjByte m c i j b.toNat) c i (j + 1) bs

/-! ## Bit timing and enabling (R331, R332) -/

/-- The settings of a controller pass R331. -/
def timingOk (m : Module) (c : Fin 4) : Bool :=
  let n := Reg.CAN_CN_NBT c.val
  let d := Reg.CAN_CN_DBT c.val
  let tq := 1 + (m.rf n 15 8 + 1) + (m.rf n 22 16 + 1)
  let dtq := 1 + (m.rf d 12 8 + 1) + (m.rf d 19 16 + 1)
  let nom := (m.rf n 7 0 + 1) * tq
  let dat := (m.rf d 4 0 + 1) * dtq
  decide (80 ≤ nom ∧ nom ≤ 8000 ∧ 16 ≤ dat ∧ dat ≤ nom ∧ 8 ≤ tq ∧ 5 ≤ dtq ∧ m.rf n 30 24 ≤ m.rf n 22 16
    ∧ m.rf d 27 24 ≤ m.rf d 19 16 ∧ m.rf (Reg.CAN_CN_CFG c.val) 30 29 ≤ 1)

/-- EN of a controller. -/
def cnEn (m : Module) (c : Fin 4) : Bool := bit (m.rd (Reg.CAN_CN_CFG c.val)) 31

/-- The holding registers and the Ash read port of a tunnel return to 0 (R16, R356). -/
def clearTunnelPort (m : Module) (c : Fin 4) : Module :=
  let ix := 12 + c.val
  { m with regs := { m.regs with hold := m.regs.hold.filter fun e => e.1 / 2 ^ 26 != ix },
           ash := { m.ash with ports := m.ash.ports.filter (·.1 != ix) } }

/-- EN is written 0: the frame in progress completes, the bus is left, PENDING objects are ABORTED (R332). -/
def cnDisable (m : Module) (c : Fin 4) : Module :=
  let stop := fun (o : ObjSt) => if o.tx = txPending then { o with tx := txAborted, aborting := false } else o
  let m := m.updCn c fun x => { x with phase := .disabled, obj := Arr.mapIdx (fun _ o => stop o) x.obj, tunReq := [] }
  clearTunnelPort m c

/-- A write of CAN_CN_CFG (R332, R334). -/
def canCfgWrite (c : Fin 4) (w : Word) (m : Module) : Module :=
  let r := Reg.CAN_CN_CFG c.val
  let old := m.rd r
  let m := { m with can := { m.can with term := if bit w 26 then setBitN m.can.term c.val
                                                else if tb m.can.term c.val then m.can.term - 2 ^ c.val else m.can.term } }
  let m := m.setBit r 26 (bit w 26)
  if bit old 31 then
    let m := if (w ^^^ old) &&& 0x78000000 = 0 then m else cnInt m c 9
    if bit w 31 then m else cnDisable (m.setBit r 31 false) c
  else
    let m := m.setF r 30 27 (fld w 30 27)
    if !bit w 31 then m
    else if timingOk m c then (m.setBit r 31 true).updCn c fun x => { x with phase := .integrating, tec := 0, recv := 0 }
    else cnInt m c 9

/-- A write of NBT or DBT (R332). -/
def canTimingWrite (c : Fin 4) (off : Nat) (w : Word) (m : Module) : Module :=
  if cnEn m c then cnInt m c 9 else m.wr off w

/-- CONTROLLER_ENABLE: a write of CFG with EN = 1. -/
def controllerEnable (c : Fin 4) (w : Word) (m : Module) : Module := canCfgWrite c (w ||| 0x80000000) m

/-- CONTROLLER_DISABLE: a write of CFG with EN = 0. -/
def controllerDisable (c : Fin 4) (w : Word) (m : Module) : Module := canCfgWrite c (w &&& 0x7FFFFFFF) m

/-- BUS_INTEGRATION (R332). -/
def busIntegration (c : Fin 4) (m : Module) : Module :=
  if (cn m c).phase = .integrating then m.updCn c fun x => { x with phase := .active, tec := 0, recv := 0 } else m

/-! ## Error states (R343, R344) -/

/-- The controller takes part on the bus. -/
def cnOnBus (m : Module) (c : Fin 4) : Bool := (cn m c).phase == .active || (cn m c).phase == .passive

/-- LISTEN mode (R333). -/
def cnListens (m : Module) (c : Fin 4) : Bool := m.rf (Reg.CAN_CN_CFG c.val) 30 29 == 1

/-- WARNING. -/
def CnSt.warning (x : CnSt) : Bool := decide (96 ≤ x.tec ∨ 96 ≤ x.recv)

/-- The counters have become `tec` and `recv`: warning, passive and bus-off (R343). -/
def setCounters (m : Module) (c : Fin 4) (tec recv : Nat) : Module :=
  let old := cn m c
  let ph : CanPhase := if 255 < tec then .busOff else if 128 ≤ tec ∨ 128 ≤ recv then .passive else .active
  let m := m.updCn c fun x => { x with tec := tec, recv := recv, phase := ph }
  let warned := !old.warning && (cn m c).warning
  let m := if warned || (old.phase == .active && ph == .passive) then cnInt m c 0 else m
  if ph = .busOff then cnInt m c 1 else m

/-- An error frame is counted. -/
def countErr (m : Module) (c : Fin 4) : Module := m.addSat (Reg.CAN_CN_COUNT c.val) 15 0 1

/-- ERROR_FRAME (R343): an error seen while receiving; `primary` when a dominant bit followed the error flag. -/
def errorFrame (c : Fin 4) (primary : Bool) (m : Module) : Module :=
  if !cnOnBus m c then m
  else
    let m := countErr m c
    if cnListens m c then m
    else
      let x := cn m c
      setCounters m c x.tec (if 255 < x.recv + (if primary then 8 else 1) then 255 else x.recv + (if primary then 8 else 1))

/-- A frame received without error lowers REC; above 127 it takes a value of 119 to 127 that ISO 11898-1 leaves open. -/
def recDown (m : Module) (c : Fin 4) : Module :=
  let x := cn m c
  if cnListens m c then m
  else if 127 < x.recv then setCounters m.freed c x.tec (119 + m.freeVal % 9)
  else setCounters m c x.tec (x.recv - 1)

/-- RECOVER (R344). -/
def canRecover (c : Fin 4) (m : Module) : Module :=
  if (cn m c).phase = .busOff then m.updCn c fun x => { x with phase := .recovering } else m

/-- RECOVERY_DONE (R344). -/
def recoveryDone (c : Fin 4) (m : Module) : Module :=
  if (cn m c).phase = .recovering then
    cnInt (m.updCn c fun x => { x with phase := .active, tec := 0, recv := 0 }) c 2
  else m

/-! ## Reception (R337, R338, R346) -/

/-- A frame matches a receive object. -/
def objMatches (m : Module) (c : Fin 4) (i : Fin 128) (f : CanFrame) : Bool :=
  objDir m c i == 1 && !objTunnel m c i && (objCfg m c i 27 27 == 1) == f.ide
    && (f.id ^^^ m.rf (Reg.CAN_OBJ_ID c.val i.val) 28 0) &&& m.rf (Reg.CAN_OBJ_MASK c.val i.val) 28 0 == 0
    && (objCfg m c i 26 26 == 0 || (objCfg m c i 29 29 == 1) == f.fdf)

/-- The frame is a request to the tunnel (R348). -/
def tunnelTakes (m : Module) (c : Fin 4) (f : CanFrame) : Bool :=
  tunEn m c && bit (m.rd (Reg.CAN_CN_TUN_REQ c.val)) 29 == f.ide && m.rf (Reg.CAN_CN_TUN_REQ c.val) 28 0 == f.id

/-- VAL_SIZE in bytes. -/
def valSize (m : Module) (c : Fin 4) (i : Fin 128) : Nat := if objCfg m c i 5 4 = 0 then 1 else if objCfg m c i 5 4 = 1 then 2 else 4

/-- The loop value of a frame's data (R345). -/
def loopValue (m : Module) (c : Fin 4) (i : Fin 128) (bs : List Byte) : Int :=
  let raw := sliceAt bs (objCfg m c i 13 8) (valSize m c i)
  let x := if objCfg m c i 0 0 = 1 then beNat raw else leNat raw
  if objCfg m c i 1 1 = 1 then sx (8 * valSize m c i) x else (x : Int)

/-- Store a frame in an object (R338, R346). -/
def storeFrame (m : Module) (c : Fin 4) (i : Fin 128) (f : CanFrame) : Module :=
  let len := dlcBytes f.fdf f.dlc
  let data := sliceAt f.data 0 len
  let was := m.rf (Reg.CAN_OBJ_FLAGS c.val i.val) 0 0 = 1
  let m := setObjBytes (m.updObj c i fun o => { o with rx := some f }) c i 0 data
  let m := if was then cnInt (objFlag m c i 1) c 4 else m
  let m := cnInt (objFlag m c i 0) c 3
  match objFeeds m c i with
  | none => m
  | some _ =>
    if objCfg m c i 13 8 + valSize m c i ≤ len then
      let v := loopValue m c i data
      feedLoops m [.can] (canSel c i) fun l => { l with canRaw := v, newVals := l.newVals + 1 }
    else objFlag m c i 3

/-- FRAME_RECEIVED (R337): a valid frame ends. -/
def frameReceived (c : Fin 4) (f : CanFrame) (m : Module) : Module :=
  if !cnOnBus m c then m
  else if f.fdf && m.rf (Reg.CAN_CN_CFG c.val) 28 28 == 0 then errorFrame c false m
  else
    let m := recDown m c
    if f.remote then m.addSat (Reg.CAN_CN_COUNT c.val) 31 16 1
    else if tunnelTakes m c f then m.updCn c fun x => { x with tunReq := x.tunReq ++ [f] }
    else match (List.finRange 128).find? fun i => objMatches m c i f with
      | some i => storeFrame m c i f
      | none => m.addSat (Reg.CAN_CN_COUNT c.val) 31 16 1

/-! ## Transmission (R340 to R343) -/

/-- ID and IDE under which an object sends. -/
def txId (m : Module) (c : Fin 4) (i : Fin 128) : Nat × Bool :=
  if objTunnel m c i then (m.rf (Reg.CAN_CN_TUN_RSP c.val) 28 0, bit (m.rd (Reg.CAN_CN_TUN_RSP c.val)) 29)
  else (m.rf (Reg.CAN_OBJ_ID c.val i.val) 28 0, objCfg m c i 27 27 == 1)

/-- The order of identifiers in arbitration: the 11 base bits, then an 11-bit identifier before a 29-bit one. -/
def arbKey (x : Nat × Bool) : Nat := x.1 / 2 ^ 18 * 2 ^ 19 + (if x.2 then 2 ^ 18 + x.1 % 2 ^ 18 else 0)

/-- The object whose frame is next on the bus: one whose ABORT waits for its own frame, else the winner (R340, R341). -/
def txWinner (m : Module) (c : Fin 4) : Option (Fin 128) :=
  let pend := (List.finRange 128).filter fun i => (obj m c i).tx == txPending
  match pend.find? fun i => (obj m c i).aborting with
  | some i => some i
  | none => pend.foldl (fun (b : Option (Fin 128)) i => match b with
    | none => some i
    | some j => if arbKey (txId m c i) < arbKey (txId m c j) then some i else b) none

/-- The frame an object sends, as the bytes put on record: identifier, IDE, DLC and data. -/
def txBytes (m : Module) (c : Fin 4) (i : Fin 128) : List Byte :=
  let (id, ide) := txId m c i
  let dlc := if objTunnel m c i then 8 else objCfg m c i 19 16
  let data := if objTunnel m c i then (cn m c).tunRsp
    else (List.range (dlcBytes (objCfg m c i 29 29 == 1) dlc)).map fun j => BitVec.ofNat 8 (objByte m c i j)
  leBytes 4 id ++ leBytes 1 (b2n ide) ++ leBytes 1 dlc ++ data

/-- RETRY_LIM of an object. -/
def retryLim (m : Module) (c : Fin 4) (i : Fin 128) : Nat := if objTunnel m c i then 3 else objCfg m c i 23 20

/-- The controller sends frames: on the bus and not in LISTEN. -/
def cnSends (m : Module) (c : Fin 4) : Bool := cnOnBus m c && !cnListens m c

/-- TRANSMISSION_DONE (R341): the frame on the bus is sent and acknowledged. -/
def transmissionDone (c : Fin 4) (m : Module) : Module :=
  match txWinner m c with
  | none => m
  | some i =>
    if !cnSends m c then m
    else
      let m := m.send (.can c) (txBytes m c i)
      let m := cnInt (m.updObj c i fun o => { o with tx := txDone, aborting := false }) c 5
      setCounters m c ((cn m c).tec - 1) (cn m c).recv

/-- FAILED_ATTEMPT (R341 to R343): the object's attempt ends in an error frame of kind `k`. -/
def failedAttempt (c : Fin 4) (k : CanFail) (m : Module) : Module :=
  match txWinner m c with
  | none => m
  | some i =>
    if !cnSends m c then m
    else
      let m := countErr m c
      let m := if k = .dataBit then cnInt (objFlag m c i 2) c 7 else m
      let o := obj m c i
      let n := o.retries + 1
      let over_ := decide (retryLim m c i < n)
      let end_ := if o.aborting then txAborted else if over_ then (if k = .ack then txNoAck else txFailed) else txPending
      let m := m.updObj c i fun o => { o with retries := n, tx := end_, aborting := false }
      let m := if over_ && !o.aborting then cnInt m c 6 else m
      let x := cn m c
      if k = .ack ∧ x.phase = .passive then m else setCounters m c (x.tec + 8) x.recv

/-- An object becomes PENDING (R340). -/
def makePending (m : Module) (c : Fin 4) (i : Fin 128) : Module :=
  if (obj m c i).tx = txPending then m
  else m.updObj c i fun o => { o with tx := txPending, retries := 0, aborting := false }

/-- TX_REQ (R340, R347). -/
def txReq (c : Fin 4) (i : Fin 128) (m : Module) : Module :=
  if objTunnel m c i then m
  else if (objDriven m c i).isSome then objFlag m c i 4
  else if objDir m c i = 2 then makePending m c i
  else m

/-- TX_ABORT (R341): `own` when it is written during the object's own frame. -/
def txAbort (c : Fin 4) (i : Fin 128) (own : Bool) (m : Module) : Module :=
  if objTunnel m c i then m
  else if (objDriven m c i).isSome then objFlag m c i 4
  else if (obj m c i).tx ≠ txPending then m
  else if own then m.updObj c i fun o => { o with aborting := true }
  else m.updObj c i fun o => { o with tx := txAborted, aborting := false }

/-- A write of an object's CFG, ID, MASK or DATA at `off` (R340, R345, R347, R348). -/
def objWrite (c : Fin 4) (i : Fin 128) (off : Nat) (w : Word) (m : Module) : Module :=
  let data := decide (Reg.CAN_OBJ_DATA c.val i.val 0 ≤ off)
  let mask := off == Reg.CAN_OBJ_MASK c.val i.val
  if objTunnel m c i then m
  else if ((obj m c i).tx == txPending && !mask) || (data && (objDriven m c i).isSome) then objFlag m c i 4
  else if off = Reg.CAN_OBJ_CFG c.val i.val ∧ objOwned m c i then
    m.wr off ((w &&& 0x3FFFFFFF) ||| (m.rd off &&& 0xC0000000))
  else m.wr off w

/-- The value of `n` bytes, low byte first, that an integer saturates to. -/
def satBytes (n : Nat) (signed : Bool) (u : Int) : Nat :=
  if signed then ((clampI (-(2 ^ (8 * n - 1) : Nat)) ((2 ^ (8 * n - 1) : Nat) - 1) u) % (2 ^ (8 * n) : Nat)).toNat
  else (clampI 0 ((2 ^ (8 * n) : Nat) - 1) u).toNat

/-- LOOP_OUTPUT_OBJECT (R347): a loop's output is written into its object, which is requested. -/
def loopObject (m : Module) (sel : Nat) (u : Int) : Module :=
  match fin? 4 (sel / 256), fin? 128 (sel % 256) with
  | some c, some i =>
    let n := valSize m c i
    let bs := leBytes n (satBytes n (objCfg m c i 1 1 == 1) u)
    let m := setObjBytes m c i (objCfg m c i 13 8) (if objCfg m c i 0 0 = 1 then bs.reverse else bs)
    makePending m c i
  | _, _ => m

/-- The controller of an output object does not carry frames (R347). -/
def canDead (m : Module) (sel : Nat) : Bool :=
  match fin? 4 (sel / 256) with
  | some c => match (cn m c).phase with
    | .disabled | .busOff | .recovering => true
    | .integrating | .active | .passive => false
  | none => true

/-- A write of CAN_CN_TUN_REQ (R349): TUN_EN on a controller whose tunnel objects a loop owns is refused. -/
def tunnelEnable (c : Fin 4) (w : Word) (m : Module) : Module :=
  let r := Reg.CAN_CN_TUN_REQ c.val
  if bit w 31 && (objOwned m c 126 || objOwned m c 127) then cnInt m c 9
  else
    let was := tunEn m c
    let m := m.wr r (w &&& 0xBFFFFFFF)
    if bit w 31 && !was then
      (m.updObj c 127 fun _ => ObjSt.reset).updCn c fun x => { x with tunReq := [], tunRsp := [] }
    else if was && !bit w 31 then
      clearTunnelPort ((m.updObj c 127 fun _ => ObjSt.reset).updCn c fun x => { x with tunReq := [], tunRsp := [] }) c
    else m

/-- A swap that makes tunnel objects loop-owned clears TUN_EN and drops the request in progress (R349). -/
def tunnelSwap (m : Module) (c : Fin 4) : Module :=
  if tunEn m c && (objOwned m c 126 || objOwned m c 127) then
    cnInt ((m.clrR (Reg.CAN_CN_TUN_REQ c.val) 0x80000000).updCn c fun x => { x with tunReq := [], tunRsp := [] }) c 9
  else m

end Sys2Proof.Machine
end

