-- ==== Sys2Proof/Machine/Exec.lean ====
section
/-! DEFINITION. The execution of committed edges on valves, load switches and field outputs, of marks and set-points, and
what a disarm makes of committed events (R99, R100 to R102, R112, R115, R116, R186, R201). -/

namespace Sys2Proof.Machine

/-! ## The 160 outputs as one kind, by target index k (HOB registers) -/

/-- A duty as a demand. -/
def dutyWant (d : Nat) : Want := if d = 0 then .off else if d = 65535 then .on else .pwm d

/-- What output `k` is asked for or driven at: the measure of NO_EFFECT (R116). -/
def outWant (m : Module) (k : Nat) : Want :=
  if k < 128 then wantOf (vc m k) else if k < 144 then dutyWant (lsDuty m (k - 128)) else dutyWant (foDuty m (k - 144))

/-- A first edge that finds output `k` so ends its event MISSED with OUTPUT_FAULT (R201, R306, R323). -/
def outBlocked (m : Module) (k : Nat) : Bool :=
  if k < 128 then blocked m k
  else if k < 144 then (ls m (k - 128)).latched || (ls m (k - 128)).limp.isSome || (ls m (k - 128)).heldUntil.isSome
  else foBlocked m (k - 144)

/-- A claim is added (R186). -/
def outAdd (m : Module) (k acc prof : Nat) : Module :=
  if k < 128 then m.updVc k fun x => { x with claims := x.claims ++ [(acc, prof)] }
  else if k < 144 then m.updLs (k - 128) fun x => { x with claims := x.claims ++ [acc] }
  else m.updFo (k - 144) fun x => { x with claims := x.claims ++ [acc] }

/-- A claim is removed (R186). -/
def outRemove (m : Module) (k acc : Nat) : Module :=
  if k < 128 then m.updVc k fun x => { x with claims := x.claims.filter (·.1 != acc) }
  else if k < 144 then m.updLs (k - 128) fun x => { x with claims := x.claims.filter (· != acc) }
  else m.updFo (k - 144) fun x => { x with claims := x.claims.filter (· != acc) }

/-- The claim set empties and the duty becomes 0: a CLOSE (R186). -/
def outClose (m : Module) (k : Nat) : Module :=
  if k < 128 then m.updVc k fun x => { x with claims := [], heldOffs := [], level := 0 }
  else if k < 144 then m.updLs (k - 128) fun x => { x with claims := [], level := 0 }
  else m.updFo (k - 144) fun x => { x with claims := [], level := 0 }

/-- The LEVEL duty (R186). -/
def outLevel (m : Module) (k d prof : Nat) : Module :=
  if k < 128 then m.updVc k fun x => { x with level := d, levelProf := prof }
  else if k < 144 then m.updLs (k - 128) fun x => { x with level := d }
  else m.updFo (k - 144) fun x => { x with level := d }

/-- The output follows what the edges of a tick have left; `old` is what it was before them. -/
def outReact (m : Module) (k : Nat) (old : Want) (oldDuty : Nat) : Module :=
  if outWant m k = old then m
  else if k < 128 then vcReact m k old
  else if k < 144 then lsReact m (k - 128) oldDuty
  else m.updFio fun s => { s with dutyNew := s.dutyNew ++ [k - 144] }

/-- A FIRE's own switch-off is held until the end of PEAK (R99); `now` when its switch-on has executed in this very tick,
so that the drive it calls for is still to start. -/
def holdsOff (m : Module) (k : Nat) (now : Bool) : Bool :=
  if k < 128 then
    let x := vc m k
    x.phase == .wait || x.phase == .boost || x.phase == .peak || x.startWait != .none || (now && x.phase != .hold)
  else false

/-! ## Edges -/

/-- Change the committed event with acceptance number `a`. -/
def updComm (m : Module) (a : Nat) (f : CommEv → CommEv) : Module :=
  { m with hob := { m.hob with committed := m.hob.committed.map fun c => if c.ev.acc = a then f c else c } }

/-- A valve keeps the delays of its committed edges for the applied map (R223). -/
def keepDelay (m : Module) (k : Nat) (e : CEdge) : Module :=
  if 128 ≤ k then m
  else match e.act with
    | .on => m.updVc k fun x => { x with dOn := some e.delay }
    | .fireOff | .closeOff => m.updVc k fun x => { x with dOff := some e.delay }
    | .duty d => m.updVc k fun x => if d = 0 then { x with dOff := some e.delay }
        else if x.level = 0 then { x with dOn := some e.delay } else x
    | .setpt _ | .mark => m

/-- The switch-off of a FIRE is held until the end of PEAK (R99). -/
def holdOff (m : Module) (k acc : Nat) : Module := m.updVc k fun x => { x with heldOffs := x.heldOffs ++ [acc] }

/-- What one edge does to the claim set and the duty, and whether its action is held (R99, R186). The switch-on of a FIRE
whose switch-off came before it is held off in its turn, unless the valve is past its peak. -/
def edgeAct (m : Module) (k : Nat) (c : CommEv) (e : CEdge) : Module × Bool :=
  match e.act with
  | .on =>
    if c.ev.op = .fire ∧ c.left = 1 then
      (if (vc m k).phase = .hold then m else holdOff (outAdd m k e.acc c.ev.profile) k e.acc, false)
    else (outAdd m k e.acc c.ev.profile, false)
  | .fireOff =>
    if !c.ran then (m, true)
    else if holdsOff m k (c.first == m.mt) then (holdOff m k e.acc, true)
    else (outRemove m k e.acc, false)
  | .closeOff => (outClose m k, false)
  | .duty d => (outLevel m k d c.ev.profile, false)
  | .setpt _ | .mark => (m, false)

/-- The actuation under way on valve `k` reached PEAK without its boost. -/
def skippedNow (m : Module) (k : Nat) : Bool :=
  decide (k < 128) && (vc m k).skipped && ((vc m k).phase == .peak || (vc m k).phase == .hold)

/-- Claims that stay on valve `k` once the held switch-offs act. -/
def claimsLeft (m : Module) (k : Nat) : Bool := (vc m k).claims.any fun c => !(vc m k).heldOffs.contains c.1

/-- One edge executes on output `k` (R112, R186). -/
def runEdge (k : Nat) (m : Module) (e : CEdge) : Module :=
  match m.hob.committed.find? (·.ev.acc == e.acc) with
  | none => m
  | some c =>
    let pre := !c.ran && e.act == .fireOff
    if !c.ran && !pre && outBlocked m k then missCommitted m e.acc rOutputFault
    else
      let old := outWant m k
      let (m, held) := edgeAct (keepDelay m k e) k c e
      let same := if held then claimsLeft m k else outWant m k == old
      let skip := skippedNow m k
      updComm m e.acc fun c => { c with ran := c.ran || !pre, left := c.left - 1, noEffect := c.noEffect || same,
                                        clipped := c.clipped || held, skipped := c.skipped || skip }

/-- The FIRED of an event whose last edge has run (R115, R116). -/
def fireDone (m : Module) (acc : Nat) : Module :=
  match m.hob.committed.find? (·.ev.acc == acc) with
  | none => m
  | some c =>
    if c.left ≠ 0 then m
    else
      let m := { m with hob := { m.hob with committed := m.hob.committed.filter (·.ev.acc != acc) } }
      finalNote m c.ev kFired 0
        (noteFlags m c.ev.cold c.ev.replaced c.ev.coast + b2n c.clipped + 4 * b2n c.skipped + 64 * b2n c.noEffect) c.first

/-- The MT of the first edge waiting for target `k`. -/
def headMt (m : Module) (k : Nat) : Option Nat :=
  match fin? 256 k with
  | some i => ((queueOf m i).map (·.mt)).min?
  | none => none

/-- The earliest edge among targets `lo` to `lo + n - 1`: its target, the lowest of equals, and its MT. -/
def firstEdge (m : Module) (lo n : Nat) : Option (Nat × Nat) :=
  (List.range n).foldl (fun (b : Option (Nat × Nat)) i =>
    match headMt m (lo + i) with
    | none => b
    | some t => match b with
      | none => some (lo + i, t)
      | some (_, t') => if t < t' then some (lo + i, t) else b) none

/-- Take the edges of target `k` that `f` selects out of its queue, in order of execution. -/
def takeEdges (m : Module) (k : Nat) (f : CEdge → Bool) : List CEdge × Module :=
  match fin? 256 k with
  | none => ([], m)
  | some i =>
    ((queueOf m i).filter f, { m with hob := { m.hob with queues := Arr.upd m.hob.queues i fun q => q.filter fun e => !f e } })

/-- Outputs by target index; loops and marks follow them. -/
def outTargets : Nat := 160

/-- EDGE_EXECUTION (R112): the edges of the next MT at which an output channel has one, on the first such channel. -/
def edgeExecution (m : Module) : Module :=
  match firstEdge m 0 outTargets with
  | none => m
  | some (k, t) =>
    let m := (m.advanceTo t).enterPhase 7
    let old := outWant m k
    let oldDuty := if k < 144 then lsDuty m (k - 128) else 0
    let (es, m) := takeEdges m k fun e => e.mt == t
    let m := es.foldl (runEdge k) m
    let m := outReact m k old oldDuty
    es.foldl (fun m e => fireDone m e.acc) m

/-- Insert an edge by acceptance number. -/
def insAcc (x : CEdge) : List CEdge → List CEdge
  | [] => [x]
  | y :: ys => if x.acc < y.acc then x :: y :: ys else y :: insAcc x ys

/-- The edges of targets `lo` to `lo + n - 1` that `f` selects leave their queues, in order of acceptance. -/
def takeAllEdges (m : Module) (lo n : Nat) (f : CEdge → Bool) : List CEdge × Module :=
  (List.range n).foldl (fun (a : List CEdge × Module) i =>
    let (es, m) := takeEdges a.2 (lo + i) f
    (es.foldl (fun l e => insAcc e l) a.1, m)) ([], m)

/-- A mark or set-point event is reported FIRED with `field` as its MT. -/
def firedAt (m : Module) (field acc : Nat) : Module :=
  fireDone (updComm m acc fun c => { c with ran := true, left := 0, first := field }) acc

/-- MARK_INSTANT (R101, R112): the marks of the next MT at which one is due. -/
def markInstant (m : Module) : Module :=
  match firstEdge m 192 64 with
  | none => m
  | some (_, t) =>
    let m := (m.advanceTo t).enterPhase 7
    let (es, m) := takeAllEdges m 192 64 fun e => e.mt == t
    es.foldl (fun m e => firedAt m t e.acc) m

/-- The SETPT events due at a sample of loop `n` at `t`: the last VALUE, and the module with each reported (R100, R233). -/
def takeSetpts (m : Module) (n t : Nat) : Option Word × Module :=
  let (es, m) := takeEdges m (160 + n) fun e => decide (e.mt ≤ t)
  let es := es.foldl (fun l e => insAcc e l) []
  let m := es.foldl (fun m e => firedAt m t e.acc) m
  ((es.filterMap fun e => match e.act with
    | .setpt v => some v
    | _ => none).getLast?, m)

/-- A disarm empties the commit queues of the outputs (R102): an event whose first edge has run is FIRED with NO_EFFECT,
any other is MISSED with DISARMED. -/
def disarmEvents (m : Module) : Module :=
  let (es, m) := takeAllEdges m 0 outTargets fun _ => true
  es.foldl (fun m e => match m.hob.committed.find? (·.ev.acc == e.acc) with
    | none => m
    | some c =>
      if c.ran then fireDone (updComm m e.acc fun c => { c with left := 0, noEffect := true }) e.acc
      else missCommitted m e.acc rDisarmed) m

end Sys2Proof.Machine
end

