-- ==== Sys2Proof/Machine/FlueCore.lean ====
section
/-! DEFINITION. What other units need of the Flue chain: this module's ID and election key, routes, and the sending of
frames (R274 to R276, R279, R280, R282). -/

namespace Sys2Proof.Machine

/-- Frame types (R275). -/
def ftLink : Nat := 1
def ftTime : Nat := 2
def ftPresence : Nat := 3
def ftAxis : Nat := 4
def ftBatch : Nat := 5
def ftReturn : Nat := 6
def ftMgmt : Nat := 7
def ftImage : Nat := 8

/-- This module's node ID (R279). -/
def nodeId (m : Module) : Nat :=
  if m.cf Reg.FLUE_CFG 31 30 = 1 then m.cf Reg.FLUE_CFG 15 0 else (m.cf Reg.FLUE_CFG 15 0 + m.flue.pos) % 65536

/-- CLASS of this module (R282); a P variant is always class 2 (R3). -/
def electionClass (m : Module) : Nat :=
  if m.variant = .p then 2
  else match m.gnss.tstate with
    | .locked => 0
    | .holdover => 1
    | _ => 2

/-- This module's election key. -/
def ownKey (m : Module) : ElKey := ⟨electionClass m, m.cf Reg.FLUE_CFG 23 16, m.serial.toNat⟩

/-- One key beats another: the lower value of the first field that differs wins (R282). -/
def ElKey.beats (a b : ElKey) : Bool :=
  decide (a.cls < b.cls ∨ (a.cls = b.cls ∧ (a.prio < b.prio ∨ (a.prio = b.prio ∧ a.serial < b.serial))))

/-- The other port of the two. -/
def otherPort (q : Fin 2) : Fin 2 := if q = 0 then 1 else 0

/-- Port `q`. -/
def fport (m : Module) (q : Fin 2) : FPortSt := Arr.at' m.flue.port q

/-- Change port `q`. -/
def Module.updFPort (m : Module) (q : Fin 2) (f : FPortSt → FPortSt) : Module :=
  { m with flue := { m.flue with port := Arr.upd m.flue.port q f } }

/-- A port carries frames other than LINK: UP and not the gap (R277). -/
def carries (m : Module) (q : Fin 2) : Bool := (fport m q).up && !(fport m q).gap

/-- The route to a node, if one is known and lies behind a port that is UP (R281). -/
def routeTo (m : Module) (id : Nat) : Option Route := m.flue.routes.find? fun r => r.id == id && carries m r.port

/-- This module yields its ID to another with the same one (R280). -/
def yieldsId (m : Module) : Bool := m.flue.dup && decide (m.flue.dupSerial < m.serial.toNat)

/-- A Flue frame (R274). -/
def flueFrame (ty src dest hops seq : Nat) (payload : List Byte) : List Byte :=
  let bs := leBytes 1 ty ++ leBytes 1 0 ++ leBytes 2 src ++ leBytes 2 dest ++ leBytes 2 payload.length ++ leBytes 2 hops
    ++ leBytes 2 0 ++ leBytes 4 seq ++ payload
  bs ++ leBytes 4 (crc32 bs)

/-- A frame leaves port `q` and is counted. -/
def flueOut (m : Module) (q : Fin 2) (frame : List Byte) : Module :=
  (m.send (.flue q) frame).count (Reg.FLUE_PORT_TX_FRAMES q.val)

/-- The next SEQ of a TYPE, and the module that has taken it (R274). -/
def flueSeq (m : Module) (ty : Nat) : Nat × Module :=
  let s := (Sparse.get (fun _ => 0) m.flue.seq ty + 1) % 2 ^ 32
  (s, { m with flue := { m.flue with seq := Sparse.set (fun _ => 0) m.flue.seq ty s } })

/-- Broadcast a frame of this module on every port that carries frames. -/
def flueBroadcast (m : Module) (ty : Nat) (payload : List Byte) : Module :=
  let (s, m) := flueSeq m ty
  let frame := flueFrame ty (nodeId m) 0 0 s payload
  ([0, 1] : List (Fin 2)).foldl (fun m q => if carries m q then flueOut m q frame else m) m

/-- Send a unicast frame of this module; without a route, or while the ID is yielded, it is not sent
(R276, R280). -/
def flueUnicast (m : Module) (ty dest : Nat) (payload : List Byte) : Module :=
  match routeTo m dest with
  | some r =>
    if yieldsId m then m
    else
      let (s, m) := flueSeq m ty
      flueOut m r.port (flueFrame ty (nodeId m) dest 0 s payload)
  | none => m

end Sys2Proof.Machine
end

