-- ==== Sys2Proof/Machine/GnssTime.lean ====
section
/-! DEFINITION. GPS time and UTC: the time mapping, its uncertainty, slew and step, and the time states (R267 to R271). -/

namespace Sys2Proof.Machine

/-- Change the receiver. -/
def Module.updGnss (m : Module) (f : GnssSt → GnssSt) : Module := { m with gnss := f m.gnss }

/-- A change of antenna or time state, and the like, sets flag `i`. -/
def gnssInt (m : Module) (i : Nat) : Module := m.raise Reg.GNSS_INT_STATUS i

/-! ## The mapping (R267, R271). Time is counted in units of 5·10^-13 ns -/

/-- The unit in one ns, and in half a tick. -/
def nsQ : Int := 2000000000000
def halfTickQ : Int := 2500000000000

/-- How much of a slew of error `e` is done `n` ticks after its start: 100 ns per second of MT (R271). -/
def slewDone (e : Int) (n : Nat) : Int := if (n : Int) * 500000 < e.natAbs then sgn e * (n * 500000 : Nat) else e

/-- GPS time of the mapping at MT `t`. -/
def gpsQ (m : Module) (t : Nat) : Int :=
  let g := m.gnss.map.g0 + ((t : Int) - m.gnss.map.m0) * 5 * (1000000000000 + m.gnss.map.y)
  match m.gnss.slew with
  | some (e, since) => g + slewDone e (t - since)
  | none => g

/-- GPS time in whole ns. -/
def gpsNs (m : Module) (t : Nat) : Int := rdiv (gpsQ m t) nsQ.toNat

/-- The error still to be slewed or stepped, in ns (GNSS_TP_OFFSET). -/
def slewLeft (m : Module) : Int :=
  match m.gnss.slew, m.gnss.step with
  | some (e, since), _ => rdiv (e - slewDone e (m.mt - since)) nsQ.toNat
  | none, some (e, _) => rdiv e nsQ.toNat
  | none, none => 0

/-- The receiver's time is known (R269), and UTC with it. -/
def timeKnown (m : Module) : Bool := m.gnss.tstate != .none || (m.time.src == .chain && m.flue.info.tstate != 0)
def utcKnown (m : Module) : Bool := timeKnown m && m.gnss.leapKnown

/-- UTC in ms since 1970 at MT `t`: GPS time counts from 1980-01-06 00:00. -/
def utcMs (m : Module) (t : Nat) : Nat :=
  ((gpsQ m t / (nsQ * 1000000)) + 315964800000 - (m.gnss.leap : Int) * 1000).toNat

/-- UTC in seconds, when it is known. -/
def utcNow (m : Module) : Option Nat := if utcKnown m then some (utcMs m m.mt / 1000) else none

/-- GPS week, and ms of the week. -/
def gpsWeek (m : Module) (t : Nat) : Nat := (gpsQ m t / (nsQ * 604800000000000)).toNat
def gpsTowMs (m : Module) (t : Nat) : Nat := (gpsQ m t / (nsQ * 1000000) % 604800000).toNat

/-! ## Uncertainty (R270) -/

/-- U(t) after `n` ticks, as a multiple of 1/(64·10^20) ns: U0 + F0·t + D·t²/2, F0 in 0.1 ppb and D in 10^-13 /s. -/
def uncNum (m : Module) (n : Nat) : Nat :=
  m.gnss.u0 * 6400000000000000000000 + m.cf Reg.GNSS_HOLD_CFG 15 8 * n * 1600000000000
    + m.cf Reg.GNSS_HOLD_CFG 7 0 * n * n * 2

/-- GNSS_TP_UNC: ns, saturating; the uncertainty of the last disciplining solution while time is LOCKED. -/
def tpUnc (m : Module) : Nat :=
  match m.gnss.tstate with
  | .none => 0
  | .locked => satU 32 m.gnss.u0
  | .holdover | .free => satU 32 ((uncNum m (m.mt - m.gnss.discMt) + 3200000000000000000000) / 6400000000000000000000)

/-! ## States (R269) -/

/-- This module disciplines its own time: it is on no chain, or its master (R267). -/
def ownTime (m : Module) : Bool := m.flue.fstate == .alone || m.flue.fstate == .master

/-- TIME_SRC as the receiver's time state gives it (R267). -/
def srcOf : TState → TimeSrc
  | .locked => .gnss
  | .holdover => .holdover
  | .none | .free => .free

/-- TIME_SRC: the chain in SYNC, SLEW and HOLDOVER, otherwise as the receiver's time state has it (R267, R287). -/
def setTimeSrc (m : Module) : Module :=
  let chain := m.flue.fstate == .sync || m.flue.fstate == .slew || m.flue.fstate == .holdover
  { m with time := { m.time with src := if chain then .chain else srcOf m.gnss.tstate } }

/-- A change of time state. -/
def setTState (m : Module) (s : TState) (reason : Nat) : Module :=
  if m.gnss.tstate = s then m
  else
    let m := m.updGnss fun g => { g with tstate := s, reason := reason, rejects := 0, agree := [] }
    gnssInt (setTimeSrc m) 1

/-- The mapping is set to GPS time `g` (in ns) at MT `t`, with rate `y` (R267). -/
def setMapping (m : Module) (t : Nat) (g y : Int) : Module :=
  m.updGnss fun x => { x with map := ⟨t, g * nsQ, y⟩, slew := none, step := none }

/-- A solution disciplines time (R267): while a slew runs, the mapping keeps its place and the error is measured anew. -/
def discipline (m : Module) (t : Nat) (g y : Int) (unc : Nat) : Module :=
  let m := match m.gnss.slew, m.gnss.step with
    | some _, _ => let now := gpsQ m t
                   m.updGnss fun x => { x with map := ⟨t, now, y⟩, slew := some (g * nsQ - now, t) }
    | none, some s => let now := gpsQ m t
                      m.updGnss fun x => { x with map := ⟨t, now, y⟩, step := some (g * nsQ - now, s.2) }
    | none, none => setMapping m t g y
  m.updGnss fun x => { x with u0 := unc, discMt := t }

/-- Return to LOCKED (R271): slew or step by RETURN and the size of the error. -/
def timeReturn (m : Module) (t : Nat) (g y : Int) (unc : Nat) : Module :=
  let now := gpsQ m t
  let e := g * nsQ - now
  let ret := m.cf Reg.GNSS_TP_CFG 28 27
  let step := ret == 2 || (ret == 0 && decide (1000000 * nsQ < e.natAbs))
  let m := setTState m .locked 0
  m.updGnss fun x => { x with map := ⟨t, now, y⟩, u0 := unc, discMt := t, slew := if step then none else some (e, t),
                              step := if step then some (e, false) else none }

/-- The first MT from `lo` on, within 2^63 ticks, at which `f` holds. -/
def firstMt (f : Nat → Bool) (lo : Nat) : Nat := searchFrom f 63 lo

/-- TIME_HOLDOVER (R269): 2 s after the last solution that disciplined time. -/
def timeHoldover (m : Module) : Module :=
  if m.gnss.tstate = .locked then setTState (m.advanceTo (m.gnss.discMt + 2 * secTicks)) .holdover 1 else m

/-- TIME_FREE (R269): the uncertainty exceeds HOLD_UNC_MAX. -/
def timeFree (m : Module) : Module :=
  if m.gnss.tstate = .holdover then
    let lim := m.cf Reg.GNSS_HOLD_CFG 31 16 * 1000 * 6400000000000000000000
    if uncNum m (2 ^ 63) ≤ lim then m
    else setTState (m.advanceTo (m.gnss.discMt + firstMt (fun n => decide (lim < uncNum m n)) 0)) .free m.gnss.reason
  else m

/-- SLEW_DONE (R271): the remaining error falls below one tick. -/
def slewEnd (m : Module) : Module :=
  match m.gnss.slew with
  | none => m
  | some (e, since) =>
    let n := if e.natAbs < (2 * halfTickQ).toNat then 0 else (e.natAbs - (2 * halfTickQ).toNat) / 500000 + 1
    let m := m.advanceTo (since + n)
    let t := m.mt
    let now := gpsQ m t
    m.updGnss fun x => { x with map := ⟨t, now, x.map.y⟩, slew := none }

/-! ## The time pulse (R268, R271) -/

/-- The mapping that the next pulse follows: the corrected one once the announcing pulse has gone. -/
def pulseMap (m : Module) : Module :=
  match m.gnss.step with
  | some (e, true) => m.updGnss fun x => { x with map := { x.map with g0 := x.map.g0 + e }, step := none }
  | _ => m

/-- The pulse follows GNSS_TP_CFG while the module's own receiver disciplines its time, otherwise FLUE_TP_CFG (R289). -/
def ownPulse (m : Module) : Bool := ownTime m && m.variant == .g
def pulseCfg (m : Module) : Word := m.cfg (if ownPulse m then Reg.GNSS_TP_CFG else Reg.FLUE_TP_CFG)

/-- DELAY in the unit of the mapping. -/
def pulseDelay (m : Module) : Int := sx 16 (fld (pulseCfg m) 15 0) * nsQ

/-- Second (in ns units) of the pulse that follows MT `t`, and the tick nearest to it. -/
def pulseAt (m : Module) : Int × Nat :=
  let sec := nsQ * 1000000000
  let d := pulseDelay m
  let from_ := if m.mt = m.gnss.secMt ∧ m.gnss.secMt ≠ 0 then m.mt + 1 else m.mt
  let k := (gpsQ m from_ + halfTickQ - d - 1) / sec + 1
  (k, from_ + searchFrom (fun n => decide (k * sec + d ≤ gpsQ m (from_ + n) + halfTickQ)) 40 0)

/-- A pulse is driven (R268, R289): by the own receiver unless time is NONE, or FREE under FREE_OFF; by the chain only
while the master's time is LOCKED or HOLDOVER. -/
def pulseOn (m : Module) : Bool :=
  bit (pulseCfg m) 31 &&
    (if ownPulse m then
      (match m.gnss.tstate with
        | .none => false
        | .free => !bit (pulseCfg m) 29
        | .locked | .holdover => true)
     else m.time.src == .chain && (m.flue.info.tstate == 1 || m.flue.info.tstate == 2))

/-- The next pulse carries STEP_NEXT: a step of the own mapping not yet announced, or the master's (R271, R289). -/
def stepNext (m : Module) : Bool :=
  if ownPulse m then (match m.gnss.step with
    | some (_, b) => !b
    | none => false)
  else m.flue.info.stepNext

/-- TIME_PULSE (R268, R271, R289): the pulse of the next whole GPS second. -/
def timePulse (m : Module) : Module :=
  if !timeKnown m then m
  else
    let announce := stepNext m
    let m1 := pulseMap m
    let (k, t) := pulseAt m1
    let m := m1.advanceTo t
    let m := if announce then gnssInt (m.updGnss fun x => { x with step := x.step.map fun s => (s.1, true) }) 2 else m
    let m := m.updGnss fun x => { x with secMt := t }
    if pulseOn m then
      let m := m.updGnss fun x => { x with pulseMt := t, pulseWeek := (k / 604800).toNat % 4096, pulseTow := (k % 604800).toNat }
      m.send .pulse (leBytes 8 t)
    else m

end Sys2Proof.Machine
end

