-- ==== Sys2Proof/Machine/Trig.lean ====
section
/-! DEFINITION. Sine and cosine in fixed point with 64 fraction bits, for the projection of R207 (log entry 40). -/

namespace Sys2Proof.Machine

/-- 1 in fixed point. -/
def one64 : Int := 2 ^ 64

/-- 2π times 10^18. -/
def twoPi18 : Int := 6283185307179586477

/-- One step of a Taylor sum from its last term back: 1 - x²·acc / d. -/
def taylorStep (x2 : Int) (d : Nat) (acc : Int) : Int := one64 - rdiv (x2 * acc) (2 ^ 64 * d)

/-- Sine and cosine of an angle in radians of at most an eighth of a turn. -/
def sinSmall (x : Int) : Int :=
  let x2 := rdiv (x * x) (2 ^ 64)
  rdiv (x * ([6, 20, 42, 72, 110, 156, 210, 272].foldr (taylorStep x2) one64)) (2 ^ 64)
def cosSmall (x : Int) : Int :=
  let x2 := rdiv (x * x) (2 ^ 64)
  [2, 12, 30, 56, 90, 132, 182, 240, 306].foldr (taylorStep x2) one64

/-- Sine and cosine of an angle in units of 2^-64 turn. -/
def sinCos (a : Int) : Int × Int :=
  let a := a % (2 ^ 64)
  let q := (a + 2 ^ 61) / 2 ^ 62
  let x := rdiv ((a - q * 2 ^ 62) * twoPi18) (10 ^ 18)
  let s := sinSmall x
  let c := cosSmall x
  match (q % 4).toNat with
  | 0 => (s, c)
  | 1 => (c, -s)
  | 2 => (-s, -c)
  | _ => (-c, s)

/-- Radians in fixed point as units of 2^-64 turn. -/
def turn64 (x : Int) : Int := rdiv (x * 10 ^ 18) twoPi18.toNat

end Sys2Proof.Machine
end

