-- ==== Sys2Proof/Machine/Cover.lean ====
section
/-! DEFINITION. The coverage engine: projection, maps and their cache, evaluation and events, flow, applied marking, jobs and
archives (R206 to R227). -/

namespace Sys2Proof.Machine

/-! ## Access -/

/-- The COVER record of the active structure, without which the engine does not exist (R36). -/
def coverRec (m : Module) : Option CoverRec := m.recs.cover.head?.map (·.2)

/-- Change the engine. -/
def Module.updCover (m : Module) (f : CoverSt → CoverSt) : Module := { m with cover := f m.cover }

/-- Section `k`, of 0 to 159. -/
def sect (m : Module) (k : Nat) : SectSt := Arr.getD m.cover.sect k SectSt.reset

/-- Change section `k`. -/
def Module.updSect (m : Module) (k : Nat) (f : SectSt → SectSt) : Module :=
  m.updCover fun c => { c with sect := Arr.updD c.sect k f }

def coverInt (m : Module) (i : Nat) : Module := m.raise Reg.COVER_INT_STATUS i

/-- The output channel of target index `k` (R103). -/
def outChan (k : Nat) : Nat := if k < 128 then k else if k < 144 then 256 + (k - 128) else 512 + (k - 144)

/-- Settings of section `k` under the registers `r` (R208). -/
def secWidth (r : Nat → Word) (k : Nat) : Nat := fld (r (Reg.COVER_SEC_CFG k)) 15 0
def secX (r : Nat → Word) (k : Nat) : Int := sx 16 (fld (r (Reg.COVER_SEC_POS k)) 15 0)
def secY (r : Nat → Word) (k : Nat) : Int := sx 16 (fld (r (Reg.COVER_SEC_POS k)) 31 16)
def secMode (r : Nat → Word) (k : Nat) : Nat := fld (r (Reg.COVER_SEC_CFG k)) 17 16
def secProfile (r : Nat → Word) (k : Nat) : Nat := fld (r (Reg.COVER_SEC_CFG k)) 23 20
def secRate (r : Nat → Word) (k : Nat) : Bool := bit (r (Reg.COVER_SEC_CFG k)) 18

/-- The sections under the registers `r`: channels of the COVER GROUPS with a width (R208). -/
def sectionsIn (m : Module) (r : Nat → Word) : List Nat :=
  match coverRec m with
  | none => []
  | some c => (List.range 160).filter fun k => secWidth r k != 0 && m.recs.inGroups c.groups (outChan k)

def sections (m : Module) : List Nat := sectionsIn m m.cfg

/-- The path axis. -/
def pathAxis (m : Module) : Nat := match coverRec m with
  | some c => c.pathAxis
  | none => 15

/-- LOOKAHEAD, RATE_LEAD and PREFETCH in mm, COUNT_UM. -/
def lookahead (m : Module) : Nat := m.cf Reg.COVER_LOOK 15 0
def rateLead (m : Module) : Nat := m.cf Reg.COVER_LOOK 31 16 * 10
def countUm (m : Module) : Nat := m.cf Reg.COVER_MISC 15 0

/-- Millimetres along the path as a difference of coordinates. -/
def pathOf (m : Module) (mm : Nat) : Int := rdiv ((mm : Int) * 1000 * qOne) (countUm m)

/-! ## Projection (R206 to R208). Lengths are in units of 2^-24 µm -/

/-- Units in one mm. -/
def mmU : Int := 16777216000

/-- The reference at a coordinate: its place, and the sine and cosine of its heading with the heading itself in units of
2^-64 turn. -/
structure Ref where
  e : Int
  n : Int
  sin : Int
  cos : Int
  psi : Int
  deriving DecidableEq, Repr

/-- The reference at path coordinate `s` (R207). -/
def project (m : Module) (p : Pose) (s : Int) : Ref :=
  let l := (s - p.s) * countUm m
  let kl := p.curv * l
  let psiP := (p.heading : Int) * 2 ^ 32
  let (sp, cp) := sinCos psiP
  let psi := psiP + turn64 (rdiv kl 1000)
  let (sn, cs) := sinCos psi
  if kl.natAbs < 1000 * 2 ^ 48 then
    ⟨p.e * mmU + rdiv (l * cp) (2 ^ 64), p.n * mmU + rdiv (l * sp) (2 ^ 64), sn, cs, psi⟩
  else
    let k := p.curv.natAbs
    let sg := sgn p.curv
    ⟨p.e * mmU + rdiv (sg * (sn - sp) * 1000) k, p.n * mmU - rdiv (sg * (cs - cp) * 1000) k, sn, cs, psi⟩

/-- The point `x` ahead and `y` to the left of a reference, both in length units. -/
def Ref.at (r : Ref) (x y : Int) : Int × Int :=
  (r.e + rdiv (x * r.cos - y * r.sin) (2 ^ 64), r.n + rdiv (x * r.sin + y * r.cos) (2 ^ 64))

/-- Samples of a footprint (R208). -/
def sampleCount (m : Module) (w : Nat) : Nat := min 16 (max 1 (cdiv w m.cover.cell))

/-- The sample points of section `k`. -/
def samplesOf (m : Module) (r : Ref) (k : Nat) : List (Int × Int) :=
  let w := secWidth m.cfg k
  let n := sampleCount m w
  (List.range n).map fun j =>
    r.at (secX m.cfg k * mmU) (rdiv ((2 * secY m.cfg k * n - (w * n : Nat) + ((2 * j + 1) * w : Nat)) * mmU) (2 * n))

/-- The rate sample of section `k`: the centre of its footprint. -/
def rateSample (m : Module) (r : Ref) (k : Nat) : Int × Int := r.at (secX m.cfg k * mmU) (secY m.cfg k * mmU)

/-! ## Maps (R209, R210) -/

/-- Cell edge in mm, and cells across a tile, of a layer. -/
def cellOf (m : Module) (layer : Nat) : Nat := if layer = 2 then m.cover.rateCell * 10 else m.cover.cell
def tileCells (layer : Nat) : Nat := if layer = 2 then 64 else 256

/-- The cell of a point. -/
def cellAt (m : Module) (layer : Nat) (p : Int × Int) : Int × Int :=
  let c := (cellOf m layer : Int) * mmU
  (p.1 / c, p.2 / c)

/-- The tile of a cell. -/
def tileKey (layer : Nat) (c : Int × Int) : TileKey := ⟨layer, c.1 / tileCells layer, c.2 / tileCells layer⟩

/-- The number of a cell within its tile. -/
def cellIx (layer : Nat) (c : Int × Int) : Nat :=
  let t : Int := tileCells layer
  ((c.2 % t) * t + c.1 % t).toNat

/-- A tile of the store. -/
def tileAt (m : Module) (k : TileKey) : Option Tile := m.cover.tiles.find? (·.key == k)

/-- Change a tile. -/
def Module.updTile (m : Module) (k : TileKey) (f : Tile → Tile) : Module :=
  m.updCover fun c => { c with tiles := c.tiles.map fun t => if t.key = k then f t else t }

/-- The current content of a tile, its cached copy included. -/
def Tile.now (t : Tile) : Nat := match t.cache with
  | some l => l.data
  | none => t.data

/-- Slots that hold tiles: 128 to 32,767 (R211). -/
def freeSlot (m : Module) : Option Nat :=
  let used := m.cover.tiles.map (·.slot)
  if 32640 ≤ used.length then none
  else ((List.range (used.length + 1)).map (· + 128)).find? fun s => !used.contains s

/-- What a sample finds in a layer. -/
inductive Look where
  | absent | miss | val (v : Nat)
  deriving DecidableEq, Repr

/-- A point of a layer, through the cache (R213, R215). -/
def look (m : Module) (layer : Nat) (p : Int × Int) : Look :=
  let c := cellAt m layer p
  match tileAt m (tileKey layer c) with
  | none => .absent
  | some t =>
    match t.cache with
    | none => .miss
    | some l =>
      let i := cellIx layer c
      .val (if layer = 2 then bits l.data (16 * i + 15) (16 * i) else bits l.data i i)

/-! ## The tile cache (R214, R215) -/

/-- A cached tile that was used now. -/
def touch (m : Module) (k : TileKey) : Module :=
  let t := m.mt
  m.updTile k fun x => { x with cache := x.cache.map fun l => { l with used := t } }

/-- Write a dirty tile back to the store. -/
def writeBack (m : Module) (k : TileKey) : Module :=
  m.updTile k fun x => match x.cache with
    | some l => { x with data := l.data, cache := some { l with dirty := none } }
    | none => x

/-- The prefetch rectangle: its axes and its extent along and across (R214), in length units. -/
structure Rect where
  r : Ref
  back : Int
  front : Int
  right : Int
  left : Int
  deriving DecidableEq, Repr

/-- Extent of the sections under the registers `r`: back, right and left in half mm, with one cell on each side. -/
def extent (m : Module) (r : Nat → Word) (cell : Nat) : Option (Int × Int × Int) :=
  let ks := sectionsIn m r
  match ks with
  | [] => none
  | k0 :: _ =>
    let w (k : Nat) : Int := secWidth r k
    let back := ks.foldl (fun a k => min a (2 * secX r k)) (2 * secX r k0)
    let right := ks.foldl (fun a k => min a (2 * secY r k - w k)) (2 * secY r k0 - w k0)
    let left := ks.foldl (fun a k => max a (2 * secY r k + w k)) (2 * secY r k0 + w k0)
    some (back, right - 2 * cell, left + 2 * cell)

def prefetchRect (m : Module) : Option Rect :=
  match m.cover.pose, extent m m.cfg m.cover.cell with
  | some p, some (b, r, l) =>
    let front := (lookahead m + rateLead m + m.cf Reg.COVER_PREFETCH 15 0 : Nat)
    some ⟨project m p (axisNow m (pathAxis m)), b * mmU / 2, (front : Int) * mmU, r * mmU / 2, l * mmU / 2⟩
  | _, _ => none

/-- The intervals [a1, a2] and [b1, b2] meet. -/
def meets (a1 a2 b1 b2 : Int) : Bool := decide (a1 ≤ b2) && decide (b1 ≤ a2)

def minOf (l : List Int) : Int := l.foldl min (l.headD 0)
def maxOf (l : List Int) : Int := l.foldl max (l.headD 0)

/-- A tile meets the rectangle: their projections meet along the map's and along the rectangle's axes. -/
def Rect.meetsTile (q : Rect) (m : Module) (k : TileKey) : Bool :=
  let e := (cellOf m k.layer * tileCells k.layer : Nat) * mmU
  let corners := [q.r.at q.back q.right, q.r.at q.back q.left, q.r.at q.front q.right, q.r.at q.front q.left]
  let tile := [(k.tx * e, k.ty * e), ((k.tx + 1) * e, k.ty * e), (k.tx * e, (k.ty + 1) * e), ((k.tx + 1) * e, (k.ty + 1) * e)]
  let along (p : Int × Int) : Int := rdiv ((p.1 - q.r.e) * q.r.cos + (p.2 - q.r.n) * q.r.sin) (2 ^ 64)
  let across (p : Int × Int) : Int := rdiv ((p.2 - q.r.n) * q.r.cos - (p.1 - q.r.e) * q.r.sin) (2 ^ 64)
  meets (minOf (corners.map (·.1))) (maxOf (corners.map (·.1))) (k.tx * e) ((k.tx + 1) * e)
    && meets (minOf (corners.map (·.2))) (maxOf (corners.map (·.2))) (k.ty * e) ((k.ty + 1) * e)
    && meets q.back q.front (minOf (tile.map along)) (maxOf (tile.map along))
    && meets q.right q.left (minOf (tile.map across)) (maxOf (tile.map across))

/-- Make room for one more tile in the cache of 64: the least recently used outside the rectangle leaves, written back. -/
def cacheRoom (m : Module) : Module :=
  let cached := m.cover.tiles.filter (·.cache.isSome)
  if cached.length < 64 then m
  else
    let outside := cached.filter fun t => match prefetchRect m with
      | some q => !q.meetsTile m t.key
      | none => true
    let used (t : Tile) : Nat := (t.cache.map (·.used)).getD 0
    let victim := outside.foldl (fun (b : Option Tile) t => match b with
      | none => some t
      | some x => if used t < used x then some t else b) none
    match victim with
    | some t => (writeBack m t.key).updTile t.key fun x => { x with cache := none }
    | none => m

/-- Fetch a tile into the cache. -/
def fetchTile (m : Module) (k : TileKey) : Module :=
  let m := m.updCover fun c => { c with fetches := c.fetches.filter (· != k) }
  match tileAt m k with
  | none => m
  | some t =>
    if t.cache.isSome then m
    else
      let m := cacheRoom m
      let now := m.mt
      if 64 ≤ (m.cover.tiles.filter (·.cache.isSome)).length then m
      else m.updTile k fun x => { x with cache := some ⟨x.data, none, now⟩ }

/-- TILE_FETCH (R214): the oldest fetch requested. -/
def tileFetch (m : Module) : Module :=
  match m.cover.fetches with
  | [] => m
  | k :: _ => fetchTile m k

/-- The dirty tile whose first change is the oldest. -/
def oldestDirty (m : Module) : Option (Nat × TileKey) :=
  (m.cover.tiles.filterMap fun t => (t.cache.bind (·.dirty)).map fun d => (d, t.key)).foldl
    (fun (b : Option (Nat × TileKey)) x => match b with
      | none => some x
      | some y => if x.1 < y.1 then some x else b) none

/-- TILE_WRITE_BACK (R214): the tile changed first. -/
def tileWriteBack (m : Module) : Module :=
  match oldestDirty m with
  | some (_, k) => writeBack m k
  | none => m

/-- Before two Mantel cycles have passed since their first change, dirty tiles are written back (R214). -/
def writeBackDue (m : Module) : Module :=
  (m.cover.tiles.filter fun t => match t.cache.bind (·.dirty) with
    | some d => decide (d + cycleTicks ≤ m.mt)
    | none => false).foldl (fun m t => writeBack m t.key) m

/-- Request what meets the rectangle. -/
def requestTiles (m : Module) : Module :=
  match prefetchRect m with
  | none => m
  | some q =>
    let want := (m.cover.tiles.filter fun t => t.cache.isNone && q.meetsTile m t.key).map (·.key)
    m.updCover fun c => { c with fetches := c.fetches ++ want.filter fun k => !c.fetches.contains k }

/-! ## Enabling (R216) -/

/-- Effective path speed as a fraction, mm/s (R80, R216). -/
def speedNum (m : Module) : Int := match axisPred m (pathAxis m) with
  | some q => q.vn * countUm m
  | none => 0
def speedDen (m : Module) : Nat := match axisPred m (pathAxis m) with
  | some q => max 1 q.vd * 16777216000
  | none => 1

/-- The pose is older than POSE_MAX, or there is none. -/
def poseOld (m : Module) : Bool :=
  match m.cover.pose with
  | none => true
  | some p => decide (m.cf Reg.COVER_MISC 31 24 * 40000000 < m.mt - p.mt)

/-- COVER_CTL bits. -/
def coverCtl (m : Module) (i : Nat) : Bool := bit (m.rd Reg.COVER_CTL) i

/-- The path axis is LOCKED, or in COAST with COAST_OK, and moves upward. -/
def pathOk (m : Module) : Bool :=
  match fin? 15 (pathAxis m) with
  | none => false
  | some i =>
    let x := axisAt m i
    (x.phase == .locked || (x.phase == .coast && coverCtl m 1)) && axisUp m (pathAxis m)

/-- Sections are ENABLED (R216). -/
def enabledNow (m : Module) : Bool :=
  coverCtl m 0 && m.cover.job == .active && pathOk m
    && decide ((m.cf Reg.COVER_THRESH 31 16 : Int) * speedDen m ≤ speedNum m)
    && !poseOld m && decide (4 * (sections m).length + 65 ≤ resOf m coverProducer)

/-- LOOK_SHORT (R218): v (HOB_LEAD_MAX + C_max + 2 ms) exceeds LOOKAHEAD. -/
def lookShortNow (m : Module) : Bool :=
  let c := (sections m).foldl (fun a k => max a (commitPoint m (outChan k))) 0
  let t := leadMax m + c + 2 * msTicks
  decide ((lookahead m * secTicks : Nat) * (speedDen m : Int) < speedNum m * t)

/-! ## Decisions (R216, R217, R222) -/

/-- What one evaluation finds for a section: samples, blocked samples, samples that missed the cache, and the rate at the
rate sample of the switching and of the rate point; none where it missed. -/
structure Finding where
  k : Nat
  n : Nat
  blocked : Nat
  misses : Nat
  rSwitch : Option Nat
  rAhead : Option Nat
  deriving DecidableEq, Repr

/-- One sample: blocked, or a miss (R213, R216). -/
def sampleBlocked (m : Module) (p : Int × Int) : Option Bool :=
  let a := look m 0 p
  let x := look m 1 p
  let r := look m 2 p
  if a = .miss ∨ x = .miss ∨ r = .miss then none
  else some (a == .val 1 || x == .val 1 || (x == .absent && coverCtl m 2) || r == .val 0)

/-- The rate at a point (R213, R221). -/
def rateAt (m : Module) (p : Int × Int) : Option Nat :=
  match look m 2 p with
  | .miss => none
  | .absent => some (m.cf Reg.COVER_RATE_CFG 15 0)
  | .val v => some (if v = 0xFFFF then m.cf Reg.COVER_RATE_CFG 15 0 else v)

/-- The finding of section `k`. -/
def findingOf (m : Module) (here ahead : Ref) (k : Nat) : Finding :=
  let ss := (samplesOf m here k).map (sampleBlocked m)
  let r1 := rateAt m (rateSample m here k)
  let r2 := rateAt m (rateSample m ahead k)
  { k := k, n := ss.length, blocked := (ss.filter (· == some true)).length,
    misses := (ss.filter (·.isNone)).length + b2n r1.isNone + b2n r2.isNone, rSwitch := r1, rAhead := r2 }

/-- Events of the engine on channel `c` that are not final. -/
def coverPending (m : Module) (c : Nat) : Nat :=
  (m.hob.events.filter fun e => e.producer == coverProducer && e.chan == c).length
    + (m.hob.committed.filter fun x => x.ev.producer == coverProducer && x.ev.chan == c).length

/-- The decision of a section, and whether it is HELD (R215, R217). -/
def decide' (m : Module) (f : Finding) : Bool × Bool :=
  let on := (sect m f.k).on
  if f.misses ≠ 0 then (on, true)
  else if 3 ≤ coverPending m (outChan f.k) then (on, true)
  else if on then (!decide (m.cf Reg.COVER_THRESH 15 8 * f.n ≤ f.blocked * 100), false)
  else (decide (f.blocked * 100 < m.cf Reg.COVER_THRESH 7 0 * f.n), false)

/-- t_k with 40 fraction bits: 1 - κ Y, within 0 to 2 (R221). -/
def turnFactor (m : Module) (k : Nat) : Nat :=
  match m.cover.pose with
  | none => 2 ^ 40
  | some p => (clampI 0 (2 ^ 41) (2 ^ 40 - p.curv * secY m.cfg k)).toNat

/-- The rate of a finding at the switching point: where it missed, the last rate used. -/
def rateOr (m : Module) (k : Nat) (r : Option Nat) : Nat := r.getD (sect m k).rate

/-- d_k of the PWM sections decided ON (R222). -/
def dutyOf (m : Module) (on : List Finding) (f : Finding) : Nat :=
  let q (g : Finding) : Nat := rateOr m g.k g.rSwitch * turnFactor m g.k
  let pwm := on.filter fun g => secMode m.cfg g.k == 1
  let sum := (pwm.map q).sum
  let lo := m.cf Reg.COVER_DUTY 31 16
  if sum = 0 then lo
  else (clampI lo 65535 (rdiv (m.cf Reg.COVER_DUTY 15 0 * q f * pwm.length : Nat) sum)).toNat

/-! ## Emission (R218 to R220, R224) -/

/-- TARGET of an event on AXT: MT_now + HOB_LEAD_MAX + 2,050 µs (R219). -/
def axtSoon (m : Module) : Int := sx 48 ((m.mt + leadMax m + 820000) % 2 ^ 40 * 256)

/-- Emit an event; it carries decision number `d` of section `k`. The answer says whether the claim was admissible. -/
def emit (m : Module) (op : EvOp) (chan prof axis : Nat) (target : Int) (arg : Nat) (sec : Option (Nat × Nat)) : Module × Bool :=
  if !claimOk m coverProducer 1 then
    (coverInt ((m.count Reg.COVER_PUB_CLAIM_REFUSED).updCover fun c => { c with claimWait := true }) 5, false)
  else
    let e : EvRec := { op := op, axis := axis, profile := prof, chan := chan, tag := m.cover.emitted % 65536, target := target,
                       arg := arg, producer := coverProducer, acc := 0, accMt := 0, ref := 0, passed := false, place := .fifo,
                       replaced := false, cold := false, coast := false, due := none }
    let m := m.count Reg.COVER_PUB_EMITTED
    let m := m.updCover fun c => { c with emitted := (c.emitted + 1) % 2 ^ 32 }
    let m := match sec with
      | some (k, d) =>
        let acc := m.hob.nextAcc
        (m.addSat (Reg.COVER_SEC_COUNT k) 15 0 1).updCover fun c => { c with evDecision := c.evDecision ++ [(acc, k, d)] }
      | none => m
    (acceptTimed m e, true)

/-- PROFILE of a section's events (R218). -/
def profOfSec (m : Module) (k : Nat) : Nat := if k < 128 then secProfile m.cfg k else 0

/-- The event that carries out a decision of section `k` with duty `d`. -/
def emitDecision (m : Module) (k : Nat) (on : Bool) (d axis : Nat) (target : Int) : Module :=
  let pwm := secMode m.cfg k == 1
  let op : EvOp := if on then (if pwm then .level else .open) else .close
  let num := (sect m k).decision + 1
  let (m, ok) := emit m op (outChan k) (profOfSec m k) axis target (if on && pwm then d else 0) (some (k, num))
  if ok then
    m.updSect k fun s => { s with on := on, decision := num, duty := if on && pwm then d else s.duty }
  else m

/-- A LEVEL of a section that stays ON (R222). -/
def emitDuty (m : Module) (k d : Nat) (target : Int) : Module :=
  let num := (sect m k).decision + 1
  let (m, ok) := emit m .level (outChan k) (profOfSec m k) (pathAxis m) target d (some (k, num))
  if ok then m.updSect k fun s => { s with decision := num, duty := d } else m

/-- A flow SETPT (R221). -/
def emitFlow (m : Module) (loop : Nat) (f : Int) (axis : Nat) (target : Int) : Module × Bool :=
  let (m, ok) := emit m .setpt (2048 + loop) 0 axis target (wInt f).toNat none
  if ok then
    let t := m.mt
    ((m.wr Reg.COVER_PUB_FLOW (wInt f)).updCover fun c => { c with flowLast := f, flowMt := t }, true)
  else (m, false)

/-- Events of the engine that ended MISSED with LATE or QUEUE_FULL are emitted again on AXT, unless a later decision of
their section has superseded them (R220); a refused claim is tried again (R224). -/
def coverAgain (m : Module) : Module :=
  let again := m.cover.again
  let m := m.updCover fun c => { c with again := [] }
  again.foldl (fun m x =>
    let (ev, num) := x
    match targetIx ev.chan with
    | none => m
    | some k =>
      if (sect m k.val).decision ≠ num then m
      else
        let (m', ok) := emit m ev.op ev.chan ev.profile 15 (axtSoon m) ev.arg (some (k.val, num))
        if ok then m' else m'.updCover fun c => { c with again := c.again ++ [x] }) m

/-- The events of the engine that are not final, on the path axis, are withdrawn (R106, R219). -/
def withdraw (m : Module) : Module :=
  let n := pathAxis m
  let mine (e : EvRec) : Bool := e.producer == coverProducer && e.axis == n
  let m := (m.hob.events.filter mine).foldl (fun m e => cancelNote (dropEvent m e.acc) e rRequest) m
  (m.hob.committed.filter fun c => mine c.ev).foldl (fun m c => tooLate m c rCommittedCancel) m

/-- CLOSE on AXT for every section still decided ON, and the SETPT of a stop (R219). -/
def stopEvents (m : Module) : Module :=
  let m := (sections m).foldl (fun m k => if (sect m k).on then emitDecision m k false 0 15 (axtSoon m) else m) m
  match coverRec m with
  | some c =>
    if m.cover.stopDue ∧ c.rateLoop ≠ 0xFF then
      let (m, ok) := emitFlow m c.rateLoop 0 15 (axtSoon m)
      if ok then m.updCover fun c => { c with stopDue := false } else m
    else m.updCover fun c => { c with stopDue := false }
  | none => m

/-- Sections stop being ENABLED (R219). -/
def disableSections (m : Module) : Module :=
  let m := coverInt (m.updCover fun c => { c with enabled := false, stopDue := true }) 1
  stopEvents (withdraw m)

/-! ## Flow (R221) -/

/-- F at speed v, exact before its one rounding. -/
def flowOf (m : Module) (on : List Finding) : Int :=
  let part (f : Finding) : Nat := if secRate m.cfg f.k then secWidth m.cfg f.k * rateOr m f.k f.rAhead * turnFactor m f.k else 0
  rdiv (((m.cfg Reg.COVER_RATE_K).toNat : Int) * speedNum m * ((on.map part).sum : Nat)) (speedDen m * 2 ^ 80)

/-- The flow set-point of an evaluation. -/
def flowStep (m : Module) (fs : List Finding) (changed : Bool) (target : Int) : Module :=
  match coverRec m with
  | none => m
  | some c =>
    if c.rateLoop = 0xFF then m
    else
      let on := fs.filter fun f => (sect m f.k).on
      let f := flowOf m on
      let rates := on.any fun x => secRate m.cfg x.k && rateOr m x.k x.rAhead != (sect m x.k).rate
      let last := m.cover.flowLast
      let band := decide (((m.cf Reg.COVER_RATE_CFG 23 16 : Nat) : Int) * last < (absN (f - last) * 1000 : Nat))
        && decide (m.cover.flowMt + m.cf Reg.COVER_RATE_CFG 31 24 * msTicks ≤ m.mt)
      if !(changed || rates || band) || decide (64 ≤ coverPending m (2048 + c.rateLoop)) then m
      else
        let (m, ok) := emitFlow m c.rateLoop f (pathAxis m) target
        if ok then on.foldl (fun m x => m.updSect x.k fun s => { s with rate := rateOr m x.k x.rAhead }) m else m

/-! ## Applied marking (R223) -/

/-- The coordinate of the path axis at MT `t`, past or present (R76). -/
def pathAt (m : Module) (t : Nat) : Int :=
  match fin? 15 (pathAxis m) with
  | none => 0
  | some i =>
    let x := axisAt m i
    match historyAt x.history t with
    | some c => c
    | none => if x.phase == .locked || x.phase == .coast then (predOf m i.val x).atMt t else x.p

/-- The ends of the footprint line of section `k` at coordinate `s`: right and left. -/
def footprint (m : Module) (p : Pose) (k : Nat) (s : Int) : (Int × Int) × (Int × Int) :=
  let r := project m p s
  let y2 := 2 * secY m.cfg k
  let w : Int := secWidth m.cfg k
  (r.at (secX m.cfg k * mmU) ((y2 - w) * mmU / 2), r.at (secX m.cfg k * mmU) ((y2 + w) * mmU / 2))

/-- Twice the signed area of a triangle. -/
def cross (a b c : Int × Int) : Int := (b.1 - a.1) * (c.2 - a.2) - (b.2 - a.2) * (c.1 - a.1)

/-- A point lies in a triangle, its edges included. -/
def inTriangle (a b c p : Int × Int) : Bool :=
  let x := cross a b p
  let y := cross b c p
  let z := cross c a p
  (decide (0 ≤ x) && decide (0 ≤ y) && decide (0 ≤ z)) || (decide (x ≤ 0) && decide (y ≤ 0) && decide (z ≤ 0))

/-- The APPLIED cells whose centre lies in the area swept from line `a` to line `b`. -/
def sweptCells (m : Module) (a b : (Int × Int) × (Int × Int)) : List (Int × Int) :=
  let c := (cellOf m 0 : Int) * mmU
  let es := [a.1.1, a.2.1, b.1.1, b.2.1]
  let ns := [a.1.2, a.2.2, b.1.2, b.2.2]
  let e0 := minOf es / c
  let n0 := minOf ns / c
  let cols := (maxOf es / c - e0 + 1).toNat
  let rows := (maxOf ns / c - n0 + 1).toNat
  (List.range rows).flatMap fun (j : Nat) => ((List.range cols).map fun (i : Nat) => (e0 + (i : Int), n0 + (j : Int))).filter fun q =>
    let p := (q.1 * c + c / 2, q.2 * c + c / 2)
    inTriangle a.1 a.2 b.1 p || inTriangle a.2 b.1 b.2 p

/-- A mark is lost. -/
def markLost (m : Module) : Module := coverInt (m.count Reg.COVER_PUB_MARK_LOST) 4

/-- Mark one cell. A tile that is absent is created; without a free slot the mark is lost. -/
def markCell (m : Module) (q : Int × Int) : Module :=
  let key := tileKey 0 q
  let t := m.mt
  let put (x : Tile) : Tile :=
    let l : CacheLine := x.cache.getD ⟨x.data, none, t⟩
    { x with changed := true, cache := some ⟨setBitN l.data (cellIx 0 q), some (l.dirty.getD t), t⟩ }
  let utc := utcNow m
  let m := m.updCover fun c => { c with written := utc, dirty := true }
  match tileAt m key with
  | some x => (if x.cache.isSome then m else cacheRoom m).updTile key put
  | none =>
    match freeSlot m with
    | none => markLost m
    | some s =>
      let m := cacheRoom m
      m.updCover fun c => { c with tiles := c.tiles ++ [put ⟨key, s, 0, true, none⟩] }

/-- A cell is marked already. -/
def isMarked (m : Module) (q : Int × Int) : Bool :=
  match tileAt m (tileKey 0 q) with
  | some t => t.now.testBit (cellIx 0 q)
  | none => false

/-- How far a spray may be marked by now: not while the measurement that fixes its beginning or its end still runs. -/
def markTo (m : Module) (k : Nat) (s : Spray) : Option Nat :=
  let l := if k < 128 then some (learnCh m k) else none
  let opening : Bool := match l with
    | some l => l.phase != .none && l.openMeas == some s.start
    | none => false
  let closing : Bool := match l, s.off with
    | some l, some off => l.phase != .none && l.closeMeas == some off
    | _, _ => false
  if opening then none
  else
    let lim := match s.until_ with
      | some u => if closing then min u (s.off.getD u) else u
      | none => m.mt
    some (min lim m.mt)

/-- Mark one spray of section `k` with a budget of cells; the spray as it then stands and the budget left. -/
def markSpray (m : Module) (k budget : Nat) (s : Spray) : Module × Nat × Spray :=
  match markTo m k s, m.cover.pose with
  | none, _ => (m, budget, s)
  | some to_, pose =>
    let from_ := max s.from_ s.marked
    if to_ ≤ from_ then (m, budget, s)
    else if m.cover.job ≠ .active then (m, budget, { s with marked := to_ })
    else
      match pose with
      | none => (markLost m, budget, { s with marked := to_ })
      | some p =>
        if poseOld m then (markLost m, budget, { s with marked := to_ })
        else
          let cells := (sweptCells m (footprint m p k (pathAt m from_)) (footprint m p k (pathAt m to_))).filter fun q => !isMarked m q
          let m := (cells.take budget).foldl markCell m
          if cells.length ≤ budget then (m, budget - cells.length, { s with marked := to_ }) else (m, 0, s)

/-- A spray is over: its end is known, marked, and no measurement may still move it. -/
def sprayOver (m : Module) (k : Nat) (s : Spray) : Bool :=
  match s.until_ with
  | some u => decide (u ≤ max s.marked s.from_) && !(decide (k < 128) && (learnCh m k).closeMeas == s.off && (learnCh m k).phase != .none)
  | none => false

/-- Mark the sprays of section `k`. -/
def markSection (x : Module × Nat) (k : Nat) : Module × Nat :=
  let (m, budget, ss) := (sect x.1 k).sprays.foldl (fun (a : Module × Nat × List Spray) s =>
    let (m, b, s) := markSpray a.1 k a.2.1 s
    (m, b, a.2.2 ++ [s])) (x.1, x.2, [])
  (m.updSect k fun s => { s with sprays := ss.filter fun y => !sprayOver m k y }, budget)

/-- The marking of an evaluation: 4,096 cells at most. -/
def markAll (m : Module) : Module := ((sections m).foldl markSection (m, 4096)).1

/-- Output `k` is in an actuation: a valve that drives or pulses, a switch that is on. -/
def sprayOn (m : Module) (k : Nat) : Bool :=
  if k < 128 then
    let x := vc m k
    x.phase == .boost || x.phase == .peak || x.phase == .hold || x.phase == .held || (x.phase == .limp && x.limpDrive) || x.pwmRun
  else if k < 144 then lsDuty m (k - 128) != 0
  else foDuty m (k - 144) != 0

/-- The beginning of a spray that starts now (R223), before any measurement. -/
def sprayFrom (m : Module) (k : Nat) : Nat × Nat :=
  if k < 128 then
    let x := vc m k
    (x.driveStart, x.onEdge + x.dOn.getD (delayOf m k x.prof true).1)
  else (m.mt, m.mt)

/-- The end of a spray that stops now: the switch-off edge and t_b; at once where a coil fault latched. -/
def sprayEnd (m : Module) (k : Nat) : Nat × Nat :=
  if k < 128 then
    let x := vc m k
    if x.phase = .fault then (m.mt, m.mt)
    else
      let off := x.lastOff.getD m.mt
      (off, off + x.dOff.getD (delayOf m k x.prof false).1)
  else (m.mt, m.mt)

/-- Follow the actuation of section `k`. -/
def senseSection (m : Module) (k : Nat) : Module :=
  let ss := (sect m k).sprays
  let isOpen := ss.any (·.until_.isNone)
  let on := sprayOn m k
  if on && !isOpen then
    let (start, from_) := sprayFrom m k
    (m.updSect k fun s => { s with sprays := s.sprays ++ [⟨start, from_, none, none, 0⟩] }).updVc (if k < 128 then k else 128)
      fun x => { x with dOn := none }
  else if isOpen && !on then
    let (off, until_) := sprayEnd m k
    let set (y : Spray) : Spray := if y.until_.isNone then { y with off := some off, until_ := some until_ } else y
    (m.updSect k fun s => { s with sprays := s.sprays.map set }).updVc (if k < 128 then k else 128)
      fun x => { x with dOff := none }
  else m

/-- What the engine makes of any change of the outputs or of its own events: re-emission and the sprays (R220, R223). -/
def coverAfter (m : Module) : Module :=
  if (coverRec m).isNone then m else (sections m).foldl senseSection (coverAgain m)

/-- The opening measurement of channel `k` has ended: a notch fixes t_a (R223). -/
def sprayOpened (k : Fin 128) (m : Module) : Module :=
  if (coverRec m).isNone then m
  else
    let x := vc m k.val
    let mm := (learnCh m k.val).open_.lastM
    let set (y : Spray) : Spray := if y.start = x.driveStart then { y with from_ := x.driveStart + mm } else y
    let m := if mm = 0 then m else m.updSect k.val fun s => { s with sprays := s.sprays.map set }
    (markSection (m, 4096) k.val).1

/-- The closing measurement has ended: a signature fixes t_b (R223). -/
def sprayClosed (k : Fin 128) (off : Option Nat) (m : Module) : Module :=
  if (coverRec m).isNone then m
  else
    let mm := (learnCh m k.val).close.lastM
    let m := match off with
      | some t =>
        let set (y : Spray) : Spray := if y.off = some t then { y with until_ := some (t + mm) } else y
        if mm = 0 then m else m.updSect k.val fun s => { s with sprays := s.sprays.map set }
      | none => m
    (markSection (m, 4096) k.val).1

/-! ## Settings (R227) -/

/-- ⌈√d / t⌉ for d the square of a diagonal, by search. -/
def ceilRatio (d2 t : Nat) : Nat := if t = 0 then 0 else searchFrom (fun n => decide (d2 ≤ n * n * t * t)) 20 0

/-- The tiles of the rectangle's diagonal fit the cache. -/
def diagonalOk (m : Module) (s : Stage) : Bool :=
  let cell := s.f Reg.COVER_CELL 9 0
  match extent m s.val cell with
  | none => true
  | some (b, r, l) =>
    let front : Nat := s.f Reg.COVER_LOOK 15 0 + s.f Reg.COVER_LOOK 31 16 * 10 + s.f Reg.COVER_PREFETCH 15 0
    let a := (2 * (front : Int) - b).natAbs
    let w := (l - r).natAbs
    -- lengths in half mm
    let d2 := a * a + w * w
    let n1 := ceilRatio d2 (cell * 256 * 2) + 1
    let n2 := ceilRatio d2 (s.f Reg.COVER_CELL 25 16 * 10 * 64 * 2) + 1
    decide (2 * (n1 * n1) + n2 * n2 ≤ 56)

/-- A pending stage of the engine may be taken (R227). -/
def coverStageOk (m : Module) (s : Stage) : Bool :=
  let f := s.f
  let within (off h l lo hi : Nat) : Bool := decide (lo ≤ f off h l) && decide (f off h l ≤ hi)
  within Reg.COVER_CELL 9 0 20 1000 && within Reg.COVER_CELL 25 16 2 800 && within Reg.COVER_LOOK 15 0 100 20000
    && within Reg.COVER_LOOK 31 16 0 10000 && within Reg.COVER_THRESH 31 16 1 10000 && within Reg.COVER_THRESH 15 8 1 100
    && within Reg.COVER_THRESH 7 0 0 99 && decide (f Reg.COVER_THRESH 7 0 < f Reg.COVER_THRESH 15 8)
    && within Reg.COVER_RATE_CFG 31 24 1 255 && within Reg.COVER_RATE_CFG 15 0 0 65534 && within Reg.COVER_DUTY 31 16 1 65535
    && within Reg.COVER_DUTY 15 0 1 65535 && within Reg.COVER_MISC 31 24 1 255 && within Reg.COVER_MISC 15 0 1 65535
    && (sectionsIn m s.val).all (fun k =>
      secMode s.val k == 0 || (secMode s.val k == 1 && decide (k < 128) && pwmMode m (secProfile s.val k)))
    && diagonalOk m s

/-- The engine's pending stage at its boundary. -/
def takeCoverStage (m : Module) : Module :=
  match stageDue m .cover with
  | none => m
  | some s =>
    let m' := dropStage m .cover
    if coverStageOk m s then putInForce m' s else coverInt m' 10

/-! ## Jobs and archives (R225, R226) -/

/-- RESULT codes of COVER_JOB_STATE. -/
def jOk : Nat := 0
def jMismatch : Nat := 1
def jExpired : Nat := 2
def jNoTime : Nat := 3
def jArchFull : Nat := 4
def jNoArchive : Nat := 5
def jBusy : Nat := 6
def jState : Nat := 7

def setResult (m : Module) (r : Nat) : Module := m.updCover fun c => { c with jobResult := r }

/-- A change of job state raises JOB. -/
def setJob (m : Module) (j : JobPhase) : Module :=
  if m.cover.job = j then m else coverInt (m.updCover fun c => { c with job := j }) 8

/-- The store is emptied. -/
def emptyStore (m : Module) : Module :=
  m.updCover fun c => { c with tiles := [], fetches := [], written := none, dirty := false }

/-- JOB_REQ. -/
def jobReq (m : Module) : DWord := BitVec.ofNat 64 ((m.rd Reg.COVER_JOB_REQ_LO).toNat + 2 ^ 32 * (m.rd Reg.COVER_JOB_REQ_HI).toNat)

/-- NEW_JOB (R225). -/
def doNewJob (m : Module) : Module :=
  let id := jobReq m
  let sid := m.structId
  let lat := m.rd Reg.COVER_ORIGIN_LAT
  let lon := m.rd Reg.COVER_ORIGIN_LON
  let cell := m.cf Reg.COVER_CELL 9 0
  let rate := m.cf Reg.COVER_CELL 25 16
  let m := (emptyStore m).updCover fun c =>
    { c with jobId := id, jobStruct := sid, lat := lat, lon := lon, cell := cell, rateCell := rate }
  setResult (setJob m .active) jOk

/-- CONFIRM (R225). -/
def doConfirm (m : Module) : Module :=
  if m.cover.job ≠ .pending then setResult m jState
  else if jobReq m ≠ m.cover.jobId then setResult m jMismatch
  else match utcNow m with
    | none => setResult m jNoTime
    | some now =>
      let valid := m.cf Reg.COVER_ARCH 31 16
      let (w, m) := match m.cover.written with
        | some w => (w, m)
        | none => (m.freeVal, m.freed)
      if valid ≠ 0 ∧ valid * 3600 < now - w then setResult (setJob m .stale) jExpired
      else setResult (setJob m .active) jOk

/-- CLOSE_JOB (R225). -/
def doCloseJob (m : Module) : Module :=
  if m.cover.job = .none then setResult m jState
  else
    let m := if m.cover.enabled then disableSections m else m
    setResult (setJob (emptyStore m) .none) jOk

/-- An archive or a restore starts. -/
def startArch (m : Module) (a : ArchJob) : Module := m.updCover fun c => { c with arch := a, jobResult := jOk }

/-- ARCHIVE (R226). -/
def doArchive (m : Module) : Module := if m.cover.job ≠ .active then setResult m jState else startArch m .archive

/-- RESTORE (R225). -/
def doRestore (m : Module) : Module :=
  if m.cover.job = .pending ∨ m.cover.job = .stale then startArch m .restore else setResult m jState

/-- A job command by its OP; BUSY while an archive or a restore runs. -/
def jobCommand (op : Nat) (m : Module) : Module :=
  if op = 0 ∨ 5 < op then m
  else if m.cover.arch ≠ .none then setResult m jBusy
  else if op = 1 then doNewJob m
  else if op = 2 then doConfirm m
  else if op = 3 then doCloseJob m
  else if op = 4 then doArchive m
  else doRestore m

/-- The MT of the next evaluation, this tick's included when it is still to come. -/
def nextEval (m : Module) : Nat :=
  let t := cdiv m.mt msTicks * msTicks
  if t = m.cover.lastEval ∧ t ≠ 0 then t + msTicks else t

/-- The job commands of the table act at the next evaluation. -/
def jobAt (op : Nat) (m : Module) : Module :=
  if (coverRec m).isNone then m else jobCommand op (m.advanceTo (nextEval m))

/-- PERIODIC_ARCHIVE (R226): ARCH_MIN minutes after the last archive, while tiles have changed. -/
def periodicArchive (m : Module) : Module :=
  let n := m.cf Reg.COVER_ARCH 7 0
  if (coverRec m).isNone ∨ n = 0 ∨ !m.cover.dirty ∨ m.cover.job ≠ .active ∨ m.cover.arch ≠ .none then m
  else startArch (m.advanceTo (m.cover.lastArch + n * 60 * secTicks)) .archive

/-- An archive at a disarm that follows a change (R226). -/
def disarmArchive (m : Module) : Module :=
  if (coverRec m).isSome ∧ m.cover.dirty ∧ m.cover.job = .active ∧ m.cover.arch = .none then startArch m .archive else m

/-- The good archive with the higher GENERATION. -/
def bestArchive (m : Module) : Option (Bool × Archive) :=
  let good (a : Option Archive) : Option Archive := a.filter (·.crcOk)
  match good m.cover.half0, good m.cover.half1 with
  | some a, some b => if a.gen < b.gen then some (true, b) else some (false, a)
  | some a, none => some (false, a)
  | none, some b => some (true, b)
  | none, none => none

/-- The archive is complete (R226). -/
def archiveDone (m : Module) : Module :=
  if 6136 < m.cover.tiles.length then setResult m jArchFull
  else
    let m := m.cover.tiles.foldl (fun m t => writeBack m t.key) m
    let (utc, m) := match utcNow m with
      | some u => (u, m)
      | none => (m.freeVal, m.freed)
    let c := m.cover
    let best := bestArchive m
    let a : Archive := { jobId := c.jobId, serial := m.serial, structId := c.jobStruct,
                         gen := (match best with | some (_, b) => b.gen | none => 0) + 1, utc := utc, lat := c.lat, lon := c.lon,
                         cell := c.cell, rateCell := c.rateCell, tiles := c.tiles.map fun t => (t.key, t.data), crcOk := true }
    let second := match best with
      | some (h, _) => !h
      | none => false
    let now := m.mt
    let m := m.updCover fun c => if second then { c with half1 := some a } else { c with half0 := some a }
    setResult (m.updCover fun c => { c with tiles := c.tiles.map fun t => { t with changed := false }, dirty := false, lastArch := now }) jOk

/-- Archived values go back into the registers (COVER registers). -/
def restoreRegs (m : Module) (a : Archive) : Module :=
  let w := w32 (a.rateCell * 65536 + a.cell)
  let m := ((m.wr Reg.COVER_CELL w).wr Reg.COVER_ORIGIN_LAT a.lat).wr Reg.COVER_ORIGIN_LON a.lon
  { m with regs := { m.regs with act := Sparse.set resetOf m.regs.act Reg.COVER_CELL w } }

/-- The restore is complete (R225, R226). -/
def restoreDone (m : Module) : Module :=
  match bestArchive m with
  | none => setResult m jNoArchive
  | some (_, a) =>
    if a.serial = m.serial ∧ a.structId = m.structId then
      let tiles := (a.tiles.zip (List.range a.tiles.length)).map fun x => (⟨x.1.1, 128 + x.2, x.1.2, false, none⟩ : Tile)
      let m := (emptyStore m).updCover fun c =>
        { c with tiles := tiles, jobId := a.jobId, jobStruct := a.structId, lat := a.lat, lon := a.lon, cell := a.cell,
                 rateCell := a.rateCell, written := some a.utc }
      setResult (setJob (restoreRegs m a) .pending) jOk
    else setResult (setJob m .stale) jOk

/-- ARCH_DONE (R226): the archive or restore in progress finishes. -/
def archDone (m : Module) : Module :=
  match m.cover.arch with
  | .none => m
  | .archive => coverInt ((archiveDone m).updCover fun c => { c with arch := .none }) 9
  | .restore => coverInt ((restoreDone m).updCover fun c => { c with arch := .none }) 9

/-- The power-on restore of an engine without a job (R225). -/
def powerOnRestore (m : Module) : Module :=
  if (coverRec m).isSome ∧ m.cover.job = .none ∧ m.cover.arch = .none ∧ (bestArchive m).isSome then startArch m .restore else m

/-! ## Swaps and resets (R224, R225) -/

/-- Every engine event not yet final is CANCELLED with ACTIVATION (R224). -/
def cancelCover (m : Module) : Module :=
  (m.hob.events.filter (·.producer == coverProducer)).foldl (fun m e => cancelNote (dropEvent m e.acc) e rActivation) m

/-- Sections return to their start: decisions OFF, nothing pending. -/
def clearSections (m : Module) : Module :=
  m.updCover fun c => { c with sect := Arr.fill 160 SectSt.reset, enabled := false, lookShort := false, claimWait := false,
                               stopDue := false, evDecision := [], again := [], flowLast := 0 }

/-- The job at a swap from STRUCT_ID `old` to the structure now active (R225). -/
def coverSwap (m : Module) (old : DWord) : Module :=
  let m := clearSections m
  let m := (List.range 160).foldl (fun m k => m.wr (Reg.COVER_SEC_COUNT k) 0) m
  if m.structId ≠ old then setJob (emptyStore m) .none
  else if m.cover.job = .active then setJob m .pending
  else m

/-- The job at a PD2 reset with DRAM kept (R225). -/
def coverPd2 (m : Module) : Module :=
  let m := clearSections m
  if m.cover.job = .active then setJob m .pending else m

/-! ## Tile commands (R212) -/

/-- An address range that lies wholly in the application SRAM or DRAM (R51), aligned to 64 bytes. -/
def tileAddrOk (a : Nat) : Bool :=
  a % 64 == 0 && ((decide (0x10200000 ≤ a) && decide (a + 8192 ≤ 0x10800000)) || (decide (0x9C000000 ≤ a) && decide (a + 8192 ≤ 0xC0000000)))

/-- COVER_TILE_ADDR. -/
def tileAddr (m : Module) : Nat := (m.rd Reg.COVER_TILE_ADDR_LO).toNat + 2 ^ 32 * (m.rd Reg.COVER_TILE_ADDR_HI).toNat

/-- The key a tile command names. -/
def cmdKey (m : Module) (layer : Nat) : TileKey :=
  ⟨layer, sx 16 (m.rf Reg.COVER_TILE_XY 15 0), sx 16 (m.rf Reg.COVER_TILE_XY 31 16)⟩

/-- A tile command ends. -/
def tileEnd (m : Module) (r : Nat) : Module :=
  coverInt (m.updCover fun c => { c with tileDone := true, tileResult := r }) 7

/-- The result of the checks of a tile command, 0 when it may run: STATE, KEY, ADDR. -/
def tileCheck (m : Module) (jobs : List JobPhase) (layer : Nat) (buf : Bool) : Nat :=
  if (coverRec m).isNone || !jobs.contains m.cover.job then 5
  else if layer = 3 then 6
  else if buf && !tileAddrOk (tileAddr m) then 3
  else 0

/-- LOAD of `data` (R212). -/
def tileLoad (layer data : Nat) (m : Module) : Module :=
  let r := tileCheck m [.active] layer true
  if r ≠ 0 then tileEnd m r
  else
    let key := cmdKey m layer
    let utc := utcNow m
    let noted (m : Module) : Module := m.updCover fun c => { c with written := utc, dirty := true }
    let new (old : Nat) : Nat := if layer = 0 then old ||| data else data
    match tileAt m key with
    | some _ =>
      tileEnd (noted (m.updTile key fun t =>
        { t with data := new t.data, changed := true, cache := t.cache.map fun l => { l with data := new l.data } })) 0
    | none =>
      match freeSlot m with
      | none => tileEnd m 2
      | some s => tileEnd (noted (m.updCover fun c => { c with tiles := c.tiles ++ [⟨key, s, data, true, none⟩] })) 0

/-- EXPORT (R212): the module, and what is to be written at the buffer address. -/
def tileExport (layer : Nat) (m : Module) : Module × Option Nat :=
  let r := tileCheck m [.active, .pending, .stale] layer true
  if r ≠ 0 then (tileEnd m r, none)
  else match tileAt m (cmdKey m layer) with
    | some t => (tileEnd m 0, some t.now)
    | none => (tileEnd m 1, some 0)

/-- DELETE (R212). -/
def tileDelete (layer : Nat) (m : Module) : Module :=
  let r := tileCheck m [.active] layer false
  if r ≠ 0 then tileEnd m r
  else
    let key := cmdKey m layer
    tileEnd (m.updCover fun c => { c with tiles := c.tiles.filter (·.key != key), fetches := c.fetches.filter (· != key), dirty := true }) 0

/-! ## The evaluation (R216 to R224) -/

/-- The cell under a list of findings: cache misses are counted and fetched (R215). -/
def countMisses (m : Module) (fs : List Finding) : Module :=
  let n := (fs.map (·.misses)).sum
  if n = 0 then m
  else coverInt (m.wr Reg.COVER_PUB_CACHE_MISS (m.rd Reg.COVER_PUB_CACHE_MISS + w32 n)) 3

/-- What is shown of each section at this evaluation. -/
def noteFindings (m : Module) (fs : List (Finding × Bool × Bool)) : Module :=
  fs.foldl (fun m x => m.updSect x.1.k fun s =>
    { s with held := x.2.2, blocked := if x.1.n = 0 then 0 else x.1.blocked * 100 / x.1.n }) m

/-- One section's on/off event, then its duty LEVEL (R218, R222). -/
def emitSection (m : Module) (axis : Nat) (target level : Int) (on : List Finding) (x : Finding × Bool × Bool) : Module :=
  let (f, want, held) := x
  let s := sect m f.k
  let pwm := secMode m.cfg f.k == 1
  let d := if pwm then dutyOf m on f else 0
  if want ≠ s.on then emitDecision m f.k want d axis target
  else if want && pwm && !held && decide (m.cf Reg.COVER_MISC 23 16 * 65535 < absN ((d : Int) - s.duty) * 1000) then
    emitDuty m f.k d level
  else m

/-- The evaluation of ENABLED sections. -/
def evalSections (m : Module) (p : Pose) (fresh : Bool) : Module :=
  let now := axisNow m (pathAxis m)
  let sEval := now + pathOf m (lookahead m)
  let here := project m p sEval
  let ahead := project m p (now + pathOf m (lookahead m + rateLead m))
  let fs := (sections m).map (findingOf m here ahead)
  let ds := fs.map fun f => (f, decide' m f)
  let m := noteFindings (countMisses m fs) ds
  let on := (ds.filter (·.2.1)).map (·.1)
  let target := rdiv (reported (axisWrap m (pathAxis m)) sEval) 65536
  let before := (sections m).map fun k => (sect m k).on
  let m := ds.foldl (fun m x => emitSection m (if fresh then 15 else pathAxis m) (if fresh then axtSoon m else target) target on x) m
  let changed := before != (sections m).map fun k => (sect m k).on
  flowStep m fs changed target

/-- LOOK_SHORT, with its onset flag. -/
def noteLook (m : Module) : Module :=
  let s := lookShortNow m
  let on := s && !m.cover.lookShort
  let m := m.updCover fun c => { c with lookShort := s }
  if on then coverInt m 2 else m

/-- What the SNAP registers hold of an evaluation. -/
def snapEval (m : Module) : Module :=
  let s := axisNow m (pathAxis m)
  match m.cover.pose with
  | none => m.updCover fun c => { c with snapS := s }
  | some p =>
    let r := project m p s
    let e := rdiv r.e mmU.toNat
    let n := rdiv r.n mmU.toNat
    let h := (rdiv r.psi (2 ^ 32) % (2 ^ 32 : Nat)).toNat
    m.updCover fun c => { c with snapS := s, snapE := e, snapN := n, snapH := h, snapC := p.curv }

/-- COVERAGE_EVALUATION (R216): the evaluation of the next whole millisecond of MT. -/
def coverageEvaluation (m : Module) : Module :=
  if (coverRec m).isNone then m
  else
    let t := nextEval m
    let m := m.advanceTo t
    let m := m.cover.fetches.foldl fetchTile m
    let m := takeCoverStage m
    let op := m.cover.jobCmd
    let m := jobCommand op (m.updCover fun c => { c with jobCmd := 0, claimWait := false, lastEval := t })
    let m := (sections m).foldl senseSection m
    let m := noteLook (snapEval (coverAgain m))
    let m := requestTiles m
    let was := m.cover.enabled
    let now := enabledNow m
    let m :=
      if now then
        let m := if was then m else coverInt (m.updCover fun c => { c with enabled := true, stopDue := false }) 0
        match m.cover.pose with
        | some p => evalSections m p (!was)
        | none => m
      else if was then disableSections m
      else stopEvents m
    let m := markAll m
    { m with time := { m.time with phase := max m.time.phase 6 } }

end Sys2Proof.Machine
end

