-- ==== Sys2Proof/Machine/Ingest.lean ====
section
/-! DEFINITION. Event ingest: ports, frames, batches, acknowledgements, credit and notification streams (07). -/

namespace Sys2Proof.Machine

/-! ## Addresses and frames (R140, R141) -/

/-- Port `p`. -/
def netPort (m : Module) (p : Fin 4) : PortSt := Arr.at' m.ingest.port p

/-- Change port `p`. -/
def Module.updPort (m : Module) (p : Fin 4) (f : PortSt → PortSt) : Module :=
  { m with ingest := { m.ingest with port := Arr.upd m.ingest.port p f } }

/-- The link-local address of a MAC address: modified EUI-64 under fe80::/64 (R141). -/
def linkLocal (mac : Nat) : Nat :=
  0xFE80 * 2 ^ 112 + ((mac / 2 ^ 24) ^^^ 0x020000) * 2 ^ 40 + 0xFFFE * 2 ^ 24 + mac % 2 ^ 24

/-- The configured IPv6 address of a port, 0 for none. -/
def portIp (m : Module) (p : Fin 4) : Nat :=
  beNat ((List.range 4).flatMap fun i => leBytes 4 (m.cfg (Reg.INGEST_PORT_IP6 p.val i)).toNat)

/-- An address is one of the port's own. -/
def ownIp (m : Module) (p : Fin 4) (a : Nat) : Bool :=
  a == linkLocal (netPort m p).mac || (portIp m p != 0 && a == portIp m p)

/-- The encapsulation under which a frame is a batch, if it is one (R141). -/
def batchEncap (m : Module) (p : Fin 4) (f : EthFrame) : Option Encap :=
  let cfg (i : Nat) : Bool := m.cb (Reg.INGEST_PORT_CFG p.val) i
  let vlanOk := match f.vlan with
    | [] => !cfg 26
    | [v] => !cfg 26 || v == m.cf (Reg.INGEST_PORT_CFG p.val) 11 0
    | _ => false
  if !(f.fcsOk && cfg 31 && f.dstMac == (netPort m p).mac && vlanOk) then none
  else match f.ip with
    | none => if cfg 28 ∧ f.ethertype = m.cf Reg.INGEST_CFG 15 0 then some .ethertype else none
    | some i =>
      if cfg 27 ∧ f.ethertype = 0x86DD ∧ !i.extHeader ∧ ownIp m p i.dst ∧ i.cksumOk ∧ i.dstPort = m.cf Reg.INGEST_UDP 15 0
      then some .udp else none

/-- Events that wait in the receive buffer of a port. -/
def bufferedAt (m : Module) (p : Nat) : Nat :=
  ((List.range 64).map fun n => ((m.ringAt n).unchecked.filter (·.port == p)).length).sum

/-- The receive buffer of a port has no room for another frame of `n` bytes (R160). -/
def bufferFull (m : Module) (p : Nat) (n : Nat) : Bool := decide (262144 < bufferedAt m p * 16 + n)

/-- A frame is dropped and counted (R141, R160). -/
def dropFrame (m : Module) (p : Fin 4) : Module := m.addSat (Reg.INGEST_PORT_RX_DROP p.val) 31 0 1

/-! ## Acknowledgements and credit (R146 to R151) -/

def stOk : Nat := 0
def stDuplicate : Nat := 1
def stOutOfOrder : Nat := 2
def stExcess : Nat := 3
def stNoSpace : Nat := 4
def stRingDisabled : Nat := 5
def stFormat : Nat := 6
def stEpoch : Nat := 7
def stPaused : Nat := 8
def stForwardDenied : Nat := 9
def stUnreachable : Nat := 10
def stUpdate : Nat := 15

/-- `a > b` as serial numbers (R143). -/
def after (a b : Word) : Bool := decide (0 < (a - b).toNat ∧ (a - b).toNat < 2 ^ 31)

/-- Credit of a ring's own reservation not yet used: OWN (R149). -/
def ownCredit (m : Module) (n : Nat) : Nat := resOf m n - useOf m n

/-- Credit already granted to a ring beyond its own (a term of SO, R149). -/
def sharedGranted (m : Module) (q : Nat) : Nat :=
  let r := m.ringAt q
  if r.phase = .open then (sWord (r.evLimit - r.ackEv)).toNat - ownCredit m q else 0

/-- FLOOR of a class in events (R151). -/
def floorOf (m : Module) (c : Nat) : Nat := m.cf (Reg.INGEST_CLASS_FLOOR c) 15 0 * 64

/-- The grant G of ring `n` (R149). -/
def grantOf (m : Module) (n : Nat) : Nat :=
  let so := ((List.range 64).map fun q => if q = n then 0 else sharedGranted m q).sum
  let sh := sharedFree m - floorOf m (m.cf (Reg.INGEST_RING_CFG n) 2 0) - so
  if m.cf (Reg.INGEST_RING_NOTE_HI n) 14 0 ≤ (m.ringAt n).notes.length then 0
  else min (m.cf (Reg.INGEST_RING_WINDOW n) 16 0) (ownCredit m n + sh)

/-- Send bytes to a network address: on its port, or over the chain to the entry node (R146, R155, R292). -/
def sendTo (m : Module) (a : NoteAddr) (bs : List Byte) : Module :=
  match fin? 4 a.port with
  | some p => (m.send (.net p a) bs).count (Reg.INGEST_PORT_TX_FRAMES p.val)
  | none => flueUnicast m ftReturn a.node bs

/-- The 32 bytes of an acknowledgement (R146). -/
def ackBytes (status ring count epoch : Nat) (ref : Word) (r : RingSt) (mt : Nat) : List Byte :=
  leBytes 1 2 ++ leBytes 1 status ++ leBytes 1 ring ++ leBytes 1 1 ++ leBytes 2 count ++ leBytes 2 epoch
    ++ leBytes 4 ref.toNat ++ leBytes 4 r.ackBseq.toNat ++ leBytes 4 r.ackEv.toNat ++ leBytes 4 r.evLimit.toNat
    ++ leBytes 8 mt

/-- The ring is one that the structure has (R144). -/
def ringExists (m : Module) (n : Nat) : Bool := (ringRec m n).isSome

/-- Form and send an acknowledgement; a ring of the structure takes the new EV_LIMIT (R146, R149). -/
def sendAck (m : Module) (a : NoteAddr) (status n count : Nat) (ref : Word) : Module :=
  if ringExists m n then
    let m := m.updRing n fun r => { r with evLimit := r.ackEv + w32 (grantOf m n) }
    let r := m.ringAt n
    sendTo m a (ackBytes status n count r.epoch ref r m.mt)
  else sendTo m a (ackBytes status n count 0 ref RingSt.reset m.mt)

/-- A refusal: counted, flagged, and answered (R147). -/
def refuse (m : Module) (a : NoteAddr) (status n count : Nat) (ref : Word) : Module :=
  let m := m.count Reg.INGEST_PUB_REFUSED
  let m := if ringExists m n then
      (if status = stExcess then m.addSat (Reg.INGEST_RING_REFUSED n) 31 16 1
       else m.addSat (Reg.INGEST_RING_REFUSED n) 15 0 1) else m
  let m := if status = stExcess then m.raise Reg.INGEST_INT_STATUS 4 else m
  let m := if status = stNoSpace then m.raise Reg.INGEST_INT_STATUS 5 else m
  sendAck m a status n count ref

/-! ## Batches (R142 to R145) -/

/-- The header of a batch (R143). -/
structure BatchHdr where
  ring : Nat
  sync : Bool
  fwd : Bool
  count : Nat
  epoch : Nat
  bseq : Word
  firstEv : Word
  noteAck : Word
  dest : Nat
  deriving DecidableEq, Repr

def batchHdr (bs : List Byte) : BatchHdr :=
  { ring := byteAt bs 2, sync := tb (byteAt bs 1) 0, fwd := tb (byteAt bs 1) 1, count := leAt bs 4 2, epoch := leAt bs 6 2,
    bseq := w32 (leAt bs 8 4), firstEv := w32 (leAt bs 12 4), noteAck := w32 (leAt bs 16 4), dest := leAt bs 20 2 }

/-- The most events a batch may hold on a port (R142). -/
def batchLimit (m : Module) (a : NoteAddr) : Nat :=
  if a.port = 4 then 560
  else if m.cb (Reg.INGEST_PORT_CFG a.port) 29 then (if a.encap = .udp then 557 else 560)
  else 88

/-- Step 1 of R145. -/
def formatOk (m : Module) (a : NoteAddr) (bs : List Byte) : Bool :=
  let h := batchHdr bs
  let max := if h.ring < 64 then min (batchLimit m a) (m.cf (Reg.INGEST_RING_CFG h.ring) 25 16) else batchLimit m a
  decide (32 ≤ bs.length) && byteAt bs 0 == 1 && byteAt bs 3 == 1 && decide (byteAt bs 1 < 4)
    && (sliceAt bs 22 10).all (· == 0) && (h.fwd || h.dest == 0) && decide (h.count ≤ max)
    && decide (32 + 16 * h.count ≤ bs.length)

/-- A NOTE_ACK releases every notification up to it (R156). -/
def takeNoteAck (m : Module) (n : Nat) (na : Word) : Module :=
  let r := m.ringAt n
  if na = 0 ∨ (na ≠ r.noteAck ∧ !after na r.noteAck) then m
  else m.updRing n fun r => { r with noteAck := na, notes := r.notes.filter fun x => after x.nseq na }

/-- A SYNC opens a ring (R144). -/
def openRing (m : Module) (n : Nat) (h : BatchHdr) : Module :=
  let m := m.updRing n fun r => { r with phase := .open, epoch := h.epoch, ackBseq := h.bseq - 1, ackEv := h.firstEv }
  m.updRing n fun r => { r with evLimit := h.firstEv + w32 (grantOf m n) }

/-- The events of a batch as they wait to be checked. -/
def uncheckedOf (bs : List Byte) (port : Nat) (h : BatchHdr) : List Unchecked :=
  (List.range h.count).map fun i => ⟨sliceAt bs (32 + 16 * i) 16, port, h.bseq, i⟩

/-- Step 14 of R145: the claim is made and the batch is accepted (R120). -/
def acceptBatch (m : Module) (a : NoteAddr) (n : Nat) (h : BatchHdr) (bs : List Byte) : Module :=
  let m := m.updRing n fun r =>
    { r with ackBseq := h.bseq, ackEv := r.ackEv + w32 h.count, addr := some a,
             unchecked := r.unchecked ++ uncheckedOf bs a.port h }
  let m := (m.count Reg.INGEST_PUB_BATCHES).wr Reg.INGEST_PUB_EVENTS (m.rd Reg.INGEST_PUB_EVENTS + w32 h.count)
  sendAck (fillNote m) a stOk n h.count h.bseq

/-- Steps 7 to 14 of R145. -/
def checkSequence (m : Module) (a : NoteAddr) (n : Nat) (h : BatchHdr) (bs : List Byte) : Module :=
  let r := m.ringAt n
  if h.count = 0 then sendAck (m.updRing n fun r => { r with addr := some a }) a stUpdate n 0 h.bseq
  else if !after h.bseq r.ackBseq then sendAck (m.updRing n fun r => { r with addr := some a }) a stDuplicate n h.count h.bseq
  else if 64 < (h.bseq - r.ackBseq).toNat then refuse m a stExcess n h.count h.bseq
  else if h.bseq ≠ r.ackBseq + 1 then refuse m a stOutOfOrder n h.count h.bseq
  else if h.firstEv ≠ r.ackEv then refuse m a stFormat n h.count h.bseq
  else if after (h.firstEv + w32 h.count) r.evLimit then refuse m a stExcess n h.count h.bseq
  else if !claimOk m n h.count then refuse m a stNoSpace n h.count h.bseq
  else acceptBatch m a n h bs

/-- Keep the producer's address for what comes back from another node (R292). -/
def noteForward (m : Module) (a : NoteAddr) (dest ring : Nat) : Module :=
  let rest := m.flue.fwd.filter fun f => !(f.dest == dest && f.ring == ring)
  { m with flue := { m.flue with fwd := (⟨dest, ring, a⟩ :: rest).take 1024 } }

/-- The check of a batch that arrived from `a` (R145). -/
def checkBatch (m : Module) (a : NoteAddr) (bs : List Byte) : Module :=
  let h := batchHdr bs
  let n := h.ring
  if !formatOk m a bs then
    refuse m a stFormat n (if 6 ≤ bs.length then h.count else 0) (if 12 ≤ bs.length then h.bseq else 0)
  else match ringRec m n with
    | none => refuse m a stRingDisabled n h.count h.bseq
    | some rec =>
      if !tb rec.ports a.port then refuse m a stRingDisabled n h.count h.bseq
      else if m.sec.act = .pause then refuse m a stPaused n h.count h.bseq
      else if h.fwd ∧ h.dest ≠ nodeId m then
        if !rec.forward then refuse m a stForwardDenied n h.count h.bseq
        else if (routeTo m h.dest).isNone then refuse m a stUnreachable n h.count h.bseq
        else flueUnicast (noteForward m a h.dest n) ftBatch h.dest bs
      else
        let r := m.ringAt n
        if r.phase == .open && r.epoch == h.epoch then checkSequence (takeNoteAck m n h.noteAck) a n h bs
        else if h.sync then checkSequence (openRing m n h) a n h bs
        else refuse m a stEpoch n h.count h.bseq

/-- The address of a frame's sender. -/
def senderOf (p : Fin 4) (e : Encap) (f : EthFrame) : NoteAddr :=
  { port := p.val, encap := e, mac := f.srcMac, ip := (f.ip.map (·.src)).getD 0, udpPort := (f.ip.map (·.srcPort)).getD 0,
    vlan := f.vlan.head?, node := 0 }

/-- BATCH (R141, R145): a frame arrives on a port. -/
def batchFrame (p : Fin 4) (f : EthFrame) (m : Module) : Module :=
  match batchEncap m p f with
  | none => dropFrame m p
  | some e =>
    let full := bufferFull m p.val f.payload.length
    let m := { m with ingest := { m.ingest with rxDropping := full } }
    if full then (dropFrame m p).raise Reg.INGEST_INT_STATUS 2
    else pauseNote (checkBatch (m.count (Reg.INGEST_PORT_RX_BATCH p.val)) (senderOf p e f) f.payload)

/-- FRAME_DROP (R141): a frame that is no batch. -/
def frameDrop (p : Fin 4) (f : EthFrame) (m : Module) : Module :=
  if (batchEncap m p f).isNone then dropFrame m p else m

/-- UPDATE (R147): every ACK_PERIOD, to each open ring whose credit limit has changed, the highest class first. -/
def updateRound (m : Module) : Module :=
  let m := m.advanceTo (m.ingest.lastUpdate + usT (m.cf Reg.INGEST_TIMING 15 0))
  let m := { m with ingest := { m.ingest with lastUpdate := m.mt } }
  let one := fun (m : Module) (n : Nat) =>
    let r := m.ringAt n
    match r.addr with
    | some a =>
      if r.phase = .open ∧ r.evLimit ≠ r.ackEv + w32 (grantOf m n) then sendAck m a stUpdate n 0 r.ackBseq else m
    | none => m
  (List.range 8).foldl (fun m i =>
    (List.range 64).foldl (fun m n => if m.cf (Reg.INGEST_RING_CFG n) 2 0 = 7 - i then one m n else m) m) m

/-! ## Notification streams (R155, R156, R158) -/

/-- A notification frame (R155). -/
def noteFrame (m : Module) (n : Nat) (ns : List StreamNote) : List Byte :=
  let first := ((ns.head?).map (·.nseq.toNat)).getD 0
  leBytes 1 3 ++ leBytes 1 0 ++ leBytes 1 n ++ leBytes 1 1 ++ leBytes 2 ns.length ++ leBytes 2 (m.ringAt n).epoch
    ++ leBytes 4 first ++ leBytes 4 0 ++ leBytes 8 m.mt ++ leBytes 8 0 ++ ns.flatMap (·.note.bytes)

/-- The most notifications of a frame: one while NOTE_COALESCE is 0 (R142, R155). -/
def frameLimit (m : Module) (a : NoteAddr) : Nat := if m.cf Reg.INGEST_TIMING 31 24 = 0 then 1 else batchLimit m a

/-- Send notifications in frames of at most `lim`. -/
def sendNotes (m : Module) (n : Nat) (a : NoteAddr) (lim : Nat) : Nat → List StreamNote → Module
  | 0, _ => m
  | _, [] => m
  | fuel + 1, ns => sendNotes (sendTo m a (noteFrame m n (ns.take lim))) n a lim fuel (ns.drop lim)

/-- NOTIFICATION_FRAME (R155): the next frame of a ring's stream leaves. -/
def notificationFrame (ring : Fin 64) (m : Module) : Module :=
  let n := ring.val
  let r := m.ringAt n
  let new := r.notes.filter (·.sent.isNone)
  match r.addr, new with
  | some a, x :: _ =>
    let co := m.cf Reg.INGEST_TIMING 31 24
    let lim := frameLimit m a
    let m := if new.length < lim then m.advanceTo (x.formed + usT co) else m
    let now := new.take lim
    let m := sendTo m a (noteFrame m n now)
    let mark := fun (y : StreamNote) => if now.any fun x => x.nseq == y.nseq then { y with sent := some m.mt } else y
    m.updRing n fun r => { r with notes := r.notes.map mark }
  | _, _ => m

/-- NOTE_RETX (R156): NOTE_RETX after a notification was last sent, every unreleased one is sent again. -/
def noteRetx (ring : Fin 64) (m : Module) : Module :=
  let n := ring.val
  let r := m.ringAt n
  match r.addr, (r.notes.filterMap (·.sent)).min? with
  | some a, some t =>
    let m := m.advanceTo (t + m.cf Reg.INGEST_TIMING 23 16 * 40000)
    let m := sendNotes m n a (frameLimit m a) r.notes.length r.notes
    m.updRing n fun r => { r with notes := r.notes.map fun y => { y with sent := some m.mt } }
  | _, _ => m

/-- RING_CLOSE (R144). -/
def ringClose (ring : Fin 64) (m : Module) : Module :=
  m.updRing ring.val fun r => if r.phase = .open then { r with phase := .idle } else r

/-- DISCARD_NOTES (R158). -/
def discardNotes (ring : Fin 64) (m : Module) : Module :=
  if (m.ringAt ring.val).notes.isEmpty then m
  else pauseNote ((m.updRing ring.val fun r => { r with notes := [] }).raise Reg.INGEST_INT_STATUS 7)

/-! ## Ports (R140, R141, R154) -/

/-- PORT_LINK_UP (R140). -/
def portLinkUp (p : Fin 4) (m : Module) : Module :=
  if m.cb (Reg.INGEST_PORT_CFG p.val) 31 ∧ !(netPort m p).link then
    (m.updPort p fun x => { x with link := true, present := true, los := false, txFault := false }).raise Reg.INGEST_INT_STATUS 1
  else m

/-- PORT_LINK_DOWN (R140, R154): what the SFP reports then is read in PORT_STATUS; a partly received frame is never
taken. -/
def portLinkDown (p : Fin 4) (present los txFault : Bool) (m : Module) : Module :=
  let sfp := decide (p.val < 2)
  let up := (netPort m p).link
  let m := m.updPort p fun x =>
    { x with link := false, present := present || !sfp, los := los && sfp, txFault := txFault && sfp }
  if up then m.raise Reg.INGEST_INT_STATUS 0 else m

/-- The address of an IPv6 sender. -/
def ipSender (p : Fin 4) (mac ip : Nat) : NoteAddr := ⟨p.val, .udp, mac, ip, 0, none, 0⟩

/-- An ICMPv6 message with its checksum over the pseudo-header. -/
def icmpBytes (src dst ty : Nat) (body : List Byte) : List Byte :=
  let pseudo := beBytes 16 src ++ beBytes 16 dst ++ beBytes 4 (body.length + 4) ++ beBytes 4 58
  let sum := inetSum (pseudo ++ beBytes 1 ty ++ beBytes 1 0 ++ beBytes 2 0 ++ body)
  beBytes 1 ty ++ beBytes 1 0 ++ beBytes 2 sum ++ body

/-- NEIGHBOUR_SOLICITATION (R141): answered when it asks for one of the port's own addresses. -/
def neighbourSolicitation (p : Fin 4) (mac ip target : Nat) (m : Module) : Module :=
  if m.cb (Reg.INGEST_PORT_CFG p.val) 31 ∧ ownIp m p target then
    let body := beBytes 4 0x60000000 ++ beBytes 16 target ++ beBytes 1 2 ++ beBytes 1 1 ++ beBytes 6 (netPort m p).mac
    m.send (.net p (ipSender p mac ip)) (icmpBytes target ip 136 body)
  else m

/-- ECHO_REQUEST (R141): answered with its own identifier, sequence number and data. -/
def echoRequest (p : Fin 4) (mac ip dst : Nat) (body : List Byte) (m : Module) : Module :=
  if m.cb (Reg.INGEST_PORT_CFG p.val) 31 ∧ ownIp m p dst then
    m.send (.net p (ipSender p mac ip)) (icmpBytes dst ip 129 body)
  else m

end Sys2Proof.Machine
end

