-- ==== Sys2Proof/Machine/Loop.lean ====
section
/-! DEFINITION. The loop engine: sample instants, feedback, targets, the profile generator, the control law, modes, banks,
outputs, trace and injection (11). -/

namespace Sys2Proof.Machine

/-! ## Arithmetic of the chapter (R231, R234) -/

/-- ROUND_SHR(x, s) (R231). -/
def roundShr (x : Int) (s : Nat) : Int := rdiv x (2 ^ s)

/-- Saturate to 64 bits (R235). -/
def sat64 (x : Int) : Int := clampI (-(2 ^ 63)) (2 ^ 63 - 1) x

/-- Integer square root by bits from bit `n - 1` down. -/
def isqrtFrom (x : Nat) : Nat → Nat → Nat
  | 0, r => r
  | n + 1, r => isqrtFrom x n (if (r + 2 ^ n) * (r + 2 ^ n) ≤ x then r + 2 ^ n else r)

/-- The square root to the nearest integer. -/
def sqrtNear (x : Nat) : Nat :=
  let r := isqrtFrom x 64 0
  if r < x - r * r then r + 1 else r

/-! ## Cascades and sample instants (R228, R229) -/

/-- Loop `n`. -/
def lp (m : Module) (n : Nat) : LoopSt := Arr.getD m.loops.lp n LoopSt.reset

/-- The outer loop that feeds loop `n`. -/
def feederOf (m : Module) (n : Nat) : Option LoopRec :=
  (m.recs.loops.find? fun l => l.2.outKind == .setpoint && l.2.outIndex == n).map (·.2)

/-- Cascade position: outermost 0. -/
def cascadePos (m : Module) : Nat → Nat → Nat
  | 0, _ => 0
  | fuel + 1, n => match feederOf m n with
    | some f => cascadePos m fuel f.loop + 1
    | none => 0

/-- The innermost loop that loop `l` leads to, and the product of the DIVIDERs on the way (R228). -/
def innermost (m : Module) : Nat → LoopRec → Nat → Nat × Nat
  | 0, l, d => (l.loop, d)
  | fuel + 1, l, d =>
    if l.outKind = .setpoint then
      match m.recs.loopAt l.outIndex with
      | some i => innermost m fuel i (d * l.divider)
      | none => (l.loop, d)
    else (l.loop, d)

/-- The sample period in ticks and the phase in ticks of a loop (R228). -/
def loopGrid (m : Module) (l : LoopRec) : Nat × Nat :=
  let (i, d) := innermost m 4 l 1
  (usT (m.cf (Reg.LOOP_LP_CFG i) 13 0) * d, usT (m.cf (Reg.LOOP_LP_CFG i) 29 16))

/-- The first sample instant of a loop at or after MT `t`. -/
def nextSample (m : Module) (l : LoopRec) (t : Nat) : Option Nat :=
  let (p, ph) := loopGrid m l
  if p = 0 then none else some (ph % p + cdiv (t - ph % p) p * p)

/-- The next MT at which some loop is sampled. -/
def nextLoopMt (m : Module) : Option Nat :=
  let from_ := if m.recs.loops.any fun l => (lp m l.2.loop).sampleMt == m.mt && m.mt != 0 then m.mt + 1 else m.mt
  (m.recs.loops.filterMap fun l => nextSample m l.2 from_).min?

/-- Insert a loop by cascade position, then number (R229). -/
def insLoop (m : Module) (x : LoopRec) : List LoopRec → List LoopRec
  | [] => [x]
  | y :: ys =>
    let a := cascadePos m 4 x.loop
    let b := cascadePos m 4 y.loop
    if a < b ∨ (a = b ∧ x.loop < y.loop) then x :: y :: ys else y :: insLoop m x ys

/-- The loops due at `t`, in the order they are computed. -/
def dueLoops (m : Module) (t : Nat) : List LoopRec :=
  (m.recs.loops.filter fun l => nextSample m l.2 t == some t).foldl (fun a l => insLoop m l.2 a) []

/-! ## Feedback (R230, R231, R413) -/

def rawMax : Nat := 2 ^ 31 - 1

/-- The FI feedback of a sample at `t`: the raw value, and whether it formed a period (R413). -/
def fiRaw (x : LoopSt) (freq : Bool) (t : Nat) : Int × Bool :=
  match x.lastEdge with
  | some e =>
    if 0 < x.edges then
      let span := x.latest - e
      (if freq then ((satU 32 (rdiv (400000000000 * x.edges : Nat) span).toNat : Nat) : Int)
       else ((min rawMax (rdiv span (10 * x.edges)).toNat : Nat) : Int), true)
    else
      let age := t - x.latest
      if !x.formed then (if freq then 0 else (rawMax : Int), false)
      else if freq then (if age = 0 then x.raw else min x.raw (rdiv 400000000000 age), false)
      else (max x.raw ((min rawMax (rdiv age 10).toNat : Nat) : Int), false)
  | none => (if !x.formed then (if freq then 0 else (rawMax : Int)) else x.raw, false)

/-- The effective velocity of an axis in whole counts/s; 0 while it is DOWN or in ACQUIRE. -/
def axisSpeed (m : Module) (n : Nat) : Int :=
  match axisPred m n with
  | some q => sat32 (rdiv q.vn (q.vd * qOne.toNat))
  | none => 0

/-- Latch the raw feedback of a loop at `t`, with the number of new values behind it (R230). -/
def latchFb (m : Module) (l : LoopRec) (t : Nat) : LoopSt :=
  let x := lp m l.loop
  match l.fbKind with
  | .ai => { x with raw := (aiCode m l.fbIndex : Int) }
  | .fiFreq | .fiPeriod =>
    let (r, formed) := fiRaw x (l.fbKind == .fiFreq) t
    { x with raw := r, formed := x.formed || formed, newVals := b2n formed,
             lastEdge := if 0 < x.edges then some x.latest else x.lastEdge, edges := 0 }
  | .can => { x with raw := x.canRaw }
  | .axisVel =>
    let k := match fin? 15 l.fbIndex with
      | some i => (axisAt m i).accepted
      | none => 0
    { x with raw := axisSpeed m l.fbIndex, newVals := k - x.seenUpd, seenUpd := k }
  | .software =>
    match x.fbArm with
    | some (at_, v) => if at_ ≤ t then { x with raw := v, fbSw := v, fbArm := none, newVals := x.newVals + 1 } else { x with raw := x.fbSw }
    | none => { x with raw := x.fbSw }

/-- A signed register in force. -/
def cfgI (m : Module) (off : Nat) : Int := sWord (m.cfg off)
/-- A signed stored register. -/
def rdI (m : Module) (off : Nat) : Int := sWord (m.rd off)

/-- The feedback in set-point units (R231). -/
def scaleFb (m : Module) (n : Nat) (raw : Int) : Int :=
  sat32 (roundShr (raw * cfgI m (Reg.LOOP_LP_FB_GAIN n)) (m.cf (Reg.LOOP_LP_FB_CFG n) 4 0) + cfgI m (Reg.LOOP_LP_FB_OFFSET n))

/-! ## The profile generator (R234) -/

/-- One step of the generator over `nt` ticks. -/
def generate (vmax amax jmax : Nat) (nt : Nat) (x : LoopSt) : LoopSt :=
  let gq := x.g * 65536
  if vmax = 0 then { x with r := gq, v := 0, a := 0 }
  else
    let dist := gq - x.r
    let vm : Int := (vmax : Int) * 65536
    let am : Int := (amax : Int) * 65536
    let vlim : Int := if amax = 0 then vm else min vm (sqrtNear (2 * amax * dist.natAbs * 65536) : Nat)
    let vd := sgn dist * vlim
    let ad := rdiv ((vd - x.v) * fclk) nt
    let ad := if amax = 0 then ad else clampI (-am) am ad
    let j := rdiv ((jmax : Int) * 65536 * nt) fclk
    let a := if jmax = 0 then ad else x.a + clampI (-j) j (ad - x.a)
    let v := clampI (-vm) vm (x.v + rdiv (a * nt) fclk)
    let r := x.r + rdiv (v * nt) fclk
    if sgn (gq - r) = sgn dist ∧ dist ≠ 0 then { x with r := r, v := v, a := a } else { x with r := gq, v := 0, a := 0 }

/-! ## Banks (R241, R242) -/

/-- Word `i` of the bank of loop `n`. -/
def bankReg (n : Nat) (b : Bool) (i : Nat) : Nat := Reg.LOOP_LP_BANKA_KP n + (if b then 0x40 else 0) + 4 * i

/-- The coefficients of a bank as signed values: KP, KI, KD, KF, then the limits from word 5 on. -/
def bankI (m : Module) (n : Nat) (b : Bool) (i : Nat) : Int := rdI m (bankReg n b i)

/-- Shift `i` of a bank: KP_SH, KI_SH, KD_SH, KF_SH, DF_SH. -/
def bankSh (m : Module) (n : Nat) (b : Bool) (i : Nat) : Nat := m.rf (bankReg n b 4) (5 * i + 4) (5 * i)

/-- Limit the integrator to a bank's clamp: the value and whether it was limited (R235 step 3). -/
def limitI (m : Module) (n : Nat) (b : Bool) (i : Int) : Int × Bool :=
  let y := clampI (bankI m n b 5 * 65536) (bankI m n b 6 * 65536) i
  (y, y != i)

/-- An EVT flag of loop `n`. -/
def loopEvt (m : Module) (n b : Nat) : Module := m.raise (Reg.LOOP_LP_EVT n) b

/-- A bank that has its limits the right way round (R248). -/
def bankOk (m : Module) (n : Nat) (b : Bool) : Bool :=
  decide (bankI m n b 5 ≤ bankI m n b 6 ∧ bankI m n b 7 ≤ bankI m n b 8)

/-- A changed BANK_SEL takes effect (R241, R242, R248); INT_CLAMPED starts a sample as what that does to I (R236). -/
def takeBank (m : Module) (n : Nat) : Module :=
  let sel := bit (m.rd (Reg.LOOP_LP_MODE n)) 4
  let x := lp m n
  if sel = x.bank then m.updLoop n fun x => { x with intClamped := false }
  else if !bankOk m n sel then
    loopEvt ((m.setBit (Reg.LOOP_LP_MODE n) 4 x.bank).updLoop n fun x => { x with intClamped := false }) n 6
  else
    let (i, moved) := limitI m n sel x.i
    let m := m.updLoop n fun x => { x with bank := sel, i := i, intClamped := moved }
    if moved then loopEvt m n 1 else m

/-- A write to a bank register of loop `n` (R241): ignored on the active bank. -/
def bankWrite (n : Nat) (off : Nat) (w : Word) (m : Module) : Module :=
  let b := decide (Reg.LOOP_LP_BANKB_KP n ≤ off)
  if b = (lp m n).bank then loopEvt m n 5 else m.wr off w

/-! ## Whether the output obeys (R239) -/

/-- A load switch does not obey its loop. -/
def lsDeaf (m : Module) (n : Nat) : Bool :=
  let x := ls m n
  x.latched || x.wait != .none || x.limp.isSome || x.heldUntil.isSome

/-- The loop's physical output does not obey it. -/
def outOff (m : Module) (l : LoopRec) : Bool :=
  match l.outKind with
  | .none | .setpoint => false
  | .lsPwm => !m.armed || lsDeaf m l.outIndex
  | .bridge => !m.armed || lsDeaf m (2 * l.outIndex) || lsDeaf m (2 * l.outIndex + 1)
  | .valvePwm => !m.armed || blocked m l.outIndex
  | .foPwm => !m.armed || foBlocked m l.outIndex
  | .can => canDead m l.outIndex

/-- The integrator is held. -/
def intHeld (m : Module) (l : LoopRec) : Bool :=
  outOff m l || (l.outKind == .setpoint && (lp m l.outIndex).mode != .auto)

/-! ## Injection (R246) -/

/-- Injection settings. -/
def injLoop (m : Module) : Nat := m.rf Reg.LOOP_INJ_CFG 19 15
def injPoint (m : Module) : Nat := m.rf Reg.LOOP_INJ_CFG 21 20
def injLength (m : Module) : Nat := m.rf Reg.LOOP_INJ_CFG 14 0

/-- What is added to point `p` of loop `n` at this sample. -/
def injWord (m : Module) (n p : Nat) : Int :=
  if m.loops.inj = .running ∧ injLoop m = n ∧ injPoint m = p then rdI m (Reg.LOOP_INJ_TABLE m.loops.injIx) else 0

/-! ## The control law (R235 to R238) -/

/-- The modes' codes (LOOP_LP STATUS.MODE). -/
def LMode.code : LMode → Nat
  | .stop => 0 | .manual => 1 | .auto => 2

/-- The mode asked for; 0b11 is ignored. -/
def wantedMode (m : Module) (n : Nat) : LMode :=
  match m.rf (Reg.LOOP_LP_MODE n) 1 0 with
  | 0 => .stop
  | 1 => .manual
  | 2 => .auto
  | _ => (lp m n).mode

/-- A start from STOP: r is the measurement; the rest of the history is seeded by the sample itself (R238). -/
def startLoop (m : Module) (n : Nat) (x : LoopSt) : LoopSt × Bool :=
  let (i, lim) := limitI m n x.bank (cfgI m (Reg.LOOP_LP_INT_INIT n) * 65536)
  ({ x with r := x.y * 65536, v := 0, a := 0, filt := 0, i := i }, lim)

/-- Steps 1, 2 and 4 to 7 of R235; at a start the derivative input has no past. -/
def lawTerms (m : Module) (n : Nat) (start : Bool) (x : LoopSt) : LoopSt :=
  let c := m.cfg (Reg.LOOP_LP_CFG n)
  let r := sat32 (roundShr x.r 16 + injWord m n 0)
  let e := if bit c 31 then sat32 (x.y - r) else sat32 (r - x.y)
  let b := x.bank
  let p := roundShr (bankI m n b 0 * e) (bankSh m n b 0)
  let dx := if bit c 30 then e else sat32 (-x.y)
  let dl := if start then 0 else sat32 (dx - x.xPrev)
  let filt := sat64 (x.filt + roundShr (dl * 65536 - x.filt) (bankSh m n b 4))
  let d := roundShr (bankI m n b 2 * filt) (bankSh m n b 2 + 16)
  let f := roundShr (bankI m n b 3 * r) (bankSh m n b 3)
  { x with e := e, p := p, xPrev := dx, filt := filt, d := d, f := f }

/-- OUT_MIN and OUT_MAX of the active bank. -/
def clampOut (m : Module) (n : Nat) (b : Bool) (u : Int) : Int := clampI (bankI m n b 7) (bankI m n b 8) u

/-- Step 3 and step 8 in AUTO (R235). -/
def autoLaw (m : Module) (n : Nat) (held : Bool) (x : LoopSt) : LoopSt :=
  let b := x.bank
  let (i, lim) := if held then (x.i, false)
    else limitI m n b (sat64 (x.i + roundShr (bankI m n b 1 * x.e * 65536) (bankSh m n b 1)))
  let raw := sat32 (sat64 (x.p + roundShr i 16 + x.d + x.f) + injWord m n 2)
  let u := clampOut m n b raw
  { x with i := i, u := u, intClamped := x.intClamped || lim, outClamped := u != raw }

/-- MANUAL: the output is MAN_OUT and the integrator tracks it unless held (R237). -/
def manualLaw (m : Module) (n : Nat) (held : Bool) (x : LoopSt) : LoopSt :=
  let b := x.bank
  let u := clampOut m n b (rdI m (Reg.LOOP_LP_MAN_OUT n))
  let (i, lim) := if held then (x.i, false) else limitI m n b (sat64 ((u - x.p - x.d - x.f) * 65536))
  { x with i := i, u := u, intClamped := x.intClamped || lim, outClamped := false }

/-- The target of a sample at `t` (R233). -/
def takeTarget (m : Module) (l : LoopRec) (t : Nat) : Module :=
  let n := l.loop
  if (feederOf m n).isSome then m
  else
    let (v, m) := takeSetpts m n t
    let m := match v with
      | some w => m.updLoop n fun x => { x with g := sWord w }
      | none => m
    match (lp m n).sp with
    | some (at_, v) => if at_ ≤ t then m.updLoop n fun x => { x with g := v, sp := none } else m
    | none => m

/-- The range that the kind of output applies to u after the bank's clamp (R240). -/
def OutKind.range (k : OutKind) (u : Int) : Int :=
  match k with
  | .lsPwm | .valvePwm | .foPwm => clampI 0 65535 u
  | .bridge => clampI (-65535) 65535 u
  | .none | .can | .setpoint => sat32 u

/-- Freshness (R244). -/
def LoopSt.freshen (x : LoopSt) : LoopSt :=
  if 0 < x.newVals then { x with fresh := (x.fresh + x.newVals) % 65536, staleN := 0, newVals := 0 }
  else { x with staleN := satU 16 (x.staleN + 1) }

/-- The stage a loop's sample takes is valid (R248). -/
def loopStageOk (m : Module) (n : Nat) (s : Stage) : Bool :=
  let outer := match m.recs.loopAt n with
    | some l => l.outKind == .setpoint
    | none => false
  let pwm := match m.recs.loopAt n with
    | some l => l.outKind == .valvePwm && !pwmMode m (s.f (Reg.LOOP_LP_OUT_CFG n) 3 0)
    | none => false
  let per := s.f (Reg.LOOP_LP_CFG n) 13 0
  let ph := s.f (Reg.LOOP_LP_CFG n) 29 16
  (outer || decide (50 ≤ per ∧ per ≤ 10000 ∧ ph < per)) && !pwm
    && !((s.val (Reg.LOOP_LP_GEN_AMAX n) ≠ 0 ∨ s.val (Reg.LOOP_LP_GEN_JMAX n) ≠ 0) && s.val (Reg.LOOP_LP_GEN_VMAX n) == 0)

/-- The pending stage of a loop is taken at its boundary (R17, R248). -/
def takeLoopStage (m : Module) (n : Fin 32) : Module :=
  match stageDue m (.loop n) with
  | none => m
  | some s =>
    let m := dropStage m (.loop n)
    if loopStageOk m n.val s then putInForce m s else loopEvt m n.val 6

/-- One loop is computed at `t` (R229 to R239). -/
def computeLoop (t : Nat) (m : Module) (l : LoopRec) : Module :=
  let n := l.loop
  let m := match fin? 32 n with
    | some i => takeLoopStage m i
    | none => m
  let m := takeTarget (takeBank m n) l t
  let old := (lp m n).mode
  let want := wantedMode m n
  let m := if want = old then m else loopEvt m n 0
  if want = .stop then
    let x := latchFb m l t
    let m := m.updLoop n fun _ =>
      { x with y := scaleFb m n x.raw, mode := .stop, u := 0, sampleMt := t, newVals := 0, outClamped := false, intHeld := false,
               outOff := outOff m l }
    if l.outKind = .setpoint then m.updLoop l.outIndex fun x => { x with g := 0 } else m
  else
    let x := latchFb m l t
    let x := { x with y := sat32 (scaleFb m n x.raw + injWord m n 1) }
    let start := old == .stop
    let (x, lim0) := if start then startLoop m n x else (x, false)
    let x := generate (m.cfg (Reg.LOOP_LP_GEN_VMAX n)).toNat (m.cfg (Reg.LOOP_LP_GEN_AMAX n)).toNat
      (m.cfg (Reg.LOOP_LP_GEN_JMAX n)).toNat (loopGrid m l).1 x
    let held := intHeld m l
    let x := lawTerms m n start x
    let x := if want = .auto then autoLaw m n held x else manualLaw m n held x
    let onset := held && !x.intHeld
    let x := ({ x with mode := want, u := l.outKind.range x.u, sampleMt := t, intHeld := held, outOff := outOff m l, intClamped := x.intClamped || lim0 }).freshen
    let m := m.updLoop n fun _ => x
    let m := if x.intClamped then loopEvt m n 1 else m
    let m := if x.outClamped then loopEvt m n 2 else m
    let m := if onset then loopEvt m n 3 else m
    if l.outKind = .setpoint then m.updLoop l.outIndex fun y => { y with g := x.u } else m

/-! ## Outputs (R240) -/

/-- A loop's output reaches its target. -/
def presentLoop (m : Module) (l : LoopRec) : Module :=
  let x := lp m l.loop
  let duty := x.u.toNat
  let dead := outOff m l
  match l.outKind with
  | .none | .setpoint => m
  | .lsPwm =>
    let old := lsDuty m l.outIndex
    if lsDeaf m l.outIndex then m
    else lsReact (m.updLs l.outIndex fun y => { y with u := if dead then 0 else duty }) l.outIndex old
  | .bridge =>
    ([2 * l.outIndex, 2 * l.outIndex + 1] : List Nat).foldl (fun m n =>
      let old := lsDuty m n
      if lsDeaf m n then m
      else lsReact (m.updLs n fun y => { y with u := if m.armed then x.u else 0 }) n old) m
  | .valvePwm => vcSetLevel m l.outIndex (if dead then 0 else duty) (m.cf (Reg.LOOP_LP_OUT_CFG l.loop) 3 0)
  | .can => if x.mode = .stop then m else loopObject m l.outIndex x.u
  | .foPwm =>
    let old := foDuty m l.outIndex
    let m := m.updFo l.outIndex fun y => { y with u := if dead then 0 else duty }
    if foDuty m l.outIndex = old then m else m.updFio fun s => { s with dutyNew := s.dutyNew ++ [l.outIndex] }

/-! ## Trace (R245) -/

/-- A signal of a loop by its code (R245). -/
def loopSignal (x : LoopSt) (c : Nat) : Word :=
  wInt (match c with
    | 0 => x.g
    | 1 => roundShr x.r 16
    | 2 => x.y
    | 3 => x.e
    | 4 => sat32 x.p
    | 5 => sat32 (roundShr x.i 16)
    | 6 => sat32 x.d
    | 7 => x.u
    | 8 => x.raw
    | 9 => sat32 x.f
    | _ => 0)

/-- Trace channel `c` is enabled and its loop. -/
def trLoop (m : Module) (c : Nat) : Option Nat :=
  let r := Reg.LOOP_TRACE_CH_SEL c
  if m.rf r 15 15 = 1 then some (m.rf r 4 0) else none

/-- Words before and from the trigger sample on (R245). -/
def trPre (m : Module) : Nat := m.rf Reg.LOOP_TRACE_CTL 11 0
def trDepth : Nat := 4096

/-- Channels on which DONE and the trigger wait: enabled, their loop in AUTO or MANUAL. -/
def trActive (m : Module) : List (Fin 8) :=
  (List.finRange 8).filter fun c => match trLoop m c.val with
    | some n => (m.recs.loopAt n).isSome && (lp m n).mode != .stop
    | none => false

/-- Samples of channel `c`, newest first. -/
def trSamples (m : Module) (c : Fin 8) : List (Nat × Word) := Arr.at' m.loops.samples c

/-- Record the samples of the loops computed at `t`. -/
def trRecord (m : Module) (t : Nat) : Module :=
  if m.loops.trace ≠ .armed ∧ m.loops.trace ≠ .triggered then m
  else
    let add := fun (c : Fin 8) (l : List (Nat × Word)) =>
      match trLoop m c.val with
      | some n =>
        let x := lp m n
        let post := (l.filter fun s => decide (m.loops.trigMt ≤ s.1)).length
        if x.mode = .stop ∨ x.sampleMt ≠ t ∨ (m.recs.loopAt n).isNone then l
        else if m.loops.trace = .triggered ∧ trDepth - trPre m ≤ post then l
        else ((t, loopSignal x (m.rf (Reg.LOOP_TRACE_CH_SEL c.val) 11 8)) :: l).take trDepth
      | none => l
    { m with loops := { m.loops with samples := Arr.mapIdx add m.loops.samples } }

/-- The trigger's own condition at `t` (R245). -/
def trFires (m : Module) (t : Nat) : Bool :=
  let lvl := rdI m Reg.LOOP_TRACE_LEVEL
  match m.rf Reg.LOOP_TRACE_CTL 29 28 with
  | 0 => true
  | 3 =>
    let n := m.rf Reg.LOOP_TRACE_CTL 20 16
    (m.rd (Reg.LOOP_LP_EVT n) &&& m.rd (Reg.LOOP_LP_EVT_EN n)) != 0
  | k => match trSamples m 0 with
    | (t1, w1) :: (_, w0) :: _ =>
      t1 == t && (if k = 1 then decide (sWord w0 < lvl ∧ lvl ≤ sWord w1) else decide (lvl < sWord w0 ∧ sWord w1 ≤ lvl))
    | _ => false

/-- The trace moves on after a sample instant: the trigger, and the end of the capture. -/
def trAdvance (m : Module) (t : Nat) : Module :=
  let m :=
    if m.loops.trace = .armed ∧ !(trActive m).isEmpty
        ∧ (trActive m).all (fun c => decide (trPre m ≤ ((trSamples m c).filter fun s => decide (s.1 < t)).length))
        ∧ trFires m t then
      let keep := fun (l : List (Nat × Word)) =>
        l.filter (fun s => decide (t ≤ s.1)) ++ (l.filter fun s => decide (s.1 < t)).take (trPre m)
      { m with loops := { m.loops with trace := .triggered, trigMt := t, samples := Arr.mapIdx (fun _ l => keep l) m.loops.samples } }
    else m
  if m.loops.trace = .triggered
      ∧ (trActive m).all (fun c => decide (trDepth - trPre m ≤ ((trSamples m c).filter fun s => decide (m.loops.trigMt ≤ s.1)).length)) then
    { m with loops := { m.loops with trace := .done } }
  else m

/-- TRACE_START (R245). -/
def traceStart (m : Module) : Module :=
  match m.loops.trace with
  | .idle | .done => { m with loops := { m.loops with trace := .armed, samples := Arr.fill 8 [], trigMt := 0 } }
  | .armed | .triggered => m

/-- TRACE_STOP (R245). -/
def traceStop (m : Module) : Module :=
  match m.loops.trace with
  | .armed | .triggered => { m with loops := { m.loops with trace := .idle, samples := Arr.fill 8 [], trigMt := 0 } }
  | .idle | .done => m

/-- The injection after a sample of its loop: capture, next word, end (R246). -/
def injAdvance (m : Module) (t : Nat) : Module :=
  if m.loops.inj ≠ .running then m
  else
    let x := lp m (injLoop m)
    if x.mode = .stop ∧ x.sampleMt = t then { m with loops := { m.loops with inj := .aborted } }
    else if x.sampleMt ≠ t ∨ (m.recs.loopAt (injLoop m)).isNone then m
    else
      let a := loopSignal x (m.rf Reg.LOOP_INJ_CFG 27 24)
      let b := loopSignal x (m.rf Reg.LOOP_INJ_CFG 31 28)
      let i := m.loops.injIx + 1
      { m with loops := { m.loops with cap := b :: a :: m.loops.cap, injIx := i,
                                       inj := if injLength m ≤ i then .done else .running } }

/-- INJ_START (R246). -/
def injStart (m : Module) : Module :=
  if m.loops.inj = .running ∨ injLength m = 0 ∨ 16384 < injLength m then m
  else { m with loops := { m.loops with inj := .running, injIx := 0, cap := [] } }

/-- INJ_STOP (R246). -/
def injStop (m : Module) : Module :=
  if m.loops.inj = .running then { m with loops := { m.loops with inj := .aborted } } else m

/-! ## The commands -/

/-- LOOP_SAMPLE (R229): every loop due at the next sample instant is computed, and presented 800 ticks later. -/
def loopSample (m : Module) : Module :=
  match nextLoopMt m with
  | none => m
  | some t =>
    let m := (m.advanceTo t).enterPhase 7
    let due := dueLoops m t
    let m := due.foldl (computeLoop t) m
    let m := injAdvance (trAdvance (trRecord m t) t) t
    due.foldl presentLoop (m.advanceTo (t + 800))

/-- The MT that the low 32 bits of a software value name, within 2^31 ticks of the write (R232). -/
def softMt (m : Module) (w : Word) : Nat := ((m.mt : Int) + sx 32 ((w.toNat + 2 ^ 64 - m.mt) % 2 ^ 32)).toNat

/-- SP_VALUE (R232): ignored, with SP_IGNORED, where another loop owns the set-point. -/
def spValue (n : Fin 32) (w : Word) (m : Module) : Module :=
  if (m.recs.loopAt n.val).isNone then m
  else if (feederOf m n.val).isSome then loopEvt m n.val 4
  else
    let m := m.wr (Reg.LOOP_LP_SP_VALUE n.val) w
    let at_ := softMt m (m.rd (Reg.LOOP_LP_SP_MT n.val))
    m.updLoop n.val fun x => { x with sp := some (at_, sWord w) }

/-- FB_SW_VALUE (R232). -/
def fbSwValue (n : Fin 32) (w : Word) (m : Module) : Module :=
  if (m.recs.loopAt n.val).isNone then m
  else
    let m := m.wr (Reg.LOOP_LP_FB_SW_VALUE n.val) w
    let at_ := softMt m (m.rd (Reg.LOOP_LP_FB_SW_MT n.val))
    m.updLoop n.val fun x => { x with fbArm := some (at_, sWord w) }

/-- The bank registers of loop `n`. -/
def bankOffs (n : Nat) : List Nat := ((List.range 9).map (bankReg n false)) ++ (List.range 9).map (bankReg n true)

/-- SAVE_BANKS (R247): both banks and BANK_SEL go to MRAM. -/
def saveBanks (n : Fin 32) (m : Module) : Module :=
  if (m.recs.loopAt n.val).isNone then m
  else
    let old := Arr.at' m.loops.stored n
    let regs := (bankOffs n.val).foldl (fun s o => Sparse.set resetOf s o (m.rd o)) ([] : Sparse Word)
    let r : StoredBanks := { serial := m.serial, structId := m.structId, gen := (old.map (·.gen)).getD 0 + 1, regs := regs,
                             sel := bit (m.rd (Reg.LOOP_LP_MODE n.val)) 4, crcOk := true }
    { m with loops := { m.loops with stored := Arr.put m.loops.stored n (some r) } }

/-- Resident firmware writes stored banks back after a swap (R247). -/
def restoreBanks (m : Module) : Module :=
  (List.finRange 32).foldl (fun m n =>
    match Arr.at' m.loops.stored n with
    | none => m
    | some r =>
      if (m.recs.loopAt n.val).isNone then m
      else if r.crcOk ∧ r.serial = m.serial ∧ r.structId = m.structId then
        let m := (bankOffs n.val).foldl (fun m o => m.wr o (Sparse.get resetOf r.regs o)) m
        m.setBit (Reg.LOOP_LP_MODE n.val) 4 r.sel
      else loopEvt m n.val 7) m

end Sys2Proof.Machine
end

