-- ==== Sys2Proof/Machine/Flue.lean ====
section
/-! DEFINITION. The Flue chain: links, presence and routes, the ring's gap, IDs, election, time, published axes and forwarded
batches (R273 to R292, R295, R296). -/

namespace Sys2Proof.Machine

/-- Change the Flue unit. -/
def Module.updFlue (m : Module) (f : FlueSt → FlueSt) : Module := { m with flue := f m.flue }

def flueInt (m : Module) (i : Nat) : Module := m.raise Reg.FLUE_INT_STATUS i

/-- Some port is UP. -/
def anyUp (m : Module) : Bool := (fport m 0).up || (fport m 1).up

/-- A good frame arrived on port `q`. -/
def rxGood (m : Module) (q : Fin 2) : Module := (m.updFPort q fun p => { p with badRun := 0 }).count (Reg.FLUE_PORT_RX_FRAMES q.val)

/-- A frame is dropped and counted (R275, R276). -/
def flueDrop (m : Module) (q : Fin 2) : Module := m.addSat (Reg.FLUE_PORT_DROP q.val) 31 0 1

/-- A received frame goes on out of port `q`, one hop further (R274, R276). -/
def relayOut (m : Module) (q : Fin 2) (ty : Nat) (f : FlueFrameIn) (payload : List Byte) : Module :=
  if carries m q then flueOut m q (flueFrame ty f.src f.dest ((f.hops + 1) % 65536) f.seq payload) else m

/-- A broadcast frame is relayed to the other port. -/
def relayBroadcast (m : Module) (q : Fin 2) (ty : Nat) (f : FlueFrameIn) : Module := relayOut m (otherPort q) ty f f.payload

/-- A unicast frame: `sink` when it is for this module and its ID is not yielded, else on its way or dropped (R276, R280). -/
def unicastIn (m : Module) (q : Fin 2) (ty : Nat) (f : FlueFrameIn) (sink : Module → Module) : Module :=
  if !carries m q then m
  else
    let m := rxGood m q
    if f.dest = nodeId m then (if yieldsId m then flueDrop m q else sink m)
    else match routeTo m f.dest with
      | some r => if r.port = q then flueDrop m q else relayOut m r.port ty f f.payload
      | none => flueDrop m q

/-! ## Links (R273, R284) -/

/-- Link delay of a port in units of 2^-16 ps: the mean of its measurements, each in half-ticks of 1,250 ps. -/
def delayPs16 (p : FPortSt) : Int := if p.delays.isEmpty then 0 else rdiv (p.delays.sum * 1250 * 65536 : Nat) p.delays.length

/-- LINK_FRAME (R284): the neighbour's frame arrives; the delay is measured when it echoes one of this module's. -/
def linkFrame (q : Fin 2) (f : FlueFrameIn) (m : Module) : Module :=
  let m := rxGood m q
  let send := leAt f.payload 8 8
  let echo := leAt f.payload 16 8
  let held := leAt f.payload 24 8
  let t := m.mt
  m.updFPort q fun p =>
    let p := { p with lock := true, neighbour := f.src, heard := some (send, t) }
    if echo ≠ 0 ∧ p.linkSent.isSome ∧ echo + held ≤ t then { p with delays := ((t - echo - held) :: p.delays).take 16 } else p

/-- LINK_FRAME_SEND (R275, R284): every 1 ms on each port. -/
def linkFrameSend (q : Fin 2) (m : Module) : Module :=
  let m := match (fport m q).linkSent with
    | some t => m.advanceTo (t + msTicks)
    | none => m
  let t := m.mt
  let (echo, held) := match (fport m q).heard with
    | some (s, a) => (s, t - a)
    | none => (0, 0)
  let (s, m) := flueSeq m ftLink
  let m := m.updFPort q fun p => { p with linkSent := some t }
  flueOut m q (flueFrame ftLink (nodeId m) 0 0 s (leBytes 8 m.serial.toNat ++ leBytes 8 t ++ leBytes 8 echo ++ leBytes 8 held))

/-! ## Presence (R278, R280, R281) -/

/-- PRESENCE payload of this module (R281). -/
def presencePayload (m : Module) (brk : Bool) : List Byte :=
  let k := ownKey m
  leBytes 8 k.serial ++ leBytes 1 k.cls ++ leBytes 1 k.prio ++ leBytes 1 (b2n brk + 2 * b2n m.flue.dup) ++ leBytes 5 0

/-- Broadcast a PRESENCE now. -/
def sendPresence (m : Module) (brk : Bool) : Module :=
  let t := m.mt
  (flueBroadcast m ftPresence (presencePayload m brk)).updFlue fun f => { f with presSent := some t }

/-- PRESENCE_SEND (R275, R281): every 100 ms, and at once after a topology change. -/
def presenceSend (topology : Bool) (m : Module) : Module :=
  let m := match m.flue.presSent with
    | some t => if topology then m else m.advanceTo (t + 100 * msTicks)
    | none => m
  sendPresence m false

/-- The gap held here is released; the chain is a line (R278). -/
def releaseGap (m : Module) : Module :=
  let had := (fport m 0).gap || (fport m 1).gap
  let m := (m.updFPort 0 fun p => { p with gap := false }).updFPort 1 fun p => { p with gap := false }
  let m := m.updFlue fun f => { f with ring := false }
  if had then flueInt m 2 else m

/-- PRESENCE (R278, R280, R281, R283): a route is learned; a conflict, a break and the master's key are seen. -/
def presence (q : Fin 2) (f : FlueFrameIn) (m : Module) : Module :=
  if !carries m q then m
  else
    let m := rxGood m q
    let serial := leAt f.payload 0 8
    let key : ElKey := ⟨byteAt f.payload 8, byteAt f.payload 9, serial⟩
    let flags := byteAt f.payload 10
    let t := m.mt
    let m := relayBroadcast m q ftPresence f
    if f.src = nodeId m then
      if serial = m.serial.toNat then m
      else
        let on := !m.flue.dup
        let m := m.updFlue fun x => { x with dup := true, dupMt := t, dupSerial := serial }
        if on then flueInt m 7 else m
    else
      let r : Route := ⟨f.src, q, f.hops + 1, t, key⟩
      let own := ownKey m
      let m := m.updFlue fun x =>
        { x with routes := (x.routes.filter (·.id != f.src)) ++ [r],
                 beats := if x.master = some f.src then (if own.beats key then some (x.beats.getD t) else none) else x.beats }
      if tb flags 0 then releaseGap m else m

/-- DUP_ID_CLEAR (R280): no conflict for 1 s. -/
def dupIdClear (m : Module) : Module :=
  if m.flue.dup then (m.advanceTo (m.flue.dupMt + secTicks)).updFlue fun f => { f with dup := false } else m

/-- ROUTE_EXPIRY (R281): 350 ms after the last PRESENCE of the entry heard longest ago. -/
def routeExpiry (m : Module) : Module :=
  match (m.flue.routes.map (·.seen)).min? with
  | none => m
  | some s =>
    let m := m.advanceTo (s + 350 * msTicks)
    let t := m.mt
    m.updFlue fun f => { f with routes := f.routes.filter fun r => decide (t < r.seen + 350 * msTicks) }

/-! ## Ports and the ring (R273, R277, R278) -/

/-- The master is another one, or none. -/
def setMaster (m : Module) (x : Option Nat) : Module :=
  if m.flue.master = x then m else flueInt (m.updFlue fun f => { f with master := x, beats := none }) 3

/-- A change of chain time state. -/
def setFState (m : Module) (s : FState) : Module := setTimeSrc (m.updFlue fun f => { f with fstate := s })

/-- FLUE_PORT_UP (R273, R277): a link comes up; the one that closes a ring comes up as its gap. -/
def fluePortUp (q : Fin 2) (closes : Bool) (m : Module) : Module :=
  let p := fport m q
  if p.up || !p.lock || p.delays.isEmpty then m
  else
    let t := m.mt
    let m := m.updFPort q fun p => { p with up := true, gap := closes, badRun := 0 }
    let m := m.updFlue fun f => { f with firstUp := some (f.firstUp.getD t), ring := f.ring || closes }
    flueInt m 1

/-- A port goes DOWN (R273, R278): with no port UP the module is ALONE; at the end of a broken ring it says so. -/
def portDown (m : Module) (q : Fin 2) : Module :=
  let p := fport m q
  let m := m.updFPort q fun _ => { FPortSt.reset with linkSent := p.linkSent }
  if !p.up then m
  else
    let broke := m.flue.ring && !p.gap
    let m := flueInt m 0
    let m := m.updFlue fun f => { f with ring := false }
    let m := if broke then sendPresence (if (fport m (otherPort q)).gap then releaseGap m else m) true else m
    if anyUp m then m else setFState (setMaster m none) .alone

/-- FLUE_PORT_DOWN (R273): block lock is lost. -/
def fluePortDown (q : Fin 2) (m : Module) : Module := portDown m q

/-- FLUE_FRAME_DISCARD (R273 to R275): a bad CRC, the eighth in a row taking the port down, or an unknown TYPE. -/
def flueFrameDiscard (q : Fin 2) (k : FlueBad) (m : Module) : Module :=
  match k with
  | .type => flueDrop (rxGood m q) q
  | .crc =>
    let m := (m.updFPort q fun p => { p with badRun := p.badRun + 1 }).addSat (Reg.FLUE_PORT_RX_ERR q.val) 31 0 1
    if 8 ≤ (fport m q).badRun then portDown m q else m

/-- Modules of the segment (R277). -/
def chainCount (m : Module) : Nat := m.flue.routes.length + 1

/-- This module's place counted along FB from node `id`: hops by FA, or the rest of the way round by FB (R277, R279). -/
def placeFrom (m : Module) (id : Nat) : Nat :=
  if id = nodeId m then 0
  else match m.flue.routes.find? (·.id == id) with
    | some r => if r.port = 0 then r.hops else chainCount m - r.hops
    | none => 0

/-- The gap moves to the link opposite the master (R277), as far as this module's own links go. -/
def placeGap (m : Module) : Module :=
  match m.flue.master with
  | none => m
  | some id =>
    if !m.flue.ring then m
    else
      let n := chainCount m
      let p := placeFrom m id
      let fb := decide (p = n / 2)
      let fa := decide (p = (n / 2 + 1) % n)
      let moved := (fport m 0).gap != fa || (fport m 1).gap != fb
      let m := (m.updFPort 0 fun x => { x with gap := fa }).updFPort 1 fun x => { x with gap := fb }
      if moved then flueInt m 2 else m

/-- GAP_PLACEMENT, within 100 ms after a ring closed, and PLACE_GAP, written on the master (R277). -/
def gapPlacement (m : Module) : Module := placeGap m
def placeGapCmd (m : Module) : Module := if m.flue.fstate = .master then placeGap m else m

/-! ## Enumeration (R279) -/

/-- The position p: in a ring from the lowest serial along FB, in a line the hops to its FA end. -/
def position (m : Module) : Nat :=
  if m.flue.ring then
    let best := m.flue.routes.foldl (fun (b : Nat × Option Nat) r => if r.key.serial < b.1 then (r.key.serial, some r.id) else b)
      (m.serial.toNat, none)
    match best.2 with
    | some id => placeFrom m id
    | none => 0
  else ((m.flue.routes.filter (·.port == 0)).map (·.hops)).foldl max 0

/-- Fix the position. -/
def enumerate (m : Module) : Module :=
  let p := position m
  m.updFlue fun f => { f with pos := p, fixed := true }

/-- POSITION_ENUMERATION: 50 ms after the first port came UP since power-on. -/
def positionEnumeration (m : Module) : Module :=
  match m.flue.firstUp with
  | some t => if m.flue.fixed then m else enumerate (m.advanceTo (t + 50 * msTicks))
  | none => m

/-- RENUMBER: FLUE_CMD repeats it. -/
def renumber (m : Module) : Module := if anyUp m then enumerate m else m

/-! ## Time (R283, R285 to R288) -/

/-- GNSS_TP_STATUS.TSTATE codes. -/
def tstateCode (m : Module) : Nat := match m.gnss.tstate with
  | .none => 0 | .locked => 1 | .holdover => 2 | .free => 3

/-- The TIME payload of this master (R285). -/
def timePayload (m : Module) : List Byte :=
  let slewing := m.gnss.slew.isSome
  let m0 := if slewing then m.mt else m.gnss.map.m0
  let step := m.gnss.step.isSome
  leBytes 8 m.mt ++ leBytes 8 0 ++ leBytes 1 (electionClass m) ++ leBytes 1 (tstateCode m) ++ leBytes 1 (b2n step)
    ++ leBytes 1 m.gnss.leap ++ leBytes 4 (tpUnc m) ++ leBytes 8 m0 ++ leBytes 8 (BitVec.ofInt 64 (gpsNs m m0)).toNat
    ++ leBytes 4 (BitVec.ofInt 32 m.gnss.map.y).toNat ++ leBytes 12 0

/-- TIME_FRAME_SEND (R275, R285): the master's, every 100 µs. -/
def timeFrameSend (m : Module) : Module :=
  if m.flue.fstate ≠ .master then m
  else
    let m := match m.flue.timeSent with
      | some t => m.advanceTo (t + 100 * usTicks)
      | none => m
    let t := m.mt
    (flueBroadcast m ftTime (timePayload m)).updFlue fun f => { f with timeSent := some t }

/-- A module is idle (R287). -/
def chainIdle (m : Module) : Bool := m.pwr.arm == .disarmed && m.hob.events.isEmpty && m.hob.committed.isEmpty

/-- e in 2^-16 ps: the mean of the last 16 offsets (R287). -/
def offsetMean (m : Module) : Int := if m.flue.offs.isEmpty then 0 else rdiv m.flue.offs.sum m.flue.offs.length

/-- MT moves by -e in one tick (R288). -/
def stepMt (m : Module) (e : Int) : Module :=
  let d := rdiv e (2500 * 65536)
  let old := m.mt
  let new := ((old : Int) - d).toNat
  let shift (t : Nat) : Nat := ((t : Int) - d).toNat
  let m := (List.range 128).foldl settle m
  let secs := m.secs
  let part := (old - m.pwr.secsMt) % secTicks
  let m := { m with
    time := ⟨BitVec.ofNat 64 new, 0, 0, m.time.src, new / cycleTicks⟩,
    pwr := { m.pwr with secsBase := secs, secsMt := new - part, kick := shift m.pwr.kick },
    vdrv := { m.vdrv with ch := Arr.mapIdx (fun _ x => { x with dutyMt := shift x.dutyMt }) m.vdrv.ch } }
  let m := m.updFlue fun f =>
    { f with timeMt := shift f.timeMt, offs := [], steps := f.steps + 1, routes := f.routes.map fun r => { r with seen := shift r.seen } }
  let m := (List.finRange 15).foldl (fun m n => axisRestart n m) m
  let m := traceStop m
  ashPost (flueInt m 5) 0x0050 .operation (leBytes 8 (BitVec.ofInt 64 (-d)).toNat)

/-- What the mean offset makes of the chain time state (R287). -/
def alignStep (m : Module) : Module :=
  let e := offsetMean m
  let near := decide (absN e < 100 * 1000 * 65536)
  let limit := m.cf Reg.FLUE_TIME_CFG 15 0 * 1000 * 1000 * 65536
  match m.flue.fstate with
  | .acquire | .blocked =>
    if m.flue.offs.length < 16 then m
    else if near then setFState m .sync
    else if chainIdle m then setFState (stepMt m e) .sync
    else if absN e ≤ limit then setFState m .slew
    else if m.flue.fstate = .acquire then flueInt (setFState m .blocked) 6
    else m
  | .slew => if near then setFState m .sync else m
  | .alone | .master | .sync | .holdover => m

/-- What a TIME frame says (R285). -/
def masterInfo (bs : List Byte) : MasterInfo :=
  { cls := byteAt bs 16, tstate := byteAt bs 17, stepNext := tb (byteAt bs 18) 0, leap := byteAt bs 19, unc := leAt bs 20 4,
    m0 := leAt bs 24 8, g0 := sx 64 (leAt bs 32 8), y := sx 32 (leAt bs 40 4) }

/-- The master's mapping and leap seconds are taken over by an aligned module (R267, R285). -/
def adoptMapping (m : Module) : Module :=
  if m.time.src = .chain ∧ m.flue.info.tstate ≠ 0 then
    let i := m.flue.info
    m.updGnss fun g => { g with map := ⟨i.m0, i.g0 * nsQ, i.y⟩, leap := i.leap, leapKnown := true, slew := none, step := none }
  else m

/-- The frame comes from a master that this module follows: its own, or one whose key stands against its own (R283, R286). -/
def follows (m : Module) (q : Fin 2) (src : Nat) : Bool :=
  match m.flue.routes.find? (·.id == src) with
  | none => m.flue.fstate != .master
  | some r => r.port == q && (m.flue.fstate != .master || r.key.beats (ownKey m))

/-- TIME_FRAME (R285 to R287): relayed with CORR raised, and used to align. -/
def timeFrame (q : Fin 2) (f : FlueFrameIn) (m : Module) : Module :=
  if !carries m q then m
  else
    let m := rxGood m q
    let d := delayPs16 (fport m q)
    let corr := leAt f.payload 8 8
    let onward := f.payload.take 8 ++ leBytes 8 (corr + (rdiv d 1000).toNat + 320 * 65536) ++ f.payload.drop 16
    let m := relayOut m (otherPort q) ftTime f onward
    if !follows m q f.src then m
    else
      let t := m.mt
      let e : Int := ((t : Int) - (leAt f.payload 0 8 : Nat)) * 2500 * 65536 - (corr : Int) * 1000 - d
      let first := m.flue.fstate == .alone || m.flue.fstate == .holdover || m.flue.fstate == .master
      let m := setMaster m (some f.src)
      let m := if first then setFState m .acquire else m
      let m := m.updFlue fun x => { x with timeMt := t, info := masterInfo f.payload,
                                           offs := (e :: (if first then [] else x.offs)).take 16 }
      adoptMapping (alignStep m)

/-- MASTER_LOST (R283, R287): no TIME frame for 1 ms. -/
def masterLost (m : Module) : Module :=
  match m.flue.fstate with
  | .sync | .slew =>
    flueInt (setFState (setMaster (m.advanceTo (m.flue.timeMt + msTicks)) none) .holdover) 4
  | .acquire | .blocked => setMaster (m.advanceTo (m.flue.timeMt + msTicks)) none
  | .alone | .master | .holdover => m

/-- MASTER_TAKEOVER (R282, R283): the best key of a segment without a master, or a key that has beaten the master's for 1 s. -/
def masterTakeover (m : Module) : Module :=
  let own := ownKey m
  let t := m.mt
  let best := m.flue.routes.all fun r => r.key.prio == 255 || decide (r.seen + 350 * msTicks ≤ t) || own.beats r.key
  let elected := (m.flue.master.isNone && best) || m.flue.beats.isSome
  if own.prio = 255 ∨ !anyUp m ∨ m.flue.fstate = .master ∨ !elected then m
  else
    let m := match m.flue.beats with
      | some b => m.advanceTo (b + secTicks)
      | none => m
    let chain := m.time.src == .chain
    let m := setFState ((setMaster m (some (nodeId m))).updFlue fun f => { f with timeSent := none, beats := none }) .master
    if chain ∧ m.gnss.tstate = .locked then m.updGnss fun g => { g with retDue := true } else m

/-! ## Published axes (R88, R291) -/

/-- Axis state codes (R83). -/
def phaseCode : AxisPhase → Nat
  | .down => 0 | .acquire => 1 | .locked => 2 | .coast => 3

/-- The AXIS payload of axis `n` (R291). -/
def axisPayload (m : Module) (n : Fin 15) : List Byte :=
  let x := axisAt m n
  let w := axisWrap m n.val
  let i64 (v : Int) : List Byte := leBytes 8 (BitVec.ofInt 64 v).toNat
  leBytes 1 n.val ++ leBytes 1 (phaseCode x.phase + 4 * b2n x.dirDown) ++ leBytes 2 x.reversals.toNat
    ++ leBytes 4 (BitVec.ofInt 32 (turns w x.p + x.revsAdj)).toNat ++ leBytes 8 x.mtk ++ i64 (reported w x.p) ++ i64 x.v ++ i64 x.a

/-- AXIS_FRAME_SEND (R88): every PUB_PERIOD µs. -/
def axisFrameSend (n : Fin 15) (m : Module) : Module :=
  match axisRec m n.val with
  | none => m
  | some r =>
    if !r.publish || yieldsId m then m
    else
      let m := m.advanceTo ((axisAt m n).pubMt + usT (m.cf (Reg.AXIS_AX_SRC_CFG n.val) 15 0))
      let t := m.mt
      (flueBroadcast m ftAxis (axisPayload m n)).updAxis n fun x => { x with pubMt := t }

/-- A CHAIN axis adopts a frame of its publisher (R83, R84, R88). -/
def chainAdopt (m : Module) (n : Fin 15) (bs : List Byte) : Module :=
  let state := byteAt bs 1 % 4
  if state = 0 then srcFault n .chainDown m
  else if state = 3 then srcFault n .chainLost m
  else if state = 1 then m
  else
    let m := m.enterPhase 3
    let t := leAt bs 8 8
    let w := axisWrap m n.val
    let c := sx 64 (leAt bs 16 8) + sx 32 (leAt bs 4 4) * ((w : Int) * qOne)
    let v := sx 64 (leAt bs 24 8)
    let a := sx 64 (leAt bs 32 8)
    let rev : BitVec 16 := BitVec.ofNat 16 (leAt bs 2 2)
    let down := tb (byteAt bs 1) 2
    let x := axisAt m n
    let adopt (m : Module) : Module :=
      let m := m.updAxis n fun x =>
        { (x.push t c) with p := c, v := v, a := a, mtk := t, upd := t, accepted := x.accepted + 1, dirDown := down, dirKnown := true,
                            reversals := rev, revsAdj := if w = 0 then sx 32 (leAt bs 4 4) else 0 }
      axisMoved (if x.accepted ≠ 0 ∧ x.reversals ≠ rev then axisEvt m n 5 else m) n
    match x.phase with
    | .down => if x.fault then axisClearFault m n else m
    | .coast =>
      let q := (predOf m n.val x).atMt t
      let m := axisClearFault (adopt m) n
      let m := (m.updAxis n fun x => { x with phase := .locked }).wr (Reg.AXIS_AX_REJOIN n.val) (wInt (sat32 (rdiv (c - q) qOne.toNat)))
      takeAxisStage (axisMoved (axisEvt (axisEvt m n 1) n 10) n) n
    | .locked => takeAxisStage (adopt m) n
    | .acquire =>
      let k := x.acq + 1
      let m := adopt (if x.fault then axisClearFault m n else m)
      let m := m.updAxis n fun x => { x with acq := k }
      let m := if x.rebase then rebaseEvents (m.updAxis n fun x => { x with rebase := false }) n.val c else m
      let m := eventsNotReady m n.val
      let m := if 4 ≤ k then axisMoved (axisEvt (m.updAxis n fun x => { x with phase := .locked }) n 1) n else m
      takeAxisStage m n

/-- AXIS_FRAME (R88, R287, R291): relayed, and adopted by the CHAIN axes that name its source. -/
def axisFrame (q : Fin 2) (f : FlueFrameIn) (m : Module) : Module :=
  if !carries m q then m
  else
    let m := relayBroadcast (rxGood m q) q ftAxis f
    let blind := m.flue.fstate == .acquire || m.flue.fstate == .blocked
    let takes (n : Fin 15) : Bool := match axisRec m n.val with
      | some r => r.source == .chain && r.chainNode == f.src && r.chainAxis == byteAt f.payload 0
      | none => false
    if blind then m else ((List.finRange 15).filter takes).foldl (fun m n => chainAdopt m n f.payload) m

/-! ## Forwarded batches (R292) -/

/-- BATCH_FRAME (R292): a batch forwarded to this module, or on its way. -/
def batchOverFlue (q : Fin 2) (f : FlueFrameIn) (m : Module) : Module :=
  unicastIn m q ftBatch f fun m => pauseNote (checkBatch m ⟨4, .ethertype, 0, 0, 0, none, f.src⟩ f.payload)

/-- RETURN_FRAME (R292): an answer to a batch that entered here goes to its producer. -/
def returnFrame (q : Fin 2) (f : FlueFrameIn) (m : Module) : Module :=
  unicastIn m q ftReturn f fun m =>
    let ring := byteAt f.payload 2
    match m.flue.fwd.find? fun e => e.dest == f.src && e.ring == ring with
    | some e =>
      let rest := m.flue.fwd.filter fun x => !(x.dest == f.src && x.ring == ring)
      sendTo (m.updFlue fun x => { x with fwd := e :: rest }) e.addr f.payload
    | none => m.addSat Reg.FLUE_RET_DROP 31 0 1

/-! ## The time-pulse input (R290), settings (R296), and resets (R295) -/

/-- TPIN: an edge at X9, rising or falling. -/
def tpinEdge (rising : Bool) (m : Module) : Module :=
  if m.cb Reg.FLUE_TPIN_CFG 31 ∧ rising = !m.cb Reg.FLUE_TPIN_CFG 30 then
    let t := m.mt
    flueInt (m.updFlue fun f => { f with tpin := t }) 8
  else m

/-- A pending stage of the Flue unit may be taken (R296); the management port is 49,320. -/
def flueStageOk (m : Module) (mgmtPort : Nat) (s : Stage) : Bool :=
  let f := s.f
  decide (f Reg.FLUE_CFG 31 30 < 2) && decide (1 ≤ f Reg.FLUE_TIME_CFG 15 0) && decide (f Reg.FLUE_TIME_CFG 15 0 ≤ 60000)
    && f Reg.FLUE_TP_CFG 23 16 != 0 && f Reg.FLUE_MGMT_RELAY 15 0 != mgmtPort
    && f Reg.FLUE_MGMT_RELAY 15 0 != m.cf Reg.INGEST_UDP 15 0

/-- A module in reset drives both ports down (R295). -/
def flueReset (m : Module) : Module :=
  let down (m : Module) (q : Fin 2) : Module := m.updFPort q fun _ => FPortSt.reset
  let m := down (down m 0) 1
  setFState (m.updFlue fun f => { f with ring := false, master := none, routes := [], offs := [], beats := none, timeSent := none,
                                         dup := false, fwd := [], mgmt := [] }) .alone

end Sys2Proof.Machine
end

