-- ==== Sys2Proof/Machine/Gnss.lean ====
section
/-! DEFINITION. The GNSS receiver: antenna, acquisition, tracking, observables, integrity checks, PVT, corrections and
stored navigation data (R249 to R266, R269). -/

namespace Sys2Proof.Machine

/-- The receiver exists (R1 to R3). -/
def hasGnss (m : Module) : Bool := m.variant == .g

/-! ## Signals and channels (R249, R253) -/

/-- The system of a SIGNAL: 0 Galileo, 1 BeiDou, 2 GLONASS, 3 QZSS, 4 GPS, 5 SBAS. -/
def sysOf (sig : Nat) : Nat :=
  if sig = 2 ∨ sig = 3 then 0 else if sig = 4 ∨ sig = 5 then 1 else if sig = 6 then 2
  else if sig = 7 ∨ sig = 8 then 3 else if sig ≤ 1 then 4 else 5

/-- The L1-band partner of a SIGNAL of the 1,176.45 MHz band. -/
def partnerOf (sig : Nat) : Option Nat :=
  if sig = 1 then some 0 else if sig = 3 then some 2 else if sig = 5 then some 4 else if sig = 8 then some 7 else none

/-- Fields of GNSS_GC[c]_CFG. -/
def gcEn (m : Module) (c : Nat) : Bool := bit (m.rd (Reg.GNSS_GC_CFG c)) 31
def gcSignal (m : Module) (c : Nat) : Nat := m.rf (Reg.GNSS_GC_CFG c) 27 24
def gcSv (m : Module) (c : Nat) : Nat := m.rf (Reg.GNSS_GC_CFG c) 23 16

/-- Channel `c` runs on a signal that is enabled. -/
def gcRuns (m : Module) (c : Nat) : Bool := gcEn m c && decide (gcSignal m c ≤ 9) && m.cb Reg.GNSS_CFG (gcSignal m c)

/-- Channel `c` tracks (R249): a signal of the lower band only while its partner's channel tracks. -/
def tracked (m : Module) (c : Nat) : Bool :=
  gcRuns m c && (match partnerOf (gcSignal m c) with
    | none => true
    | some p => (List.range 96).any fun d => gcRuns m d && gcSignal m d == p && gcSv m d == gcSv m c)

/-- Channel `c`. -/
def gc (m : Module) (c : Fin 96) : GcSt := Arr.at' m.gnss.gc c

/-- Change channel `c`. -/
def Module.updGc (m : Module) (c : Fin 96) (f : GcSt → GcSt) : Module :=
  m.updGnss fun g => { g with gc := Arr.upd g.gc c f }

/-- CHANNEL_START (R253): resident firmware writes GNSS_GC[c]_CFG; setting EN loads START. -/
def channelStart (c : Fin 96) (w : Word) (m : Module) : Module :=
  if !hasGnss m then m
  else
    let was := gcEn m c.val
    let m := m.wr (Reg.GNSS_GC_CFG c.val) w
    if bit w 31 && !was then
      let start := (m.rd (Reg.GNSS_GC_START c.val)).toNat
      let code := m.rd (Reg.GNSS_GC_CODE_RATE c.val)
      let carr := m.rd (Reg.GNSS_GC_CARR_RATE c.val)
      m.updGc c fun _ => { GcSt.reset with code := code, carr := carr, started := start }
    else m

/-- The pieces of a word in the navigation FIFO, at most 24 bits each (R254). -/
def navPieces (ok : Bool) : Nat → Bool → List Bool → List Word
  | 0, _, _ => []
  | fuel + 1, first, bs =>
    if bs.isEmpty then []
    else
      let p := bs.take 24
      let d := (p.zip (List.range 24)).foldl (fun a x => a + b2n x.1 * 2 ^ (23 - x.2)) 0
      w32 (2 ^ 31 + b2n ok * 2 ^ 30 + b2n first * 2 ^ 29 + p.length * 2 ^ 24 + d) :: navPieces ok fuel false (bs.drop 24)

/-- CORRELATOR_DUMP (R253, R254): the channel dumps, takes both rates, and delivers a word that is complete. -/
def correlatorDump (c : Fin 96) (d : DumpIn) (m : Module) : Module :=
  if !hasGnss m || !tracked m c.val then m
  else
    let code := m.rd (Reg.GNSS_GC_CODE_RATE c.val)
    let carr := m.rd (Reg.GNSS_GC_CARR_RATE c.val)
    let word := match d.word with
      | some w => navPieces w.ok (w.bits.length + 1) true w.bits
      | none => []
    let bad := match d.word with
      | some w => !w.ok
      | none => false
    m.updGc c fun g => { g with acc := d.acc.toList, dumps := (g.dumps + 1) % 65536, overrun := g.unread, unread := true,
                                code := code, carr := carr, bitSync := d.bitSync, frameSync := d.frameSync,
                                parityFail := if bad then satU 8 (g.parityFail + 1) else g.parityFail,
                                fifo := g.fifo ++ word }

/-- The piece that a privileged read of GNSS_GC[c]_NAV removes, and the rest. -/
def navPop (c : Fin 96) (m : Module) : Word × Module :=
  match (gc m c).fifo with
  | [] => (0, m)
  | w :: _ => (w, m.updGc c fun g => { g with fifo := g.fifo.drop 1 })

/-- NAV_FIFO_READ (R254): resident firmware takes the oldest piece. -/
def navFifoRead (c : Fin 96) (m : Module) : Module :=
  let (w, m) := navPop c m
  m.send (.core 0) (leBytes 4 w.toNat)

/-! ## Acquisition (R251) -/

/-- Passes over the cold search space of one candidate; none for a signal that is never searched blind. -/
def coldPasses (sig : Nat) : Nat :=
  if sig = 0 ∨ sig = 7 ∨ sig = 9 then 3 else if sig = 2 then 24 else if sig = 4 then 6 else if sig = 6 then 2 else 0

/-- ACQUISITION_PASS (R251): the strongest cell is kept; after a candidate's last pass a cell above threshold gets its
second dwell, and is handed over when that confirms it. -/
def acquisitionPass (p : AcqPass) (m : Module) : Module :=
  if !hasGnss m || coldPasses p.signal.val = 0 then m
  else
    let cell : Cell := ⟨p.signal.val, p.sv, p.phase, p.bin, p.power⟩
    m.updGnss fun g =>
      match g.acq.dwell with
      | some d => { g with acq := ⟨none, 0, none, if p.above then some d else g.acq.verified⟩ }
      | none =>
        let best := match g.acq.best with
          | some b => if b.signal = cell.signal ∧ b.sv = cell.sv ∧ cell.power ≤ b.power then b else cell
          | none => cell
        let n := g.acq.passes + 1
        if n < (if p.hot then 1 else coldPasses p.signal.val) then { g with acq := { g.acq with best := some best, passes := n } }
        else { g with acq := { g.acq with best := none, passes := 0, dwell := if p.above then some best else none } }

/-! ## Antenna (R250) -/

/-- A change of antenna state sets ANT. -/
def setAnt (m : Module) (a : AntState) : Module :=
  if m.gnss.ant = a then m else gnssInt (m.updGnss fun g => { g with ant := a }) 3

/-- BIAS_EN as it stands. -/
def biasEn (m : Module) : Bool := bit (m.rd Reg.GNSS_ANT) 31

/-- BIAS_EN was written. -/
def biasWritten (m : Module) : Module :=
  if !hasGnss m then m
  else if biasEn m then
    if m.gnss.ant = .off then m.updGnss fun g => { g with bias := true } else m
  else setAnt (m.updGnss fun g => { g with bias := false, current := 0 }) .off

/-- ANTENNA_OPEN: the bias current has stood below 2 mA for 100 ms. -/
def antennaOpen (ma : Nat) (m : Module) : Module :=
  if !hasGnss m || !biasEn m || decide (2 ≤ ma) then m else setAnt (m.updGnss fun g => { g with current := ma }) .open_

/-- ANTENNA_SHORT: it has stood above 110 mA for 1 ms; the bias goes off. -/
def antennaShort (ma : Nat) (m : Module) : Module :=
  if !hasGnss m || !biasEn m || decide (ma ≤ 110) then m
  else
    let t := m.mt
    setAnt (m.updGnss fun g => { g with bias := false, antMt := t, current := 0 }) .short

/-- ANTENNA_OK: 2 to 110 mA. -/
def antennaOk (ma : Nat) (m : Module) : Module :=
  if !hasGnss m || !biasEn m || decide (ma < 2) || decide (110 < ma) then m
  else setAnt (m.updGnss fun g => { g with bias := true, current := ma }) .ok

/-- ANTENNA_BIAS_RETRY: 1 s after the bias went off it is switched on again. -/
def antennaBiasRetry (m : Module) : Module :=
  if m.gnss.ant = .short ∧ biasEn m ∧ !m.gnss.bias then
    let m := m.advanceTo (m.gnss.antMt + secTicks)
    let t := m.mt
    m.updGnss fun g => { g with bias := true, antMt := t }
  else m

/-! ## Observable epochs (R256, R257, R272) -/

/-- A pending stage of the receiver may be taken (R272). -/
def gnssStageOk (s : Stage) : Bool :=
  let f := s.f
  (f Reg.GNSS_CFG 9 0 &&& 0x2D5) != 0 && decide (f Reg.GNSS_CFG 31 24 ≤ 60) && decide (f Reg.GNSS_CFG 18 16 ≤ 4)
    && f Reg.GNSS_TP_CFG 28 27 != 3 && f Reg.GNSS_TP_CFG 23 16 != 0
    && f Reg.GNSS_CHECK_CFG 31 24 != 0 && f Reg.GNSS_CHECK_CFG 23 16 != 0 && f Reg.GNSS_CHECK_CFG 15 8 != 0
    && f Reg.GNSS_CHECK_CFG 7 0 != 0 && f Reg.GNSS_CHECK_CFG2 31 16 != 0 && f Reg.GNSS_CHECK_CFG2 15 0 != 0
    && f Reg.GNSS_DIR_CFG 31 30 != 3

/-- The receiver's pending stage at its boundary. -/
def takeGnssStage (m : Module) : Module :=
  match stageDue m .gnss with
  | none => m
  | some s =>
    let m := dropStage m .gnss
    if gnssStageOk s then putInForce m s else gnssInt m 8

/-- BURST in force, and ticks between epochs. -/
def burstSet (m : Module) : Bool := m.cb Reg.GNSS_CFG 20
def epochPeriod (m : Module) : Nat :=
  if burstSet m then secTicks
  else
    let r := m.cf Reg.GNSS_CFG 18 16
    if r = 0 then secTicks else if r = 1 then secTicks / 2 else if r = 2 then secTicks / 5
    else if r = 3 then secTicks / 10 else secTicks / 20

/-- The MT of the next observable epoch, this tick's included when it is still to come. -/
def nextEpoch (m : Module) : Nat :=
  let p := epochPeriod m
  let o := if burstSet m then 20000000 else 0
  let t := cdiv (m.mt - o) p * p + o
  if m.gnss.epoch = some t then t + p else t

/-- The record of channel `c` (R257). -/
def obsRecord (m : Module) (c : Nat) (o : ObsIn) : List Word :=
  let glo := if sysOf (gcSignal m c) = 2 then m.rf (Reg.GNSS_GC_CFG c) 15 12 else 0
  let w0 := 2 ^ 31 + b2n o.towKnown * 2 ^ 30 + b2n o.halfCyc * 2 ^ 29 + b2n o.slip * 2 ^ 28 + b2n (burstSet m) * 2 ^ 26
    + gcSignal m c * 65536 + gcSv m c * 256 + glo
  let carrier := (BitVec.ofInt 64 o.carrier).toNat
  [w32 w0, w32 (if o.towKnown then o.txMs else 0), w32 o.txFrac, w32 carrier, w32 (carrier / 2 ^ 32), wInt o.doppler,
   w32 (satU 16 o.lockMs * 65536 + satU 16 o.cn0), 0]

/-- Store the words of a record. -/
def storeRecord (m : Module) (c : Nat) (ws : List Word) : Module :=
  (ws.zip (List.range 8)).foldl (fun m x => m.wr (Reg.GNSS_OBS_W c x.2) x.1) m

/-- OBSERVABLE_EPOCH (R256): the records of GC0 to GC31 are latched and published. -/
def observableEpoch (recs : Arr 32 (Option ObsIn)) (m : Module) : Module :=
  if !hasGnss m then m
  else
    let t := nextEpoch m
    let m := m.advanceTo t
    let one (m : Module) (c : Nat) : Module :=
      match Arr.getD recs c none with
      | some o => storeRecord m c (if tracked m c then obsRecord m c o else List.replicate 8 0)
      | none => storeRecord m c (List.replicate 8 0)
    let m := (List.range 32).foldl one m
    let n := ((List.range 32).filter fun c => bit (m.rd (Reg.GNSS_OBS_W c 0)) 31).length
    let m := (m.wr Reg.GNSS_OBS_MT_LO (w32 t)).wr Reg.GNSS_OBS_MT_HI (w32 (t / 2 ^ 32))
    let m := m.wr Reg.GNSS_OBS_INFO (w32 (n * 2 ^ 24 + b2n (burstSet m)))
    let m := (m.count Reg.GNSS_OBS_SEQ).raise Reg.GNSS_EPOCH_STATUS 0
    takeGnssStage (m.updGnss fun g => { g with epoch := some t })

/-- BURST_START and BURST_END (R259): 100 ms from each whole second of MT. -/
def burstStart (m : Module) : Module :=
  if !hasGnss m || !burstSet m || m.gnss.burst then m
  else (m.advanceTo (cdiv m.mt secTicks * secTicks)).updGnss fun g => { g with burst := true }
def burstEnd (m : Module) : Module :=
  if !m.gnss.burst then m
  else (m.advanceTo (m.mt / secTicks * secTicks + secTicks / 10)).updGnss fun g => { g with burst := false }

/-! ## Corrections (R265) -/

/-- Bits `[o, o + n)` of a frame's body, first bit first. -/
def bitsAt (bs : List Byte) (o n : Nat) : Nat :=
  (beNat (sliceAt bs (o / 8) ((o % 8 + n + 7) / 8)) >>> ((8 - (o + n) % 8) % 8)) % 2 ^ n

/-- Message types that are used. -/
def msmTypes : List Nat := [1074, 1077, 1084, 1087, 1094, 1097, 1114, 1117, 1124, 1127]

/-- The GPS time in ns nearest to `now` at which a system's ms of week is `tow` (for GLONASS: of day). -/
def nearestTow (now : Int) (period off tow : Int) : Int :=
  let x := (tow - off) * 1000000
  x + rdiv (now - x) (period * 1000000).toNat * (period * 1000000)

/-- The epoch of an MSM set in GPS time (PRESUMED, log entry 9). -/
def msmEpoch (m : Module) (ty : Nat) (body : List Byte) : Int :=
  let now := gpsNs m m.mt
  if ty = 1084 ∨ ty = 1087 then
    nearestTow now 86400000 (10800000 - (m.gnss.leap : Int) * 1000) (bitsAt body 27 27 : Nat)
  else
    nearestTow now 604800000 (if ty = 1124 ∨ ty = 1127 then -14000 else 0) (bitsAt body 24 30 : Nat)

/-- A frame whose CRC is good; a used type too short for its header has a bad length. -/
def rtcmGood (m : Module) (body : List Byte) : Module × Bool :=
  let ty := bitsAt body 0 12
  if msmTypes.contains ty then
    if body.length < 7 then (m, false)
    else
      let e := msmEpoch m ty body
      let id := bitsAt body 12 12
      (m.updGnss fun g => { g with baseId := id, msm := some (match g.msm with
        | some o => if o < e then e else o
        | none => e) }, true)
  else if ty = 1005 ∨ ty = 1006 then
    if body.length < 19 then (m, false)
    else
      let id := bitsAt body 12 12
      (m.updGnss fun g => { g with base := true, baseId := id }, true)
  else (m, true)

/-- A discarded frame, or bytes dropped. -/
def rtcmBad (m : Module) : Module := gnssInt (m.addSat Reg.GNSS_RTCM_COUNT 31 16 1) 6

/-- Take complete frames off the FIFO. -/
def rtcmScan : Nat → Module → Module
  | 0, m => m
  | fuel + 1, m =>
    let bs := m.gnss.rtcm.dropWhile (· != 0xD3#8)
    let m := m.updGnss fun g => { g with rtcm := bs }
    if bs.length < 3 then m
    else
      let n := bitsAt bs 14 10
      if bs.length < n + 6 then m
      else
        let frame := bs.take (n + 6)
        let m := m.updGnss fun g => { g with rtcm := g.rtcm.drop (n + 6) }
        let m :=
          if crc24q (frame.take (n + 3)) = beNat (frame.drop (n + 3)) then
            let (m, ok) := rtcmGood m ((frame.drop 3).take n)
            if ok then m.setF Reg.GNSS_RTCM_COUNT 15 0 (m.rf Reg.GNSS_RTCM_COUNT 15 0 + 1) else rtcmBad m
          else rtcmBad m
        rtcmScan fuel m

/-- Bytes enter the FIFO. -/
def rtcmIn (bs : List Byte) (m : Module) : Module :=
  if !hasGnss m then m
  else
    let room := 4096 - m.gnss.rtcm.length
    let m := m.updGnss fun g => { g with rtcm := g.rtcm ++ bs.take room }
    let m := if room < bs.length then rtcmBad m else m
    rtcmScan (m.gnss.rtcm.length + 1) m

/-- RTCM_WORD and RTCM_BYTE (R265). -/
def rtcmWord (w : Word) (m : Module) : Module := rtcmIn (leBytes 4 w.toNat) m
def rtcmByte (b : Byte) (m : Module) : Module := rtcmIn [b] m

/-- Age of the newest MSM set in 0.1 s at MT `t`; 0xFFF for none (GNSS_RTCM_STATUS). -/
def rtcmAge (m : Module) (t : Nat) : Nat :=
  match m.gnss.msm with
  | some e => if timeKnown m then min 0xFFE ((gpsNs m t - e) / 100000000).toNat else 0xFFF
  | none => 0xFFF

/-! ## Integrity (R260) -/

/-- The record of channel `c` is valid and not excluded. -/
def obsUsed (m : Module) (c : Nat) : Bool :=
  bit (m.rd (Reg.GNSS_OBS_W c 0)) 31 && !bit (m.rd (Reg.GNSS_OBS_W c 0)) 27

/-- SIGNAL and SV of a record. -/
def obsSignal (m : Module) (c : Nat) : Nat := m.rf (Reg.GNSS_OBS_W c 0) 19 16
def obsSv (m : Module) (c : Nat) : Nat := m.rf (Reg.GNSS_OBS_W c 0) 15 8

/-- Channels whose signal takes part in ranging: SBAS ranging is not used (R249). -/
def obsChannels (m : Module) : List Nat := (List.range 32).filter fun c => obsUsed m c && sysOf (obsSignal m c) != 5

/-- A signal fails check `n`: it is excluded, and counted once. -/
def exclude (n : Nat) (m : Module) (c : Nat) : Module :=
  if !bit (m.rd (Reg.GNSS_OBS_W c 0)) 31 then m
  else
    let first := obsUsed m c
    let m := (m.setBit (Reg.GNSS_OBS_W c 0) 27 true).setBit (Reg.GNSS_OBS_W c 7) n true
    gnssInt (if first then m.count Reg.GNSS_CHECK_COUNT else m) 4

/-- The channels of the satellite on channel `c`. -/
def satChannels (m : Module) (c : Nat) : List Nat :=
  (List.range 32).filter fun d => sysOf (obsSignal m d) == sysOf (obsSignal m c) && obsSv m d == obsSv m c

/-- A deviation above its limit. -/
def over_ (d : Option Nat) (lim : Nat) : Bool := match d with
  | some x => decide (lim < x)
  | none => false

/-- Checks 0 to 2 on one signal. -/
def checkDev (m : Module) (d : ObsDev) : Module :=
  let c := d.chan.val
  let m := if over_ d.dual (m.cf Reg.GNSS_CHECK_CFG 31 24) then (satChannels m c).foldl (exclude 0) m else m
  let m := if over_ d.codeCarrier (m.cf Reg.GNSS_CHECK_CFG 23 16) then (exclude 1 m c).setBit (Reg.GNSS_OBS_W c 0) 28 true else m
  if over_ d.doppler (m.cf Reg.GNSS_CHECK_CFG 15 8) then exclude 2 m c else m

/-- Check 3: the largest residual is removed and the solution recomputed, up to four times. -/
def checkRes : Nat → List (Fin 32 × Nat) → Module → Module
  | 0, _, m => m
  | _, [], m => m
  | fuel + 1, (c, r) :: rest, m =>
    if m.cf Reg.GNSS_CHECK_CFG2 31 16 < r then checkRes fuel rest (exclude 3 m c.val) else m

/-- The mean of a system's offset over the epochs kept, when there is one. -/
def isbMean (m : Module) (s : Nat) : Option Int :=
  let xs := m.gnss.isb.filterMap fun l => l[s]?
  if xs.isEmpty then none else some (rdiv xs.sum xs.length)

/-- Check 4: a system's offset against its mean. -/
def checkSys (m : Module) (s : Nat) (off : Option Int) : Module :=
  match off, isbMean m s with
  | some o, some mean =>
    if (m.cf Reg.GNSS_CHECK_CFG2 15 0 * 10 : Nat) < absN (o - mean) then
      ((List.range 32).filter fun c => sysOf (obsSignal m c) == s).foldl (exclude 4) m
    else m
  | _, _ => m

/-- Satellites of a system among the signals in use. -/
def satsOf (m : Module) (s : Nat) : List Nat :=
  (((obsChannels m).filter fun c => sysOf (obsSignal m c) == s).map (obsSv m)).eraseDups

/-- The systems a solution uses, GPS first (R258): any other needs its offset, estimated from two satellites or broadcast. -/
def systemsUsed (m : Module) (sol : PvtSol) : List Nat :=
  ([4, 0, 1, 2, 3] : List Nat).filter fun s =>
    let n := (satsOf m s).length
    decide (0 < n) && (s == 4 || decide (2 ≤ n) || (Arr.getD sol.broadcast s none).isSome)

/-- Signals in use of a system. -/
def signalsOf (m : Module) (s : Nat) : Nat := ((obsChannels m).filter fun c => sysOf (obsSignal m c) == s).length

/-- A solution exists (R260): 4 signals in one system, and one more for each further system used. -/
def solvable (m : Module) (sol : PvtSol) : Bool :=
  let ss := systemsUsed m sol
  let total := (ss.map (signalsOf m)).sum
  ss.any (fun s => decide (4 ≤ signalsOf m s)) && decide (4 + (ss.length - 1) ≤ total)

/-! ## PVT (R258, R261 to R264, R206) -/

/-- The fix of a solution (R262). -/
def fixOf (m : Module) (sol : PvtSol) (t : Nat) : FixKind :=
  let lim := m.cf Reg.GNSS_DIFF_CFG 31 24 * 10
  let rtcm := decide (rtcmAge m t ≤ lim) && m.gnss.msm.isSome && timeKnown m
  let sbas := m.cb Reg.GNSS_DIFF_CFG 14 && (match sol.sbasAge with
    | some a => decide (a ≤ lim)
    | none => false)
  if rtcm && m.gnss.base && m.cb Reg.GNSS_DIFF_CFG 15 then (if sol.fixed then .rtkFixed else .rtkFloat)
  else if rtcm || sbas then .dgnss
  else .single

/-- Codes of R262. -/
def fixCode : FixKind → Nat
  | .none => 0 | .single => 1 | .dgnss => 2 | .rtkFloat => 3 | .rtkFixed => 4

/-- The FIX code shown; a change raises FIX_CHANGE. -/
def setFix (m : Module) (f : Nat) : Module :=
  if m.gnss.fix = f then m else gnssInt (m.updGnss fun g => { g with fix := f }) 0

/-- The angle between two directions, 2^-32 turn. -/
def angleBetween (a b : Nat) : Nat :=
  let d := (a + 2 ^ 32 - b) % 2 ^ 32
  min d (2 ^ 32 - d)

/-- Step 1 of R264: reverse, with the course kept for the next reversal. -/
def direction (m : Module) (sol : PvtSol) : Module :=
  let src := m.cf Reg.GNSS_DIR_CFG 31 30
  let fast := decide (m.cf Reg.GNSS_DIR_CFG 15 0 ≤ sol.speed)
  let flip := fast && m.gnss.slow && (match m.gnss.course with
    | some c => decide (2 ^ 32 / 3 < angleBetween c sol.course)
    | none => false)
  let level := (Arr.at' m.fio.fi ⟨m.cf Reg.GNSS_DIR_CFG 20 16 % 32, Nat.mod_lt _ (by decide)⟩).level
  let rev :=
    if src = 1 then level == m.cb Reg.GNSS_DIR_CFG 28
    else if src = 2 then m.cb Reg.GNSS_DIR_CFG 29
    else m.gnss.reverse != flip
  m.updGnss fun g => { g with reverse := rev, course := if fast then some sol.course else g.course, slow := !fast }

/-- Steps 2 and 3 of R264: ψ, and ω in 10^-6 rad/s from the change since the last epoch. -/
def headingStep (m : Module) (sol : PvtSol) (t : Nat) : Module :=
  if sol.speed < 500 then m.updGnss fun g => { g with held := true, yaw := 0, headMt := t }
  else
    let psi := (sol.course + (if m.gnss.reverse then 2 ^ 31 else 0)) % 2 ^ 32
    let d := sx 32 (psi + 2 ^ 32 - m.gnss.heading)
    let dt := t - m.gnss.headMt
    let yaw := if m.gnss.held ∨ dt = 0 then 0 else rdiv (d * 6283185307 * 400000) (2 ^ 32 * dt)
    m.updGnss fun g => { g with heading := psi, held := false, yaw := yaw, headMt := t }

/-- The curvature of a pose, 2^-40 per mm: held below 0.5 m/s (R206). -/
def poseCurv (m : Module) (speed : Nat) : Int :=
  if speed < 500 then (match m.cover.pose with
    | some p => p.curv
    | none => 0)
  else
    let v : Nat := speed
    clampI (-1099511627) 1099511627 (rdiv (m.gnss.yaw * 2 ^ 40) (1000000 * v))

/-- The pose for the coverage engine (R206), paired with the path coordinate at its MT. -/
def deliverPose (m : Module) (sol : PvtSol) (t : Nat) : Module :=
  match m.recs.cover.head? with
  | none => m
  | some (_, r) =>
    let s := match fin? 15 r.pathAxis with
      | some i => (historyAt (axisAt m i).history t).getD (axisNow m r.pathAxis)
      | none => axisNow m r.pathAxis
    let c := poseCurv m sol.speed
    let h := m.gnss.heading
    { m with cover := { m.cover with pose := some ⟨sol.east, sol.north, h, c, t, s⟩ } }

/-- The axes that take PVT epochs (R264). -/
def pathAxes (m : Module) : List (Fin 15) :=
  (List.finRange 15).filter fun n => axisSrc m n.val == .gnssPath || axisSrc m n.val == .blended

/-- Step 4 of R264, and the update of the axes. -/
def pathStep (m : Module) (sol : PvtSol) (t : Nat) (fix : FixKind) : Module × Int :=
  let total := (sol.distUm : Int) + m.gnss.pathRem
  let mag := total / 1000
  let inc := if m.gnss.reverse then -mag else mag
  let m := m.updGnss fun g => { g with pathRem := total % 1000 }
  ((pathAxes m).foldl (fun m n => sourceUpdate n t (.epoch inc fix sol.speed) m) m, inc)

/-- The registers of a solution (GNSS_PVT). -/
def storePvt (m : Module) (sol : PvtSol) (t : Nat) (fix inc : Int) (sats sigs age : Nat) : Module :=
  let lat := rdiv (sol.latNano - (Int.emod (sol.latNano + 50) 100 - 50)) 100
  let lon := rdiv (sol.lonNano - (Int.emod (sol.lonNano + 50) 100 - 50)) 100
  let hp (x y : Int) : Nat := (BitVec.ofInt 8 (x - y * 100)).toNat
  let utc := utcMs m t
  let fields : List (Nat × Word) := [
    (Reg.GNSS_PVT_MT_LO, w32 t), (Reg.GNSS_PVT_MT_HI, w32 (t / 2 ^ 32)),
    (Reg.GNSS_PVT_FIX, w32 (b2n m.gnss.reverse * 2 ^ 25 + b2n m.gnss.held * 2 ^ 24 + sats * 65536 + sigs * 256 + fix.toNat)),
    (Reg.GNSS_PVT_LAT, wInt lat), (Reg.GNSS_PVT_LON, wInt lon),
    (Reg.GNSS_PVT_LATLON_HP, w32 (hp sol.latNano lat * 256 + hp sol.lonNano lon)),
    (Reg.GNSS_PVT_HEIGHT, wInt sol.height),
    (Reg.GNSS_PVT_VEL 0, wInt (Arr.at' sol.vel 0)), (Reg.GNSS_PVT_VEL 1, wInt (Arr.at' sol.vel 1)),
    (Reg.GNSS_PVT_VEL 2, wInt (Arr.at' sol.vel 2)),
    (Reg.GNSS_PVT_SPEED, w32 sol.speed), (Reg.GNSS_PVT_HEADING, w32 m.gnss.heading),
    (Reg.GNSS_PVT_YAW_RATE, wInt m.gnss.yaw), (Reg.GNSS_PVT_PATH_INC, wInt inc),
    (Reg.GNSS_PVT_ACC, w32 (satU 16 sol.hAcc * 65536 + satU 16 sol.vAcc)),
    (Reg.GNSS_PVT_DOP, w32 (satU 16 sol.hdop * 65536 + satU 16 sol.pdop)),
    (Reg.GNSS_PVT_UTC_LO, w32 utc), (Reg.GNSS_PVT_UTC_HI, w32 (utc / 2 ^ 32)),
    (Reg.GNSS_PVT_TIME_INFO, w32 (gpsWeek m t % 65536 * 65536 + m.gnss.leap % 256 * 256 + b2n (holdFlag m) * 4
      + b2n m.gnss.leapKnown * 2 + b2n (utcKnown m))),
    (Reg.GNSS_PVT_TOW, w32 (gpsTowMs m t)), (Reg.GNSS_PVT_CLK_DRIFT, wInt m.gnss.map.y),
    (Reg.GNSS_PVT_DIFF, w32 (m.gnss.baseId % 4096 * 2 ^ 20 + age))]
  let m := fields.foldl (fun m x => m.wr x.1 x.2) m
  (m.count Reg.GNSS_PVT_SEQ)

/-- The offsets as applied (R258), and their history for check 4. -/
def storeIsb (m : Module) (sol : PvtSol) : Module :=
  let off (s : Nat) : Int :=
    let est := if 2 ≤ (satsOf m s).length then Arr.getD sol.isb s none else none
    (est.orElse fun _ => Arr.getD sol.broadcast s none).getD 0
  let offs := (List.range 4).map off
  let m := (offs.zip (List.range 4)).foldl (fun m x => m.wr (Reg.GNSS_ISB x.2) (wInt x.1)) m
  m.updGnss fun g => { g with isb := (offs :: g.isb).take 10 }

/-- Errors of consecutive solutions that agree with one another within `lim` ns, newest first. -/
def agreeing (lim : Nat) (e : Int) (old : List Int) : List Int :=
  e :: (old.takeWhile fun x => decide (absN (x - e) ≤ lim)).take 4

/-- What a solution does to time (R261, R267, R269). -/
def solutionTime (m : Module) (sol : PvtSol) (t : Nat) : Module :=
  let m := match sol.leap with
    | some l => m.updGnss fun g => { g with leap := l, leapKnown := true }
    | none => m
  let lim := m.cf Reg.GNSS_CHECK_CFG 7 0 * 10
  let e := rdiv (sol.gps * nsQ - gpsQ m t) nsQ.toNat
  match m.gnss.tstate with
  | .none =>
    let m := if ownTime m then setMapping m t sol.gps sol.drift else m
    setTState (m.updGnss fun g => { g with u0 := sol.unc, discMt := t }) .locked 0
  | .locked =>
    if m.gnss.retDue then timeReturn (m.updGnss fun g => { g with retDue := false }) t sol.gps sol.drift sol.unc
    else if m.gnss.slew.isNone ∧ m.gnss.step.isNone ∧ lim < absN e then
      let m := gnssInt m 5
      let n := m.gnss.rejects + 1
      let m := m.updGnss fun g => { g with rejects := n }
      if 10 ≤ n then setTState m .holdover 2 else m
    else
      let m := m.updGnss fun g => { g with rejects := 0 }
      if ownTime m then discipline m t sol.gps sol.drift sol.unc
      else m.updGnss fun g => { g with u0 := sol.unc, discMt := t }
  | .holdover | .free =>
    let a := agreeing lim e m.gnss.agree
    let m := m.updGnss fun g => { g with agree := a }
    if a.length < 5 then m
    else if ownTime m then timeReturn m t sol.gps sol.drift sol.unc
    else setTState (m.updGnss fun g => { g with u0 := sol.unc, discMt := t }) .locked 0

/-- PVT_SOLUTION (R258 to R264): the solution of the last epoch, when none has been published for it and the next epoch
has not come. -/
def pvtSolution (sol : PvtSol) (m : Module) : Module :=
  match m.gnss.epoch with
  | none => m
  | some t =>
    if !hasGnss m || m.gnss.solved == some t || decide (t + epochPeriod m ≤ m.mt) then m
    else
      let m := m.updGnss fun g => { g with solved := some t }
      let m := sol.devs.foldl checkDev m
      let m := checkRes 4 sol.residuals m
      let m := (List.range 4).foldl (fun m s => checkSys m s (Arr.getD sol.isb s none)) m
      if !solvable m sol then setFix m 0
      else
        let fix := fixOf m sol t
        let ss := systemsUsed m sol
        let sats := (ss.map fun s => (satsOf m s).length).sum
        let sigs := (ss.map (signalsOf m)).sum
        let age := if fixCode fix ≤ 1 then 0xFFF else rtcmAge m t
        let m := storeIsb m sol
        let m := solutionTime m sol t
        let m := headingStep (direction m sol) sol t
        let (m, inc) := pathStep m sol t fix
        let m := deliverPose m sol t
        let m := setFix (storePvt m sol t (fixCode fix) inc sats sigs age) (fixCode fix)
        let alm := sol.newAlm
        let eph := sol.newEph
        let now := m.secs
        let refs := Arr.put (Arr.put (Arr.put (Arr.put m.gnss.navRef 0 (alm.getD (Arr.at' m.gnss.navRef 0))) 1
          (eph.getD (Arr.at' m.gnss.navRef 1))) 2 now) 3 now
        let m := m.updGnss fun g => { g with sats := sats, navChanged := true, navRef := refs }
        gnssInt m 9

/-! ## Stored navigation data (R266) -/

/-- Store the four items. -/
def storeNav (m : Module) : Module :=
  let secs := m.secs
  let serial := m.serial
  let id := m.structId
  let brk := m.pwr.breaks
  let t := m.mt
  m.updGnss fun g =>
    let item (i : Fin 4) (old : Option NavItem) : Option NavItem :=
      some ⟨serial, id, (match old with | some o => o.gen + 1 | none => 1), secs, Arr.at' g.navRef i, brk, true⟩
    { g with nav := Arr.mapIdx item g.nav, navChanged := false, lastSave := t }

/-- SAVE_NAV, and the save every 30 minutes while an item has changed (R266). -/
def saveNav (m : Module) : Module := if hasGnss m then storeNav m else m
def navPeriodicSave (m : Module) : Module :=
  if hasGnss m ∧ m.gnss.navChanged then
    storeNav (m.advanceTo (m.gnss.lastSave + 1800 * secTicks))
  else m

/-- CLEAR_NAV (R266). -/
def clearNav (m : Module) : Module :=
  if hasGnss m then m.updGnss fun g => { g with nav := Arr.fill 4 none } else m

/-- An item is STALE (R266); `i` is 0 for the almanac, 1 for the ephemeris. -/
def navStale (m : Module) (i : Nat) (x : NavItem) : Bool :=
  let age : Int := (m.secs : Int) - x.ref
  x.serial != m.serial || x.structId != m.structId || !x.crcOk || x.breaks != m.pwr.breaks
    || (i == 1 && decide (14400 < age)) || (i == 0 && decide (2592000 < age))

/-- The restore of a swap (R58, R266). -/
def restoreNav (m : Module) : Module :=
  if !hasGnss m then m
  else
    let bad (i : Fin 4) : Bool := match Arr.at' m.gnss.nav i with
      | some x => navStale m i.val x
      | none => false
    let any := (List.finRange 4).any bad
    let refs := Arr.mapIdx (fun i r => match Arr.at' m.gnss.nav i with
      | some x => if bad i then r else x.ref
      | none => r) m.gnss.navRef
    let alm := bad 0
    let eph := bad 1
    let m := m.updGnss fun g => { g with almStale := alm, ephStale := eph, navRef := refs }
    if any then gnssInt m 7 else m

/-- GNSS_RESTART (R252): acquisition and tracking begin anew. -/
def gnssRestart (m : Module) : Module :=
  if !hasGnss m then m
  else
    let m := (List.range 96).foldl (fun m c => m.setBit (Reg.GNSS_GC_CFG c) 31 false) m
    let m := m.updGnss fun g => { g with acq := ⟨none, 0, none, none⟩, gc := Arr.fill 96 GcSt.reset, sats := 0 }
    setFix (m.updGnss fun g => { g with solved := g.epoch }) 0

end Sys2Proof.Machine
end

