-- ==== Sys2Proof/Machine/Grate.lean ====
section
/-! DEFINITION. The Grate: keys, image loads, candidate checks, what a swap retains (R28, R41, R43, R46 to R48, R361 to R366). -/

namespace Sys2Proof.Machine

/-! ## Life-cycle state and keys (R361, R364, R365) -/

/-- Change the security subsystem. -/
def Module.updSec (m : Module) (f : SecSt → SecSt) : Module := { m with sec := f m.sec }

/-- Change the Grate. -/
def Module.updGrate (m : Module) (f : GrateSt → GrateSt) : Module := { m with grate := f m.grate }

/-- The state the fuses give (R361). -/
def lifeOf (f : Fuses) : LifeCycle :=
  if f.scrap then .scrapped
  else if f.retOut < f.retIn then .return_
  else if f.field then .field
  else if f.dev then .develop
  else .manufacture

/-- The code of a state (R361). -/
def LifeCycle.code : LifeCycle → Nat
  | .manufacture => 1 | .develop => 2 | .field => 3 | .return_ => 4 | .scrapped => 5

/-- A key is enrolled in slot `n` of MRAM (R365). -/
def enrolled (m : Module) (n : Nat) : Bool := (Arr.getD m.sec.keys n none).isSome

/-- A Relonco root slot that is not revoked (R365). -/
def rootKey (m : Module) (n : Nat) : Bool := decide (n < 4) && !tb m.sec.fuses.rootRevoked n

/-- The package and structure key slots accepted in the life-cycle state (R364). -/
def keyAccepted (m : Module) (n : Nat) : Bool :=
  let owner := decide (0x10 ≤ n ∧ n ≤ 0x17) && enrolled m n
  let dev := decide (0x18 ≤ n ∧ n ≤ 0x1F) && enrolled m n
  match m.sec.lc with
  | .manufacture | .return_ => rootKey m n
  | .develop => rootKey m n || owner || dev
  | .field => rootKey m n || owner
  | .scrapped => false

/-! ## Slots -/

/-- The slot that is not `s`. -/
def otherSlot : Slot → Slot
  | .a => .b | .b => .a

/-- The number of a slot. -/
def slotNum : Slot → Nat
  | .a => 0 | .b => 1

/-- A slot of NAND. -/
def slotOf (m : Module) : Slot → PkgSlot
  | .a => m.sec.slotA
  | .b => m.sec.slotB

/-- Change a slot of NAND. -/
def Module.setSlot (m : Module) (s : Slot) (p : PkgSlot) : Module :=
  m.updSec fun x => match s with
    | .a => { x with slotA := p }
    | .b => { x with slotB := p }

/-- The slot that receives packages: the one that is not active (R368). -/
def inactive (m : Module) : Slot := otherSlot m.sec.boot.active

/-! ## Loads (R41, R43) -/

/-- What the checks of R41 know of this module. -/
def imageEnv (m : Module) (sigOk : Bool) : ImageEnv :=
  { variant := m.variant, serial := m.serial.toNat, floor := m.sec.boot.structFloor, keyOk := keyAccepted m, sigOk := sigOk }

/-- A failed load (R43, R355). -/
def loadFailed (m : Module) (slot : Slot) (f : LoadFail) : Module :=
  let m := m.updGrate fun g => { g with loadErr := f.err, errRecord := f.record, errByte := f.byte }
  ashPost (m.raise Reg.GRATE_INT_STATUS 1) 0x0010 .fault
    (leBytes 1 f.err.code ++ leBytes 1 (slotNum slot) ++ leBytes 2 f.record ++ leBytes 2 f.byte)

/-- Steps 1 to 7 of R41 on a slot's structure image; the staging copy then waits for its swap. -/
def loadSlot (m : Module) (slot : Slot) (sigOk readbackOk : Bool) : Module :=
  if m.grate.loader ≠ .idle then loadFailed m slot ⟨.busy, hdrRec, 0⟩
  else match checkImage (imageEnv m sigOk) slot (slotOf m slot).image with
    | .error f => loadFailed m slot f
    | .ok l =>
      if !readbackOk then loadFailed m slot ⟨.readback, hdrRec, 0⟩
      else m.updGrate fun g => { g with staging := some l, loader := .swapPending, loadErr := .none }

/-- IMAGE_LOAD (R41, R48): a load that starts while a candidate check runs waits until the check ends. -/
def imageLoad (slot : Slot) (sigOk readbackOk : Bool) (m : Module) : Module :=
  if m.grate.candRunning ∧ m.grate.loader = .idle then
    m.updGrate fun g => { g with waiting := some ⟨slot, sigOk, readbackOk⟩, loader := .checking }
  else loadSlot m slot sigOk readbackOk

/-! ## Candidate checks (R48) -/

/-- Where a candidate image may lie (R52): the application's and the firmware's SRAM and DRAM. The end of the region that
holds address `a`. -/
def candRegionEnd (a : Nat) : Option Nat :=
  if 0x10000000 ≤ a ∧ a < 0x10800000 then some 0x10800000
  else if 0x80000000 ≤ a ∧ a < 0x84000000 then some 0x84000000
  else if 0x9C000000 ≤ a ∧ a < 0xC0000000 then some 0xC0000000
  else none

/-- Address and length of the candidate: what lies past its region, or past the longest image, is not read. -/
def candSpan (m : Module) : Nat × Nat :=
  let a := (m.rd Reg.GRATE_CAND_ADDR_LO).toNat + 2 ^ 32 * (m.rd Reg.GRATE_CAND_ADDR_HI).toNat
  match candRegionEnd a with
  | some e => (a, min (min (m.rd Reg.GRATE_CAND_LEN).toNat (e - a)) 1048576)
  | none => (a, 0)

/-- A candidate check's result. -/
def candResult (m : Module) (err record : Nat) : Module :=
  (m.wr Reg.GRATE_CAND_RESULT (w32 (2 ^ 31 + err * 65536 + record))).raise Reg.GRATE_INT_STATUS 2

/-- CHECK (R48): with a load or another check running it ends at once with BUSY. -/
def candCheck (m : Module) : Module :=
  if m.grate.loader ≠ .idle ∨ m.grate.candRunning then candResult m LoadErr.busy.code hdrRec
  else (m.setBit Reg.GRATE_CAND_RESULT 31 false).updGrate fun g => { g with candRunning := true }

/-- CAND_DONE (R48): the check ends with steps 2 to 6 of R41 on the candidate's bytes; a load that waited starts. -/
def candDone (sigOk : Bool) (bs : List Byte) (m : Module) : Module :=
  if !m.grate.candRunning then m
  else
    let m := m.updGrate fun g => { g with candRunning := false }
    let m := match checkImage (imageEnv m sigOk) .a bs with
      | .error f => candResult m f.err.code f.record
      | .ok _ => candResult m 0 0
    match m.grate.waiting with
    | none => m
    | some w => loadSlot (m.updGrate fun g => { g with waiting := none, loader := .idle }) w.slot w.sigOk w.readbackOk

/-! ## Retention (R46) -/

/-- The limp and policy content of a structure. -/
def retainedOf (p : Records) : Retained :=
  { limps := p.limps.map (·.2),
    limpVcs := p.limps.map fun l =>
      (l.2.input, if l.2.vcGroup = 0xFF then [] else (List.range 128).filter fun c => p.inGroup l.2.vcGroup c && p.vcUsable c),
    pols := outputChannels.filterMap fun c =>
      (p.pols.find? fun q => p.inGroup q.2.group c).map fun q => (c, ⟨q.2.policy, q.2.holdMs, q.2.lock⟩) }

/-- The new structure's content goes to PD0 retention and to MRAM. -/
def retain (m : Module) : Module :=
  let r := retainedOf m.recs
  let m := { m with vdrv := { m.vdrv with polWrites := [] } }
  m.updGrate fun g => { g with retained := r, retainSrc := .pd0, mramCopy := some r, mramOk := true }

/-- Retention was lost: PD0 takes the MRAM copy, or nothing when its CRC fails. -/
def restoreRetained (m : Module) : Module :=
  m.updGrate fun g => match g.mramCopy with
    | some r => if g.mramOk then { g with retained := r, retainSrc := .mram }
                else { g with retained := Retained.empty, retainSrc := .none }
    | none => { g with retained := Retained.empty, retainSrc := .none }

end Sys2Proof.Machine
end

