-- ==== Sys2Proof/Machine/Learn.lean ====
section
/-! DEFINITION. The learning unit: the opening and closing searches, their judgement, the estimates, the channel states,
the coil fingerprint and the delay table (08). -/

namespace Sys2Proof.Machine

/-! ## Access -/

/-- Value of a LEARN register in the settings kept with a measurement. -/
def keptCfg (c : Sparse Word) (off : Nat) : Word := Sparse.get resetOf c off

/-- HOME_PF of channel `k` in the settings kept with a measurement. -/
def homeKept (c : Sparse Word) (k : Nat) : Nat := fld (keptCfg c (Reg.LEARN_CH_CFG k)) 3 0

/-- One side of a channel. -/
def LearnCh.side (l : LearnCh) (opening : Bool) : SideSt := if opening then l.open_ else l.close

/-- Change one side of a channel. -/
def LearnCh.updSide (l : LearnCh) (opening : Bool) (f : SideSt → SideSt) : LearnCh :=
  if opening then { l with open_ := f l.open_ } else { l with close := f l.close }

/-- A change of state that takes effect for the Hob at MT `t` (R172). -/
def LearnCh.toPhase (l : LearnCh) (p : LearnPhase) (now t : Nat) : LearnCh :=
  { l with prevPhase := if now < l.phaseFrom then l.prevPhase else l.phase, phase := p, phaseFrom := t }

/-- Entry into WARM (R172). -/
def enterWarm (m : Module) (k t : Nat) : Module :=
  (m.updLearn k fun l => { (l.toPhase .warm m.mt t) with stale := false, swapped := false }).raise Reg.LEARN_INT_STATUS 1

/-- Entry into COLD; COLD is flagged when the channel comes from PENDING or WARM. -/
def enterCold (m : Module) (k : Nat) : Module :=
  let from_ := (learnCh m k).phase
  let m := m.updLearn k fun l => l.toPhase .cold m.mt (m.mt + 1)
  if from_ = .pending ∨ from_ = .warm then m.raise Reg.LEARN_INT_STATUS 0 else m

/-! ## The searches (R164, R165) -/

/-- State of the notch search: the largest slope, and once armed the lowest with its index. -/
structure NotchSearch where
  smax : Int
  low : Option (Int × Nat)
  deriving DecidableEq, Repr

/-- The notch search over the slopes with their indices (R164 steps 1 to 4): the index of the lowest slope, and the index
at which the search ended. -/
def notchFind (depth : Nat) : NotchSearch → List (Int × Nat) → Option (Nat × Nat)
  | _, [] => none
  | q, (s, i) :: rest =>
    let smax := max q.smax s
    match q.low with
    | none =>
      if 100 * s < smax * (100 - depth : Nat) then notchFind depth ⟨smax, some (s, i)⟩ rest
      else notchFind depth ⟨smax, none⟩ rest
    | some (lo, j) =>
      if 100 * lo + smax * depth < 100 * s then some (j, i)
      else if s < lo then notchFind depth ⟨smax, some (s, i)⟩ rest
      else notchFind depth ⟨smax, some (lo, j)⟩ rest

/-- The slopes over 1 µs, of intervals driven up throughout, from sample `from_` on. -/
def slopes (cur : List (Nat × Bool)) (from_ : Nat) : List (Int × Nat) :=
  (List.range cur.length).filterMap fun i =>
    if i < 10 ∨ i < from_ then none
    else
      let win := (cur.drop (i - 10)).take 11
      if win.all (·.2) then some (((win.getLast?.map (·.1)).getD 0 : Int) - ((win.head?.map (·.1)).getD 0 : Int), i) else none

/-- The seating search (R165): the index of the first sample below `end_` after one above four times it. -/
def seatFind (end_ : Nat) : Bool → Nat → List Nat → Option Nat
  | _, _, [] => none
  | armed, i, v :: vs =>
    if armed ∧ v < end_ then some i else seatFind end_ (armed || decide (4 * end_ < v)) (i + 1) vs

/-! ## Judgement (R166) -/

/-- The first check that holds, by its code. -/
def firstCode : List (Nat × Bool) → Nat
  | [] => 0
  | (c, b) :: cs => if b then c else firstCode cs

/-- SUPPLY_LOW and SUPPLY_DEV (R166, R416). -/
def supplyChecks (m : Module) (k : Nat) (sup : Word) (edge low : Nat) : List (Nat × Bool) :=
  let vmin := fld sup 15 8 * 500
  let vref := fld sup 31 24 * 500
  [(7, decide (edge < vmin ∨ low < vmin) || supplyWarn m (halfOf k)),
   (8, vref != 0 && decide (fld sup 23 16 * vref < absN ((edge : Int) - vref) * 100))]

/-- Bounds of a profile for a side, in ticks. -/
def boundsOf (c : Sparse Word) (p : Nat) (opening : Bool) : Nat × Nat :=
  let w := keptCfg c (if opening then Reg.LEARN_PF_BOUND_OPEN p else Reg.LEARN_PF_BOUND_CLOSE p)
  (usT (fld w 15 0), usT (fld w 31 16))

/-- A measurement outside the gate of a warm side (R168). -/
def outlier (c : Sparse Word) (p : Nat) (s : SideSt) (mm : Nat) : Bool :=
  let gate := usT (fld (keptCfg c (Reg.LEARN_PF_FILTER p)) 15 0)
  decide (16 ≤ s.n) && gate != 0 && decide (gate < absN ((mm : Int) - s.est))

/-! ## The estimate (R167 to R171) -/

/-- The measurement is counted and reported in LAST (R166). -/
def reportMeas (m : Module) (k : Nat) (opening : Bool) (mm code : Nat) : Module :=
  let ok := code == 0
  let m := m.count (if ok then Reg.LEARN_PUB_VALID else Reg.LEARN_PUB_REJECT)
  m.updLearn k fun l =>
    { (l.updSide opening fun s => { s with lastM := mm, lastCode := code }) with
      valid := if ok then satU 16 (l.valid + 1) else l.valid,
      rejected := if ok then l.rejected else satU 16 (l.rejected + 1) }

/-- The side after a change of EST or N that the Hob sees from 8 ticks on (R171). -/
def SideSt.learned (s : SideSt) (t est n : Nat) : SideSt :=
  let seen := s.seen t
  { s with prevEst := seen.1, prevN := seen.2, from_ := t + 8, est := est, n := n }

/-- The side after any other change of EST or N, which the Hob sees from the next tick on (R171, R172). -/
def SideSt.replaced (s : SideSt) (t est n sum : Nat) : SideSt :=
  let seen := s.seen t
  { s with prevEst := seen.1, prevN := seen.2, from_ := t + 1, est := est, n := n, sum := sum, run := [] }

/-- A measurement of a warm side inside the gate moves the estimate (R168 steps 3 to 5). -/
def moveEst (m : Module) (k : Nat) (opening : Bool) (c : Sparse Word) (p mm : Nat) : Module :=
  let s := (learnCh m k).side opening
  let f := keptCfg c (Reg.LEARN_PF_FILTER p)
  let lim : Int := (fld f 23 16 * 40 : Nat)
  let est := (s.est : Int) + clampI (-lim) lim (rdiv ((mm : Int) - s.est) (2 ^ fld f 27 24))
  let (lo, hi) := boundsOf c p opening
  let held := clampI lo hi est
  let m := m.updLearn k fun l =>
    { (l.updSide opening fun s => { (s.learned m.mt held.toNat (satU 8 (s.n + 1))) with run := [] }) with reseat := false, changed := true }
  if held = est then m else m.raise Reg.LEARN_INT_STATUS 5

/-- An outlier joins the run; the eighth of one sign reseats the estimate (R168 step 2, R169). -/
def joinRun (m : Module) (k : Nat) (opening : Bool) (c : Sparse Word) (p mm : Nat) : Module :=
  let s := (learnCh m k).side opening
  let up := decide (s.est < mm)
  let run := if s.runUp = up then mm :: s.run else [mm]
  if run.length < 8 then m.updLearn k fun l => l.updSide opening fun s => { s with run := run, runUp := up }
  else
    let (lo, hi) := boundsOf c p opening
    let est := (clampI lo hi (rdiv (run.sum : Nat) 8)).toNat
    (m.updLearn k fun l =>
      { (l.updSide opening fun s => { (s.learned m.mt est s.n) with run := [] }) with reseat := true, changed := true }).raise
        Reg.LEARN_INT_STATUS 4

/-- A measurement of a side with N < 16 joins the running mean (R167). -/
def joinMean (m : Module) (k : Nat) (opening : Bool) (mm : Nat) : Module :=
  m.updLearn k fun l =>
    { (l.updSide opening fun s =>
        let sum := s.sum + mm
        { (s.learned m.mt (rdiv (sum : Nat) (s.n + 1)).toNat (s.n + 1)) with sum := sum }) with changed := true }

/-- A judged measurement is reported and, where the channel learns, enters the estimate (R166 to R172). -/
def learnMeas (m : Module) (k : Nat) (opening : Bool) (c : Sparse Word) (p mm code : Nat) : Module :=
  let l := learnCh m k
  let m := reportMeas m k opening mm code
  let learns := (l.phase == .cold || l.phase == .warm) && !m.cb (Reg.LEARN_CH_CFG k) 8
  if !learns then m
  else if code = 0x10 then noteLead (joinRun m k opening c p mm)
  else if code ≠ 0 then m
  else
    let m := if 16 ≤ (l.side opening).n then moveEst m k opening c p mm else joinMean m k opening mm
    let l := learnCh m k
    let m := if l.phase = .cold ∧ 16 ≤ l.open_.n ∧ 16 ≤ l.close.n then enterWarm m k (m.mt + 8) else m
    noteLead m

/-! ## The commands -/

/-- OPENING_MEASUREMENT (R164, R166): the notch search of channel `k` ends. -/
def openingMeasurement (k : Fin 128) (o : OpenSamples) (m : Module) : Module :=
  let k := homeVc m k
  let l := learnCh m k
  match l.openMeas with
  | none => m
  | some t0 =>
    if l.phase = .none then m
    else
      let x := vc m k
      let c := l.openCfg
      let p := x.prof
      let det := keptCfg c (Reg.LEARN_PF_DETECT p)
      let found := notchFind (fld det 23 16) ⟨0, none⟩ (slopes o.current (fld det 31 24 * 10))
      let last := match found with
        | some (_, i) => i
        | none => o.current.length
      let m := m.advanceTo (t0 + 40 * last)
      let m := m.updLearn k fun l => { l with openMeas := none }
      let mm := match found with
        | some (j, _) => 40 * j + 10 * o.quarter.val + fld (keptCfg c (Reg.LEARN_PF_EXTRA p)) 15 0 * 4000
        | none => 0
      let (lo, hi) := boundsOf c p true
      let code := firstCode ([(1, !bit (keptCfg c (Reg.LEARN_PF_FILTER p)) 31), (2, m.recs.paired k), (3, p != homeKept c k),
        (4, x.faulted), (5, x.internalOn), (6, x.reopened)]
        ++ supplyChecks m k (keptCfg c (Reg.LEARN_PF_SUPPLY p)) o.railEdge o.railMin
        ++ [(9, x.skipped && decide (0 < x.lat.boostT) && bankBoosts m (bankOf' k)), (10, x.waited), (11, !(x.reached || o.reached)),
            (13, found.isNone), (15, decide (mm < lo ∨ hi < mm)), (16, outlier c p l.open_ mm)])
      learnMeas m k true c p mm code

/-- CLOSING_MEASUREMENT (R165, R166): the back-EMF search of channel `k` ends. -/
def closingMeasurement (k : Fin 128) (o : CloseSamples) (m : Module) : Module :=
  let k := homeVc m k
  let l := learnCh m k
  match l.closeMeas with
  | none => m
  | some t0 =>
    if l.phase = .none then m
    else
      let x := vc m k
      let c := l.closeCfg
      let p := l.closeProf
      let det := keptCfg c (Reg.LEARN_PF_DETECT p)
      let win := fld det 15 8 * 40000
      let seat := match seatFind (fld det 7 0 * 100) false 0 o.voltage with
        | some i => let at_ := o.start + 40 * i - 10 * o.quarter.val; if at_ ≤ win then some at_ else none
        | none => none
      let m := m.advanceTo (t0 + seat.getD win)
      let m := m.updLearn k fun l => { l with closeMeas := none }
      let mm := match seat with
        | some s => s + fld (keptCfg c (Reg.LEARN_PF_EXTRA p)) 31 16 * 4000
        | none => 0
      let (lo, hi) := boundsOf c p false
      let code := firstCode ([(1, !bit (keptCfg c (Reg.LEARN_PF_FILTER p)) 31), (2, m.recs.paired k), (3, p != homeKept c k),
        (4, l.closeFault || (x.faulted && decide (x.onEdge ≤ t0))), (5, l.closePwm), (6, decide (t0 < x.onEdge) || x.phase.drives || x.phase == .wait)]
        ++ supplyChecks m k (keptCfg c (Reg.LEARN_PF_SUPPLY p)) o.railEdge o.railMin
        ++ [(11, decide (o.edgeMa * 1000 < 9 * holdTarget x (half m (halfOf k)).factor)), (12, x.clamped),
            (14, seat.isNone), (15, decide (mm < lo ∨ hi < mm)), (16, outlier c p l.close mm)])
      learnMeas m k false c p mm code

/-! ## The fingerprint (R173) -/

/-- Estimates and counts are cleared, the new fingerprint is stored, SWAPPED is set (R172). -/
def coilSwapped (m : Module) (k r i : Nat) : Module :=
  let m := m.updLearn k fun l =>
    { l with open_ := l.open_.replaced m.mt 0 0 0, close := l.close.replaced m.mt 0 0 0,
             swapped := true, mismatches := 0, fpR := r, fpL := i, changed := true }
  (enterCold m k).raise Reg.LEARN_INT_STATUS 2

/-- A fingerprint within `tol` % of the stored value. -/
def nearFp (new stored tol : Nat) : Bool := decide (absN ((new : Int) - stored) * 100 ≤ tol * stored)

/-- One sixteenth of the way towards the new value. -/
def driftFp (stored new : Nat) : Nat := ((stored : Int) + rdiv ((new : Int) - stored) 16).toNat

/-- The fingerprint of a rise: R in 10 mΩ and L in µH; free values where the formula of R173 gives none. -/
def fingerOf (m : Module) (k : Nat) (f : CoilRise) : (Nat × Nat) × Module :=
  let w := m.cfg (Reg.LEARN_PF_PROBE (homePf m k))
  let i1 : Int := fld w 19 10
  let i2 : Int := fld w 9 0
  let den := i2 * f.s1 - i1 * f.s2
  if den ≤ 0 then ((m.freeVal % 65536, m.freed.freeVal % 65536), m.freed.freed)
  else
    let r := (rdiv (100 * (f.rail : Int) * ((f.s1 : Int) - f.s2)) den.toNat).toNat
    let l := (rdiv (1000 * (f.rail : Int) * (i2 - i1)) den.toNat).toNat
    ((satU 16 r, satU 16 l), m)

/-- A fingerprint of channel `k` is compared with the stored one; a match in PENDING keeps it as stored (R172). -/
def takeFinger (m : Module) (k : Nat) (f : CoilRise) : Module :=
  let l := learnCh m k
  if l.phase = .none ∨ l.phase = .pair then m
  else
    let ((r, i), m) := fingerOf m k f
    let m := m.updLearn k fun l => { l with fpRLast := r, fpLLast := i }
    let cfg := m.cfg Reg.LEARN_FP_CFG
    if l.fpR = 0 ∧ l.fpL = 0 then
      let m := m.updLearn k fun l => { l with fpR := r, fpL := i, changed := true }
      if l.phase = .pending then enterWarm m k (m.mt + 1) else m
    else if nearFp r l.fpR (fld cfg 15 8) && nearFp i l.fpL (fld cfg 7 0) then
      if l.phase = .pending then enterWarm (m.updLearn k fun l => { l with mismatches := 0 }) k (m.mt + 1)
      else m.updLearn k fun l => { l with mismatches := 0, fpR := driftFp l.fpR r, fpL := driftFp l.fpL i, changed := true }
    else if l.phase = .pending ∨ fld cfg 19 16 ≤ l.mismatches + 1 then coilSwapped m k r i
    else m.updLearn k fun l => { l with mismatches := l.mismatches + 1 }

/-- FINGERPRINT (R173). -/
def fingerprint (k : Fin 128) (f : CoilRise) (m : Module) : Module := noteLead (takeFinger m (homeVc m k) f)

/-! ## The delay table (R175, R176) -/

/-- The record of channel `k` as it would be saved. -/
def delayRecord (m : Module) (k gen : Nat) : DelayRec :=
  let l := learnCh m k
  { serial := m.serial, structId := m.structId, gen := gen, estOpen := l.open_.est, estClose := l.close.est,
    nOpen := l.open_.n, nClose := l.close.n, fpR := l.fpR, fpL := l.fpL, crcOk := true }

/-- The generation of a stored record; none stored counts lowest. -/
def genOf (r : Option DelayRec) : Nat := match r with
  | some r => r.gen + 1
  | none => 0

/-- Save one channel's record into the copy with the lower GENERATION, or erase it from both (R175, R178). -/
def saveChannel (m : Module) (k : Fin 128) : Module :=
  let l := Arr.at' m.learn.ch k
  if l.erase then
    let m := { m with learn := { m.learn with table0 := Arr.put m.learn.table0 k none, table1 := Arr.put m.learn.table1 k none } }
    m.updLearn k.val fun l => { l with erase := false, changed := false }
  else if !l.changed then m
  else
    let a := Arr.at' m.learn.table0 k
    let b := Arr.at' m.learn.table1 k
    let g := max (genOf a) (genOf b)
    let r := some (delayRecord m k.val g)
    let m := m.updLearn k.val fun l => { l with changed := false }
    if genOf a ≤ genOf b then { m with learn := { m.learn with table0 := Arr.put m.learn.table0 k r } }
    else { m with learn := { m.learn with table1 := Arr.put m.learn.table1 k r } }

/-- Save every changed record (R176). -/
def saveTable (m : Module) : Module :=
  let m := (List.finRange 128).foldl saveChannel m
  { m with learn := { m.learn with lastSave := m.mt } }

/-- DELAY_TABLE_SAVE (R176): SAVE_PERIOD after the last save, if anything has changed. -/
def delayTableSave (m : Module) : Module :=
  if (List.range 128).any fun k => (learnCh m k).changed || (learnCh m k).erase then
    saveTable (m.advanceTo (m.learn.lastSave + m.cf Reg.LEARN_SAVE_CFG 15 0 * secTicks))
  else m

/-- FORGET (R172, R178). -/
def learnForget (k : Fin 128) (m : Module) : Module :=
  let k := homeVc m k
  let l := learnCh m k
  if l.phase = .cold ∨ l.phase = .warm ∨ l.phase = .pending then
    let m := m.updLearn k fun l =>
      { l with open_ := l.open_.replaced m.mt 0 0 0, close := l.close.replaced m.mt 0 0 0, fpR := 0, fpL := 0,
               mismatches := 0, reseat := false, changed := false, erase := true, openMeas := none, closeMeas := none }
    noteLead (saveTable (enterCold m k))
  else m

/-- LOAD (R172, R178): the manual values in force become the estimates. -/
def learnLoad (k : Fin 128) (m : Module) : Module :=
  let k := homeVc m k
  let l := learnCh m k
  if l.phase = .cold ∨ l.phase = .warm ∨ l.phase = .pending then
    let o := m.cf (Reg.LEARN_CH_MAN_OPEN k) 26 0
    let c := m.cf (Reg.LEARN_CH_MAN_CLOSE k) 26 0
    let put := fun (s : SideSt) (e : Nat) => s.replaced m.mt e 16 (16 * e)
    let m := m.updLearn k fun l => { l with open_ := put l.open_ o, close := put l.close c, changed := true,
                                            openMeas := none, closeMeas := none }
    noteLead (enterWarm m k (m.mt + 1))
  else m

/-- The state of every channel at a swap (R172). -/
def learnSwap (m : Module) : Module :=
  let start := fun (k : Fin 128) (_ : LearnCh) =>
    LearnCh.clear (if !m.recs.vcEnabled k.val then .none else if m.recs.paired k.val then .pair else .cold)
  { m with learn := { m.learn with ch := Arr.mapIdx start m.learn.ch, restored := false } }

/-- The record a restore takes for a channel: the higher GENERATION among those whose CRC is good (R175). -/
def bestRecord (m : Module) (k : Fin 128) : Option DelayRec :=
  let good := ([Arr.at' m.learn.table0 k, Arr.at' m.learn.table1 k].filterMap id).filter (·.crcOk)
  good.foldl (fun (b : Option DelayRec) r => match b with
    | none => some r
    | some q => if q.gen < r.gen then some r else b) none

/-- Restore one channel after a swap (R172). -/
def restoreChannel (m : Module) (k : Fin 128) : Module :=
  if (learnCh m k.val).phase ≠ .cold then m
  else match bestRecord m k with
    | none => m
    | some r =>
      if r.serial = m.serial ∧ r.structId = m.structId then
        let put := fun (e n : Nat) => SideSt.zero.replaced m.mt e n (e * n)
        m.updLearn k.val fun l =>
          { (l.toPhase .pending m.mt (m.mt + 1)) with open_ := put r.estOpen r.nOpen, close := put r.estClose r.nClose,
                                                      fpR := r.fpR, fpL := r.fpL }
      else (m.updLearn k.val fun l => { l with stale := true }).raise Reg.LEARN_INT_STATUS 3

/-- The restore of the table (R176). -/
def restoreTable (m : Module) : Module :=
  let m := (List.finRange 128).foldl restoreChannel m
  noteLead { m with learn := { m.learn with restored := true } }

/-- The checks of R179 on a pending stage. -/
def learnStageOk (s : Stage) : Bool :=
  (List.range 16).all (fun p =>
    let g := s.f (Reg.LEARN_PF_FILTER p) 15 0
    let side (b dflt : Nat) : Bool :=
      let lo := s.f b 15 0
      let hi := s.f b 31 16
      decide (lo ≤ dflt ∧ dflt ≤ hi ∧ lo ≠ 0 ∧ g ≤ hi - lo)
    let pr := Reg.LEARN_PF_PROBE p
    side (Reg.LEARN_PF_BOUND_OPEN p) (s.f (Reg.LEARN_PF_DEF p) 15 0)
      && side (Reg.LEARN_PF_BOUND_CLOSE p) (s.f (Reg.LEARN_PF_DEF p) 31 16)
      && decide (s.f (Reg.LEARN_PF_FILTER p) 27 24 ≤ 10 ∧ s.f (Reg.LEARN_PF_FILTER p) 23 16 ≠ 0
        ∧ s.f pr 19 10 < s.f pr 9 0 ∧ s.f pr 9 0 ≤ s.f pr 31 20 ∧ 10 ≤ s.f pr 31 20 ∧ s.f pr 31 20 ≤ 1000
        ∧ s.f (Reg.LEARN_PF_EXTRA p) 15 0 ≤ 6000 ∧ s.f (Reg.LEARN_PF_EXTRA p) 31 16 ≤ 6000))
  && decide (10 ≤ s.f Reg.LEARN_SAVE_CFG 15 0 ∧ s.f Reg.LEARN_SAVE_CFG 15 0 ≤ 3600 ∧ s.f Reg.LEARN_FP_CFG 19 16 ≠ 0)
  && (List.range 128).all fun k =>
    s.f (Reg.LEARN_CH_MAN_OPEN k) 31 31 == 0
      || decide (s.f (Reg.LEARN_CH_MAN_OPEN k) 26 0 ≤ 26214000 ∧ s.f (Reg.LEARN_CH_MAN_CLOSE k) 26 0 ≤ 26214000)

end Sys2Proof.Machine
end

