-- ==== Sys2Proof/Machine/Stages.lean ====
section
/-! DEFINITION. Pending stages at their boundaries: validation and taking for every unit (R17 and each chapter's
rule: R90, R139, R161, R179, R205, R227, R248, R272, R296, R314, R328, R397). -/

namespace Sys2Proof.Machine

/-- A field of a stage lies in a range. -/
def Stage.within (s : Stage) (off h l lo hi : Nat) : Bool := decide (lo ≤ s.f off h l ∧ s.f off h l ≤ hi)

/-- The port of the management service (R62). -/
def mgmtPort : Nat := 49320

/-- R139. -/
def hobStageOk (m : Module) (s : Stage) : Bool :=
  let res (p : Nat) : Nat := if p = coverProducer then s.f Reg.HOB_COVER_RES 21 0 else s.f (Reg.HOB_RING_RES p) 21 0
  let ps := List.range 65
  let far := ((List.range 256).map fun k => s.f (Reg.HOB_CH_COMMIT k) 10 0).foldl max 0
  decide ((ps.map res).sum ≤ storeSlots) && decide ((ps.map fun p => max (useOf m p) (res p)).sum ≤ storeSlots)
    && (List.range 16).all (fun n => s.within (Reg.HOB_AX_HORIZON n) 9 0 10 640
      && decide (far + 500 ≤ s.f (Reg.HOB_AX_HORIZON n) 9 0 * 100))
    && (List.range 256).all (fun k => s.within (Reg.HOB_CH_COMMIT k) 10 0 20 2000)
    && decide (s.f Reg.HOB_FILL_WM 15 0 < s.f Reg.HOB_FILL_WM 31 16)

/-- The largest batch of port `p` under the encapsulations a stage enables there (R142); port 4 is Flue. -/
def portLimitOk (s : Stage) (batch p : Nat) : Bool :=
  if p = 4 then decide (batch ≤ 560)
  else
    let c := Reg.INGEST_PORT_CFG p
    let big := s.f c 29 29 == 1
    (s.f c 28 28 == 0 || decide (batch ≤ if big then 560 else 88)) && (s.f c 27 27 == 0 || decide (batch ≤ if big then 557 else 88))

/-- R161. -/
def ingestStageOk (m : Module) (s : Stage) : Bool :=
  let batch (n : Nat) : Nat := s.f (Reg.INGEST_RING_CFG n) 25 16
  let window (n : Nat) : Nat := s.f (Reg.INGEST_RING_WINDOW n) 16 0
  let rings := m.recs.rings.map (·.2)
  rings.all (fun r => (List.range 5).all fun p => !tb r.ports p || portLimitOk s (batch r.ring) p)
    && (List.range 64).all (fun n => decide (batch n ≤ window n ∧ window n ≤ 65535)
      && s.within (Reg.INGEST_RING_NOTE_HI n) 14 0 64 16384)
    && decide ((rings.map fun r => window r.ring).sum ≤ 131072)
    && (List.range 7).all (fun c => decide (s.f (Reg.INGEST_CLASS_FLOOR (c + 1)) 15 0 ≤ s.f (Reg.INGEST_CLASS_FLOOR c) 15 0))
    && decide (0x600 ≤ s.f Reg.INGEST_CFG 15 0) && s.within Reg.INGEST_TIMING 31 24 0 100
    && s.within Reg.INGEST_TIMING 23 16 1 255 && s.within Reg.INGEST_TIMING 15 0 10 10000
    && s.f Reg.INGEST_UDP 15 0 != mgmtPort

/-- A profile set of a stage (R182, R205). -/
def profStageOk (s : Stage) (p : Nat) : Bool :=
  s.within (Reg.VDRV_PF_TIME p) 9 0 0 1000 && s.within (Reg.VDRV_PF_TIME p) 31 16 0 10000
    && s.within (Reg.VDRV_PF_CURRENT p) 27 16 100 4000 && s.within (Reg.VDRV_PF_CURRENT p) 10 0 50 2000
    && decide (s.f (Reg.VDRV_PF_CURRENT p) 10 0 ≤ s.f (Reg.VDRV_PF_CURRENT p) 27 16)
    && s.within (Reg.VDRV_PF_CHOP p) 5 0 10 50 && s.within (Reg.VDRV_PF_CHOP p) 31 16 0 1000
    && s.within (Reg.VDRV_PF_PWM p) 25 16 10 1000 && s.within (Reg.VDRV_PF_PWM p) 7 0 1 255
    && s.within (Reg.VDRV_PF_DUTY p) 31 24 1 100 && s.within (Reg.VDRV_PF_DUTY p) 23 16 50 100
    && s.within (Reg.VDRV_PF_DUTY p) 15 0 1 65535

/-- R205. -/
def vdrvStageOk (s : Stage) : Bool :=
  (List.range 16).all (profStageOk s)
    && (List.range 2).all (fun i =>
      let vset := s.f (Reg.VDRV_BW_CFG i) 9 0 * 100
      let ofs := s.f (Reg.VDRV_BW_CFG i) 23 16 * 500
      s.within (Reg.VDRV_SUP_CFG i) 8 0 10 400 && s.within (Reg.VDRV_SUP_CFG i) 23 16 10 100
        && s.within (Reg.VDRV_SUP_WARN i) 8 0 60 300 && s.within (Reg.VDRV_BW_CFG i) 9 0 280 650
        && decide (20000 + ofs ≤ vset))
    && (List.range 128).all fun k => s.f (Reg.VDRV_CH_CFG k) 8 8 == 1 || s.f (Reg.VDRV_CH_CFG k) 7 0 == 0

/-- R314. -/
def fioStageOk (s : Stage) : Bool :=
  (List.range 32).all (fun n => s.within (Reg.FIO_FI_CFG n) 14 0 2 20000)
    && (List.range 16).all fun n => s.within (Reg.FIO_FO_CFG n) 10 0 10 2000 && s.within (Reg.FIO_AI_CFG n) 7 4 0 8

/-- R328. -/
def lswStageOk (s : Stage) : Bool :=
  (List.range 16).all fun n =>
    s.within (Reg.LSW_CH_CFG n) 14 0 100 20000
      && s.within (Reg.LSW_CH_PROT n) 15 0 100 (if n < 4 then 15000 else 5000)
      && s.f (Reg.LSW_CH_PROT n) 23 16 != 0 && s.f (Reg.LSW_CH_PROT n) 31 24 != 0
      && (decide (n < 4) || s.f (Reg.LSW_CH_CFG n) 16 16 == 0)

/-- R397. -/
def pwrStageOk (s : Stage) : Bool :=
  (s.f Reg.PWR_ARM_WD 13 0 == 0 || s.within Reg.PWR_ARM_WD 13 0 10 10000) && s.f Reg.PWR_CFG 15 0 != 0

/-! ## Taking -/

/-- A stage goes into force, or is dropped whole with its unit's SETTING_ERR. -/
def takeIf (m : Module) (u : ApplyUnit) (ok : Stage → Bool) (errReg errBit : Nat) (after : Module → Module → Module) : Module :=
  match stageDue m u with
  | none => m
  | some s => if ok s then after m (putInForce (dropStage m u) s) else (dropStage m u).raise errReg errBit

/-- The link of a port restarts (R161). -/
def restartPorts (old m : Module) : Module :=
  (List.finRange 4).foldl (fun m p =>
    let key (x : Module) : Nat := x.cf (Reg.INGEST_PORT_CFG p.val) 31 29
    let st := netPort m p
    if key old = key m then m else portLinkDown p st.present st.los st.txFault m) m

/-- Averaging restarts on every analog input whose MODE or AVG has changed (R310). -/
def restartAi (old m : Module) : Module :=
  (List.range 16).foldl (fun m n =>
    let key (x : Module) : Nat × Nat := (aiMode x n, x.cf (Reg.FIO_AI_CFG n) 7 4)
    if key old = key m then m else m.updAi n fun x => { x with conv := [], settleFrom := some m.mt }) m

/-- The units whose boundary is the Mantel cycle's. -/
def mantelUnits : List ApplyUnit :=
  [.hob, .ingest, .learn, .vdrv, .flue, .fio, .lsw, .pwr] ++ (List.finRange 15).map .axis

/-- A unit takes its pending stage at the present tick, if one is due. -/
def takeStage (u : ApplyUnit) (m : Module) : Module :=
  match u with
  | .axis n => takeAxisStage m n
  | .loop n => takeLoopStage m n
  | .hob => takeIf m .hob (hobStageOk m) Reg.HOB_INT_STATUS 8 fun _ m => noteDue (fillNote m)
  | .ingest => takeIf m .ingest (ingestStageOk m) Reg.INGEST_INT_STATUS 8 restartPorts
  | .learn => takeIf m .learn learnStageOk Reg.LEARN_INT_STATUS 8 fun _ m => noteDue (noteLead m)
  | .vdrv => takeIf m .vdrv vdrvStageOk Reg.VDRV_INT_STATUS 10 fun _ m => m
  | .cover => takeCoverStage m
  | .gnss => takeGnssStage m
  | .flue => takeIf m .flue (flueStageOk m mgmtPort) Reg.FLUE_INT_STATUS 9 fun _ m => m
  | .fio => takeIf m .fio fioStageOk Reg.FIO_INT_STATUS 8 restartAi
  | .lsw => takeIf m .lsw lswStageOk Reg.LSW_INT_STATUS 9 fun _ m => m
  | .pwr => takeIf m .pwr pwrStageOk Reg.PWR_INT_STATUS 9 fun _ m => m

/-- The boundary at which a stage copied at `t` is taken when the Mantel cycle gives it: the first in a later tick. -/
def boundaryAfter (m : Module) (t : Nat) : Nat := max m.nextBoundary ((t / cycleTicks + 1) * cycleTicks)

/-- PENDING_STAGE_TAKEN (R17): the unit's next boundary comes. -/
def pendingStageTaken (u : ApplyUnit) (m : Module) : Module :=
  match stageOf m u with
  | none => m
  | some s =>
    match u with
    | .cover => takeStage .cover ((m.advanceTo (max (nextEval m) ((s.mt / msTicks + 1) * msTicks))).enterPhase 6)
    | .gnss => takeStage .gnss (m.advanceTo (max (nextEpoch m) (s.mt + 1)))
    | .loop n => match m.recs.loopAt n.val with
      | some l => match nextSample m l (max m.mt (s.mt + 1)) with
        | some t => takeStage u (m.advanceTo t)
        | none => takeStage u m
      | none => m
    | _ => takeStage u (m.advanceTo (boundaryAfter m s.mt))

end Sys2Proof.Machine
end

