-- ==== Sys2Proof/Machine/Swap.lean ====
section
/-! DEFINITION. The structure swap: forced cancellation, Reset values, the state in which a structure starts, lost sessions
(R42, R64, R138, R144, R158). -/

namespace Sys2Proof.Machine

/-! ## Sessions that end (R16, R64, R356) -/

/-- The holding registers and the read port of initiator number `ix` return to 0. -/
def clearHolds (m : Module) (ix : Nat) : Module :=
  { m with regs := { m.regs with hold := m.regs.hold.filter fun e => e.1 / 2 ^ 26 != ix },
           ash := { m.ash with ports := m.ash.ports.filter (·.1 != ix) } }

/-- Send a message of session `n` over its transport: over Flue as MGMT to its peer (R62, R293). -/
def sessSend (m : Module) (n : Fin 8) (bytes : List Byte) : Module :=
  match (Arr.at' m.sess n).transport with
  | .flue => flueUnicast m ftMgmt (Arr.at' m.sess n).peer bytes
  | .udp _ | .usb => m.send (.session n) bytes

/-- Session `n` made a request: its inactivity count restarts (R64). -/
def heard (m : Module) (n : Fin 8) : Module := { m with sess := Arr.upd m.sess n fun x => { x with idleCycles := 0 } }

/-- Session `n` ends. -/
def endSession (m : Module) (n : Fin 8) : Module :=
  let m := clearHolds m (4 + n.val)
  { m with sess := Arr.put m.sess n SessSt.closed }

/-- Every session is lost. -/
def sessionsLost (m : Module) : Module := (List.finRange 8).foldl endSession m

/-! ## Reset values -/

/-- The nine blocks of R42, by the number of their window. -/
def swapBlocks : List Nat := [2, 3, 4, 5, 6, 7, 8, 11, 12]

/-- A register of one of the nine blocks. -/
def inSwapBlock (off : Nat) : Bool := swapBlocks.contains (off / 0x100000)

/-- The setting bits of the register at `off`: RW, RWP and PO (R42). -/
def settingBits (off : Nat) : Nat :=
  match regAt off with
  | some (d, _) => d.acc.rw ||| d.acc.rwp ||| d.acc.po
  | none => 0

/-- A store with every setting register of the nine blocks at its Reset value. -/
def resetSettings (s : Sparse Word) : Sparse Word :=
  s.foldl (fun (a : Sparse Word) e =>
    if inSwapBlock e.1 then
      let k := w32 (settingBits e.1)
      Sparse.set resetOf a e.1 ((e.2 &&& ~~~ k) ||| (resetOf e.1 &&& k))
    else Sparse.set resetOf a e.1 e.2) []

/-- Settings return to their Reset values and pending stages are discarded (R42). -/
def swapRegs (m : Module) : Module :=
  { m with regs := { m.regs with rw := resetSettings m.regs.rw, act := m.regs.act.filter fun e => !inSwapBlock e.1, pend := [] } }

/-- Set a list of registers to 0. -/
def zeroRegs (m : Module) (offs : List Nat) : Module := offs.foldl (fun m o => m.wr o 0) m

/-- The counters that every swap clears. -/
def swapCounters (m : Module) : Module :=
  let m := zeroRegs m ((List.range 15).map Reg.AXIS_AX_ERRCNT ++ (List.range 64).map Reg.INGEST_RING_REFUSED
    ++ (List.range 128).map Reg.VDRV_CH_COUNT ++ (List.range 16).map Reg.VDRV_BANK_WAITS ++ (List.range 16).map Reg.LSW_CH_COUNT
    ++ (List.range 2).flatMap fun i => [Reg.VDRV_PUB_BOOST i, Reg.VDRV_PUB_RETURN i, Reg.VDRV_PUB_CLAMP i])
  (List.range 256).foldl (fun m k => m.setF (Reg.HOB_CH_QUEUE k) 31 16 0) m

/-! ## Forced cancellation (R138, R224) -/

/-- Insert an event by its acceptance number. -/
def insEv (x : EvRec) : List EvRec → List EvRec
  | [] => [x]
  | y :: ys => if x.acc < y.acc then x :: y :: ys else y :: insEv x ys

/-- An event of an acknowledged batch ends CANCELLED unchecked. -/
def cancelUnchecked (n : Nat) (m : Module) (u : Unchecked) : Module :=
  let e := rawOf u.bytes
  pushNote m n ⟨kCancelled, rActivation, e.chan, e.tag, e.op, noteFlags m false false false, m.mt⟩

/-- Every event not yet final ends CANCELLED with ACTIVATION; how many did, and the module after. -/
def cancelAll (m : Module) : Nat × Module :=
  let live := (m.hob.events ++ m.hob.committed.map (·.ev)).foldr insEv []
  let m := { m with hob := { m.hob with events := [], committed := [], queues := Arr.fill 256 [] } }
  let m := live.foldl (fun m e => cancelNote m e rActivation) m
  let waiting := (List.range 64).map fun n => (m.ringAt n).unchecked.length
  let m := (List.range 64).foldl (fun m n =>
    (((m.ringAt n).unchecked).foldl (cancelUnchecked n) m).updRing n fun r => { r with unchecked := [] }) m
  (live.length + waiting.sum, fillNote m)

/-! ## The state in which a structure starts -/

/-- Axes: those with a source acquire (R92). -/
def swapAxes (m : Module) : Module :=
  let m := { m with axes := { m.axes with ax := Arr.mapIdx (fun _ x => { AxisSt.reset with reversals := x.reversals }) m.axes.ax } }
  (List.finRange 15).foldl (fun m n => if axisSrc m n.val = .none then m else axisAcquire m n) m

/-- Rings (R144, R158). -/
def swapRings (m : Module) : Module :=
  let m := (List.range 64).foldl (fun m n =>
    if ringExists m n then
      m.updRing n fun r => { RingSt.reset with phase := .idle, nseq := r.nseq, notes := r.notes,
                                               noteAck := r.noteAck }
    else
      let lost := !(m.ringAt n).notes.isEmpty
      let m := m.updRing n fun r => { RingSt.reset with nseq := r.nseq, noteAck := r.noteAck }
      if lost then m.raise Reg.INGEST_INT_STATUS 7 else m) m
  pauseNote { m with ingest := { m.ingest with fifoFull := false, checked := [] } }

/-- Valve banks: a bank with a record stands on VSOL unless its selector is latched (R188, R200). -/
def swapBanks (m : Module) : Module :=
  (List.range 16).foldl (fun m b =>
    let bad := (List.range 8).any fun i => bit (m.rd (Reg.VDRV_CH_FAULT (8 * b + i))) 5
    m.updBank b fun _ => ⟨if (m.recs.bank b).isSome && !bad then .vsol else .off, none⟩) m

/-- Loops start in STOP; their sample counts and what they know of their inputs' edges go on. -/
def swapLoops (m : Module) : Module :=
  let start := fun (_ : Fin 32) (x : LoopSt) =>
    { LoopSt.reset with fresh := x.fresh, lastEdge := x.lastEdge, latest := x.latest, formed := x.formed }
  { m with loops := { LoopsSt.reset with lp := Arr.mapIdx start m.loops.lp, stored := m.loops.stored } }

/-- Load switches: retry counters return to 0, but for those that a thermal latch freezes (R321, R322). -/
def swapLsw (m : Module) : Module :=
  allLs (fun m n => m.updLs n fun x =>
    { x with retries := if bit (m.rd (Reg.LSW_CH_FAULT n)) 4 then x.retries else 0, owed := false,
             keep := if x.heldUntil.isSome then x.keep else none, wait := if x.wait == .thermal then .thermal else .none }) m

/-- The blocks that return to their start state, once the new structure is active and the outputs are empty. -/
def startStructure (old : DWord) (m0 m : Module) : Module :=
  let m := swapCounters m
  let m := swapAxes m
  let m := { m with hob := { m.hob with leadMax := 0, aboveHi := false, storeFull := false, hobFull := false, pagerLag := false } }
  let m := swapRings m
  let m := coverSwap (learnSwap m) old
  let m := swapLsw (swapLoops (swapBanks m))
  let m := restartPorts m0 (restartAi m0 m)
  noteLead (limpApply ((List.finRange 4).foldl tunnelSwap m))

/-- The settings area of a slot. -/
def areaOf (b : BootRec) : Slot → Nat
  | .a => b.areaA
  | .b => b.areaB

/-- Give a slot a settings area. -/
def BootRec.setArea (b : BootRec) (s : Slot) (n : Nat) : BootRec :=
  match s with
  | .a => { b with areaA := n }
  | .b => { b with areaB := n }

/-- ACTIVATED (R379): the activated slot becomes the active one, and the record follows SWAP. -/
def activated (m : Module) : Module :=
  match m.sec.act with
  | .pause =>
    let m := sessionsLost m
    let s := inactive m
    let was := m.sec.boot.active
    let m := if m.sec.boot.trial then m
      else m.updSec fun x => { x with boot := { x.boot with active := s, fallback := was }.setArea s x.areaNow }
    let slot := m.sec.boot.active
    let p := slotOf m slot
    ashPost m 0x0061 .security (leBytes 1 2 ++ leBytes 1 (slotNum slot) ++ leBytes 2 0 ++ sliceAt p.hdr 12 4 ++ sliceAt p.hdr 28 8)
  | .idle | .preparing => m

/-- The swap itself, at the present tick (R42, R138). -/
def swapNow (l : Loaded) (m : Module) : Module :=
  let old := m.structId
  let (n, m) := cancelAll m
  let m0 := m
  let m := emptyOutputs (swapRegs m)
  let m := m.updGrate fun g => { g with active := some l, staging := g.active, loader := .idle, swapCount := g.swapCount + 1,
                                        restoring := true }
  let m := startStructure old m0 (retain m)
  let m := m.raise Reg.GRATE_INT_STATUS 0
  let forced := b2n (m.sec.act == .pause && m.sec.force)
  let m := ashPost m 0x0011 .operation
    (leBytes 8 l.structId.toNat ++ leBytes 4 l.generation ++ leBytes 1 forced ++ leBytes 3 0 ++ leBytes 4 n)
  (activated m).updSec fun x => { x with swapReady := false }

/-- The first Mantel cycle boundary at which the swap may take place: with firmware unchanged, the one after B0 (R371). -/
def swapBoundary (m : Module) : Nat :=
  match m.sec.act with
  | .pause => max m.nextBoundary (m.sec.b0 + cycleTicks)
  | .idle | .preparing => m.nextBoundary

/-- STRUCTURE_SWAP (R41 step 8, R42): at a boundary that finds the outputs disarmed, outside an activation that is still
preparing or whose firmware is still to start. -/
def structureSwap (m : Module) : Module :=
  match m.grate.loader, m.grate.staging, m.pwr.arm with
  | .swapPending, some l, .disarmed =>
    let may := match m.sec.act with
      | .idle => true
      | .preparing => false
      | .pause => m.sec.swapReady
    if may then swapNow l (m.advanceTo (swapBoundary m)) else m
  | _, _, _ => m

end Sys2Proof.Machine
end

