-- ==== Sys2Proof/Machine/Reset.lean ====
section
/-! DEFINITION. Resets and start-up: onsets and releases, what returns to Reset values, Kindling's choice of a slot, disarming,
sleep (R352, R361, R374 to R376, R380, R383, R389, R390, R392, R414). -/

namespace Sys2Proof.Machine

/-- Change the PWR block. -/
def Module.updPwr (m : Module) (f : PwrSt → PwrSt) : Module := { m with pwr := f m.pwr }

/-! ## Reset values -/

/-- The blocks a PD2 reset returns to Reset values (R390), by the number of their window. -/
def pd2Blocks : List Nat := [2, 3, 4, 5, 6, 7, 8, 10, 11, 12]

/-- The units whose shadow sets lie outside those blocks. -/
def keepsStage : ApplyUnit → Bool
  | .gnss | .pwr => true
  | _ => false

/-- The registers of the data plane at their Reset values. -/
def pd2Regs (m : Module) : Module :=
  let keep := fun (e : Nat × Word) => !pd2Blocks.contains (e.1 / 0x100000)
  { m with regs := { m.regs with rw := m.regs.rw.filter keep, act := m.regs.act.filter keep,
                                 pend := m.regs.pend.filter fun s => keepsStage s.owner, pub := [], pubBack := [] } }

/-- The state of the data plane after a reset: persistent items stay, events and streams are gone (R123, R390). The field side
of the barrier, the outputs under their policies and limp-home lie outside PD2. -/
def dataReset (m : Module) : Module :=
  let m := pd2Regs m
  let port := fun (_ : Fin 4) (p : PortSt) => { p with link := false }
  let fio := { FioSt.reset with fo := m.fio.fo, down := m.fio.down, fieldLatch := m.fio.fieldLatch, volt := m.fio.volt,
                                badFrames := m.fio.badFrames, faults := m.fio.faults, frameSeq := m.fio.frameSeq,
                                dutyIdx := m.fio.dutyIdx, rel := m.fio.rel }
  let m := { m with axes := { AxesSt.reset with stored := m.axes.stored }, hob := HobSt.reset,
                    ingest := { IngestSt.reset with port := Arr.mapIdx port m.ingest.port },
                    learn := { LearnSt.reset with table0 := m.learn.table0, table1 := m.learn.table1 },
                    loops := { LoopsSt.reset with stored := m.loops.stored }, fio := fio }
  let m := { m with vdrv := { m.vdrv with polWrites := [], bank := Arr.fill 16 ⟨.off, none⟩ } }
  let m := m.updGrate fun g => { g with active := none, staging := none, loader := .idle, candRunning := false, waiting := none,
                                        restoring := false }
  flueReset m

/-- A CAN controller's CFG with only TERM kept (R334). -/
def keepTerm (m : Module) : Sparse Word :=
  (List.range 4).foldl (fun (a : Sparse Word) c =>
    let o := Reg.CAN_CN_CFG c
    let k : Word := 0x04000000
    Sparse.set resetOf a o ((resetOf o &&& ~~~ k) ||| (m.rd o &&& k))) []

/-- PD1 returns to its reset state: cores, interrupt controller, sessions, and what resident firmware keeps in SRAM. -/
def pd1Reset (m : Module) : Module :=
  let m := sessionsLost m
  { m with core := Arr.fill 4 CoreSt.reset, plic := PlicSt.reset,
           ash := { m.ash with staged := [], ready := false, lost := 0, lostMt := 0, appPosts := 0, ports := [], postData := [],
                               clear := .none },
           regs := { m.regs with hold := [] } }

/-- What is volatile in the security subsystem and the PWR block goes; fuses, keys, slots, boot record and counters stay. -/
def firmwareLost (m : Module) : Module :=
  let drop := fun (p : PkgSlot) => if p.phase = .receiving then PkgSlot.blank else p
  let m := m.updSec fun x =>
    { x with slotA := drop x.slotA, slotB := drop x.slotB, fallbackBoot := false, delivery := none, delDone := false, delResult := 0,
             delSrc := .session, act := .idle, force := false, disarm := false, actDone := false, actResult := 0, b0 := 0,
             swapReady := false, warmDue := false, lcResult := 0, bootWait := none, bootFail := none,
             recovery := false, fwVersion := 0 }
  let m := m.updPwr fun p =>
    { p with armDone := false, armResult := 0, lastDisarm := 0, kick := 0, vbatWarn := false, vbatOv := false, dieHot := false,
             pd2Resets := 0, cmdDone := false, cmdResult := 0, eccDram := 0, eccSram := 0, refreshed := 0, nandCorr := 0,
             pd2Hold := none, domains := 1 }
  { m with ash := { m.ash with head := 0, tail := 0, wrapped := false, clearDone := false, clearResult := 0 } }

/-- Every register and every unit of PD1 to PD8 at its reset state (R390); DRAM is lost (R389). -/
def fullReset (m : Module) : Module :=
  let term := keepTerm m
  let half := fun (_ : Fin 2) (h : HalfSt) =>
    { h with vsolWarn := false, reduced := false, okSince := 0, uv := false, factor := 100, run := false, full := false, ov := false,
             low := false, inputMa := 0 }
  let m := firmwareLost (pd1Reset (dataReset m))
  let m := { m with cover := { CoverSt.reset with half0 := m.cover.half0, half1 := m.cover.half1 },
                    gnss := { GnssSt.reset with nav := m.gnss.nav }, can := { CanSt.reset with term := m.can.term },
                    vdrv := { m.vdrv with half := Arr.mapIdx half m.vdrv.half },
                    regs := { m.regs with rw := term, act := [], pend := [] } }
  let m := m.updGrate fun g => { g with loadErr := .none, errRecord := 0, errByte := 0 }
  setTimeSrc m

/-! ## Onset and release (R390, R414) -/

def ResetCause.code : ResetCause → Nat
  | .powerOn => 1 | .vbatLow => 2 | .watchdog => 3 | .software => 4 | .lifecycle => 5 | .thermal => 6 | .wake => 7 | .debug => 8
  | .warmRestart => 9

/-- The outputs are neither armed nor arming. -/
def unarm (m : Module) : Module := m.updPwr fun p => { p with arm := .disarmed, probes := [] }

/-- The onset of a reset at the present tick: every output follows its policy as it stood, then the domains are held in reset.
A cause that arrives during a reset restarts it. -/
def resetOnset (c : ResetCause) (m : Module) : Module :=
  if m.pwr.asleep then m
  else match m.pwr.hold with
  | some h => m.updPwr fun p => { p with hold := some ⟨h.cause, m.mt, true⟩ }
  | none =>
    let busy := m.pwr.pd2Hold.isSome
    let m := unarm (m.updPwr fun p => { p with hold := some ⟨c, m.mt, false⟩ })
    fullReset (if busy then m else outputsOnset m)

/-- The area code of MEM_RESET (R355). -/
def EccSite.code : EccSite → Nat
  | .grate => 0 | .woodpile => 1 | .hob => 2 | .pager => 3

/-- UNCORRECTABLE_ERROR (R47, R123, R389): the onset of a PD2 reset. -/
def uncorrectableError (site : EccSite) (m : Module) : Module :=
  match m.pwr.hold, m.pwr.pd2Hold with
  | some _, _ => m
  | none, some _ => m.updPwr fun p => { p with pd2Hold := some m.mt }
  | none, none =>
    let m := unarm (m.updPwr fun p => { p with pd2Hold := some m.mt, pd2Resets := satU 8 (p.pd2Resets + 1) })
    let m := dataReset (outputsOnset m)
    let drop := fun (t : Tile) => { t with cache := none }
    let m := (coverPd2 m).updCover fun c => { c with pose := none, tiles := c.tiles.map drop, fetches := [] }
    let m := m.updSec fun x =>
      if x.act = .idle then x
      else { x with act := .idle, actDone := true, actResult := 8, swapReady := false, warmDue := false }
    ashPost (m.raise Reg.PWR_INT_STATUS 10) 0x0012 .fault (leBytes 1 (EccSite.code site))

/-- After a reset no output is latched or held by its policy mapping: latched channels are released with their FAULT registers,
and limp-home alone keeps an output in the mapping (R390). -/
def outputsReleased (m : Module) : Module :=
  let m := (List.range 128).foldl (fun m k => match (vc m k).phase with
    | .fault => (setPhase m k .idle).updVc k fun x => { x with slowRuns := 0, slowRise := false, dutyCut := false }
    | _ => m.updVc k fun x => { x with slowRuns := 0, slowRise := false }) m
  let m := allLs (fun m n => m.updLs n fun x => { x with latched := false, retries := 0, owed := false }) m
  let m := (List.range 16).foldl (fun m n => m.updFo n fun x => { x with latched := false, openLoad := false }) m
  limpApply m

/-- PD2_RESET_RELEASE (R47, R414): 1 ms after the onset PD2 runs again and the structure of the active slot is loaded as at
power-on; its swap follows. -/
def pd2ResetRelease (sigOk readbackOk : Bool) (m : Module) : Module :=
  match m.pwr.pd2Hold with
  | none => m
  | some t =>
    let m := m.advanceTo (t + msTicks)
    let m := outputsReleased (m.updPwr fun p => { p with pd2Hold := none })
    loadSlot m m.sec.boot.active sigOk readbackOk

/-! ## Kindling (R361, R374 to R376) -/

/-- Why the package of a slot does not boot (R374), 0 when it does. -/
def bootFault (m : Module) (v : BootSeen) (s : Slot) : Nat :=
  let p := slotOf m s
  let sig := match s with
    | .a => v.sigA
    | .b => v.sigB
  let tag := match s with
    | .a => v.tagA
    | .b => v.tagB
  let ser := leAt p.hdr 16 8
  if p.phase ≠ .stored ∨ !sig then 1
  else if !tag ∨ p.bad then 2
  else if leAt p.hdr 32 4 < m.sec.boot.fwFloor then 3
  else if !tb (byteAt p.hdr 24) (if m.variant = .g then 0 else 1) then 4
  else if ser ≠ 0 ∧ ser ≠ m.serial.toNat then 5
  else if !keyAccepted m (byteAt p.hdr 25) then 6
  else 0

/-- An UPDATE record (R379). -/
def updateRecord (m : Module) (event : Nat) (s : Slot) (code : Nat) : Module :=
  let h := (slotOf m s).hdr
  ashPost m 0x0061 .security (leBytes 1 event ++ leBytes 1 (slotNum s) ++ leBytes 1 code ++ leBytes 1 0 ++ sliceAt h 12 4 ++ sliceAt h 28 8)

/-- A fallback (R375, R378): the fallback slot becomes active, TRIAL is cleared. -/
def fallBack (m : Module) (reason : Nat) : Module :=
  let bad := m.sec.boot.active
  let m := updateRecord m (if reason = 10 then 5 else 3) bad reason
  let m := m.updSec fun x =>
    { x with boot := { x.boot with active := x.boot.fallback, trial := false, trialBoots := 0 }, fallbackBoot := true,
             failedSlot := bad, reason := reason }
  m.raise Reg.SEC_INT_STATUS 4

/-- The settings of a unit that resident firmware keeps in the settings area in use are written and applied (R377, R381). -/
def restoreUnit (m : Module) (u : ApplyUnit) : Module :=
  let area := Arr.getD m.sec.area m.sec.areaNow ⟨0, []⟩
  let mine := area.regs.filter fun e => unitOf e.1 == some u
  if mine.isEmpty then m else applyUnit (mine.foldl (fun m e => m.wr e.1 e.2) m) u

/-- Resident firmware of a slot starts: the log is scanned, BOOT is its first record, and the records staged before follow
(R352, R355, R380). -/
def firmwareStarts (m : Module) (s : Slot) : Module :=
  let h := (slotOf m s).hdr
  let m := m.updSec fun x =>
    { x with boot := { x.boot with active := s }, fwVersion := w32 (leAt h 28 4), bootWait := some m.mt, recovery := false,
             areaNow := areaOf x.boot s, swapReady := x.act == .pause, bootFail := none }
  let m := [ApplyUnit.flue, .gnss, .pwr].foldl restoreUnit m
  let old := m.ash.staged
  let m := ashScan { m with ash := { m.ash with staged := [] } }
  let m := ashPost m 0x0001 .power
    (leBytes 2 m.pwr.cause ++ leBytes 1 (slotNum s) ++ leBytes 1 0 ++ leBytes 4 (leAt h 28 4) ++ leBytes 8 m.structId.toNat)
  old.foldl ashStage m

/-- No slot boots: Kindling runs its USB session alone (R375). -/
def recover (m : Module) : Module :=
  ashScan (m.updSec fun x => { x with recovery := true, fwVersion := 0, bootWait := none, bootFail := none })

/-- Kindling starts slot `s`, and the other slot should that fail (R375). -/
def bootOr (m : Module) (v : BootSeen) (s : Slot) : Module :=
  if bootFault m v s = 0 then firmwareStarts m s
  else if bootFault m v (otherSlot s) = 0 then firmwareStarts m (otherSlot s)
  else recover m

/-- A fault found at the warm restart of an activation ends the activation: the old structure stays (R373). -/
def activationFailed (m : Module) : Module :=
  match m.sec.act with
  | .pause =>
    let m := m.updGrate fun g => { g with staging := none, loader := .idle }
    (m.updSec fun x => { x with act := .idle, actDone := true, actResult := 8, swapReady := false }).raise Reg.SEC_INT_STATUS 2
  | .idle | .preparing => m

/-- The boot of ACTIVE_SLOT has failed (R375). -/
def afterFail (m : Module) (v : BootSeen) (reason : Nat) : Module :=
  if m.sec.boot.trial then
    let m := activationFailed (fallBack m reason)
    bootOr m v m.sec.boot.active
  else
    let s := otherSlot m.sec.boot.active
    if bootFault m v s = 0 then firmwareStarts m s else recover m

/-- Kindling's choice of a slot (R375). -/
def chooseSlot (m : Module) (v : BootSeen) : Module :=
  match m.sec.bootFail with
  | some r => afterFail m v r
  | none =>
    if m.sec.boot.trial ∧ m.sec.boot.trialBoots = 3 then
      let m := fallBack m 9
      bootOr m v m.sec.boot.active
    else
      let m := if m.sec.boot.trial then m.updSec fun x => { x with boot := { x.boot with trialBoots := x.boot.trialBoots + 1 } } else m
      let r := bootFault m v m.sec.boot.active
      if r = 0 then firmwareStarts m m.sec.boot.active else afterFail m v r

/-- KINDLING_BOOT (R361, R364, R374 to R376): the life-cycle state is derived, and a slot chosen, verified and started. In
SCRAPPED no firmware boots. -/
def kindlingBoot (v : BootSeen) (m : Module) : Module :=
  let m := m.updPwr fun p => { p with bootCount := (p.bootCount + 1) % 2 ^ 32 }
  let m := { m with ash := { m.ash with ready := false } }
  let n := m.freeVal
  let m := m.freed.updSec fun x => { x with lc := lifeOf x.fuses, nonce := n % 2 ^ 128, warmDue := false }
  if m.sec.lc = .scrapped then recover m else chooseSlot m v

/-! ## Start-up (R380) -/

/-- The domains that are on while the module is awake (R388); PD9 and PD11 follow their own supplies. -/
def awakeDomains (m : Module) : Nat := if m.variant = .g then 0x5FF else 0x5BF

/-- The start-up from its instant 0. -/
def startUp (cause wakeSrc : Nat) (multiple : Bool) (v : BootSeen) (m : Module) : Module :=
  let m := m.updPwr fun p =>
    { p with hold := none, asleep := false, domains := awakeDomains m, cause := cause, wakeSrc := wakeSrc, multiple := multiple }
  kindlingBoot v (outputsReleased m)

/-- The release of the reset in progress, at the earliest 1 ms after its onset. -/
def release (v : BootSeen) (m : Module) : Module :=
  match m.pwr.hold with
  | none => m
  | some h => startUp h.cause.code 0 h.multiple v (m.advanceTo (h.onset + msTicks))

/-- RESET_RELEASE (R391, R414). -/
def resetRelease (v : BootSeen) (m : Module) : Module := release v m

/-- VBAT_VALID (R380, R414): start-up of a module that does not run, or the release of a reset that waited for VBAT. -/
def vbatValid (mv : Nat) (v : BootSeen) (m : Module) : Module :=
  if mv < 7000 then m
  else match m.pwr.hold with
  | some _ => release v m
  | none => if m.pwr.domains = 1 ∧ !m.pwr.asleep then startUp m.pwr.cause 0 m.pwr.multiple v m else m

/-! ## Disarm (R383) and what MC0 saves (R176, R226, R266) -/

/-- What MC0 saves at a disarm and at sleep entry. -/
def saveAll (m : Module) : Module :=
  let m := saveTable m
  let m := if hasGnss m then storeNav m else m
  disarmArchive m

/-- A disarm in the tick after its cause, step 1 of R135. -/
def disarmFor (cause : Nat) (m : Module) : Module :=
  if m.pwr.arm = .disarmed then m
  else
    let m := m.tick.enterPhase 1
    let m := outputsOff (disarmEvents m)
    let m := (unarm m).updPwr fun p => { p with lastDisarm := cause }
    coverAfter (saveAll m)

end Sys2Proof.Machine
end

