-- ==== Sys2Proof/Machine/Sec.lean ====
section
/-! DEFINITION. Life-cycle requests, keys, delivery of packages, activation, trial and rollback (18). -/

namespace Sys2Proof.Machine

/-- A byte of reply to a session's service message. -/
def replyCode (m : Module) (n : Fin 8) (code : Nat) : Module := sessSend (heard m n) n (leBytes 1 code)

/-- A session that is ACTIVE. -/
def sessActive (m : Module) (n : Fin 8) : Bool := (Arr.at' m.sess n).phase == .active

/-- A session that is ACTIVE and privileged. -/
def sessPriv (m : Module) (n : Fin 8) : Bool := sessActive m n && (Arr.at' m.sess n).priv

/-! ## Life-cycle requests (R362, R363) -/

/-- The key that signs is held: the owner root hash is present, or the slot holds a key that is not revoked. -/
def signerHeld (m : Module) : Signer → Bool
  | .ownerRoot => m.sec.fuses.ownerRoot
  | .slot n => if n.val < 4 then rootKey m n.val else enrolled m n.val

/-- A Relonco root key signs. -/
def bySignedRoot (m : Module) : Signer → Bool
  | .ownerRoot => false
  | .slot n => rootKey m n.val

/-- The owner root signs. -/
def bySignedOwner (m : Module) : Signer → Bool
  | .ownerRoot => m.sec.fuses.ownerRoot
  | .slot _ => false

/-- The transitions of R362. -/
def lcListed : LifeCycle → Nat → Bool
  | .manufacture, t => t == 2
  | .develop, t => t == 3 || t == 5
  | .field, t => t == 4 || t == 5
  | .return_, t => t == 3 || t == 5
  | .scrapped, _ => false

/-- The signer is an authority for the transition; of a transition that R362 does not list, any key held passes. -/
def lcAuthority (m : Module) (t : Nat) (k : Signer) : Bool :=
  match m.sec.lc, t with
  | .manufacture, 2 => bySignedRoot m k
  | .develop, 3 => bySignedOwner m k
  | .return_, 3 => bySignedRoot m k
  | .field, 4 | .develop, 5 | .field, 5 | .return_, 5 => bySignedOwner m k || bySignedRoot m k
  | _, _ => signerHeld m k

/-- An activation, a delivery or a trial runs. -/
def updating (m : Module) : Bool := m.sec.act != .idle || m.sec.delivery.isSome || m.sec.boot.trial

/-- The result of a request, checked in the order of R363. -/
def lcCheck (m : Module) (r : LcReq) : Nat :=
  if updating m then 1
  else if r.serial ≠ m.serial ∨ r.nonce ≠ m.sec.nonce then 2
  else if !lcAuthority m r.target r.signer then 3
  else if !r.sigOk then 4
  else if !lcListed m.sec.lc r.target then 5
  else if m.sec.lc = .return_ ∧ r.target = 3 ∧ m.sec.fuses.retOut = 8 then 6
  else 0

/-- The fuse of a transition. -/
def burn (lc : LifeCycle) (t : Nat) (f : Fuses) : Fuses :=
  if t = 5 then { f with scrap := true }
  else if t = 4 then { f with retIn := f.retIn + 1 }
  else if t = 2 then { f with dev := true }
  else if lc = .return_ then { f with retOut := f.retOut + 1 }
  else { f with field := true }

/-- Erase the keys of slots `a` to `b`. -/
def eraseKeys (a b : Nat) (m : Module) : Module :=
  let drop (n : Fin 64) (k : Option KeyRec) : Option KeyRec := if a ≤ n.val ∧ n.val ≤ b then none else k
  m.updSec fun x => { x with keys := Arr.mapIdx drop x.keys }

/-- The enrolments a transition erases. -/
def lcErase (lc : LifeCycle) (t : Nat) (m : Module) : Module :=
  if t = 3 then if lc = .return_ then eraseKeys 0x08 0x0F m else eraseKeys 0x18 0x1F m else m

/-- LIFECYCLE (R362, R363): the request of session `n`; an accepted one is recorded, burned, and takes a reset. -/
def lifecycle (n : Fin 8) (r : LcReq) (m : Module) : Module :=
  if !sessActive m n then m
  else
    let code := lcCheck m r
    let m := replyCode m n code
    let v := m.freeVal
    let m := m.freed.updSec fun x => { x with nonce := v % 2 ^ 128 }
    if code ≠ 0 then m.updSec fun x => { x with lcResult := code }
    else
      let lc := m.sec.lc
      let m := ashPost m 0x0060 .security (leBytes 1 lc.code ++ leBytes 1 r.target ++ leBytes 1 m.sec.fuses.retOut)
      let m := if m.ash.ready && m.ash.clear != .running then ashWrite m ashStaging else m
      let m := lcErase lc r.target (m.updSec fun x => { x with fuses := burn lc r.target x.fuses })
      resetOnset .lifecycle m.tick

/-! ## Keys (R365) -/

/-- The authority of R365 for enrolling or revoking key slot `k` stands behind a record. -/
def keyAuthority (m : Module) (n : Fin 8) (r : EnrolRec) (k : Nat) : Bool :=
  let root := match r.signer with
    | some s => bySignedRoot m s && r.sigOk
    | none => false
  let owner := match r.signer with
    | some s => bySignedOwner m s && r.sigOk
    | none => false
  if k < 4 then m.sec.lc == .manufacture
  else if k < 8 then false
  else if k < 0x10 then root
  else if k < 0x18 then owner
  else if k < 0x20 then m.sec.lc == .develop && (Arr.at' m.sess n).transport == .usb
  else owner || (root && m.sec.lc == .manufacture)

/-- The owner root hash may be written: once, by a privileged session, signed by Relonco root, in MANUFACTURE or DEVELOP. -/
def ownerRootOk (m : Module) (n : Fin 8) (r : EnrolRec) : Bool :=
  let root := match r.signer with
    | some s => bySignedRoot m s && r.sigOk
    | none => false
  root && sessPriv m n && (m.sec.lc == .manufacture || m.sec.lc == .develop) && !m.sec.fuses.ownerRoot

/-- A record is for this module. -/
def recordHere (m : Module) (r : EnrolRec) : Bool := r.serial == 0 || r.serial == m.serial

/-- KEY_ENROLMENT (R365): a record with its authority's signature, brought by an ACTIVE session, is stored. -/
def keyEnrolment (n : Fin 8) (r : EnrolRec) (m : Module) : Module :=
  if !sessActive m n ∨ !recordHere m r then m
  else let m := heard m n
  match r.target with
    | .ownerRoot => if ownerRootOk m n r then m.updSec fun x => { x with fuses := { x.fuses with ownerRoot := true } } else m
    | .slot k =>
      if keyAuthority m n r k.val then m.updSec fun x => { x with keys := Arr.put x.keys k (some ⟨r.priv, r.key⟩) } else m

/-- KEY_REVOCATION (R365): the record erases its slot; a Relonco root slot's revocation fuse is burned. -/
def keyRevocation (n : Fin 8) (r : EnrolRec) (m : Module) : Module :=
  if !sessActive m n ∨ !recordHere m r then m
  else let m := heard m n
  match r.target with
    | .ownerRoot => m
    | .slot k =>
      if !keyAuthority m n r k.val then m
      else if k.val < 4 then
        m.updSec fun x => { x with fuses := { x.fuses with rootRevoked := setBitN x.fuses.rootRevoked k.val } }
      else m.updSec fun x => { x with keys := Arr.put x.keys k none }

/-! ## Delivery (R367 to R369) -/

/-- Header fields of a package. -/
def pkgLen (h : List Byte) : Nat := leAt h 8 4
def pkgHasFw (h : List Byte) : Bool := tb (byteAt h 27) 0
def pkgHasSt (h : List Byte) : Bool := tb (byteAt h 27) 1
def pkgRelay (h : List Byte) : Bool := tb (leAt h 46 2) 0

/-- A component's place in the package: 0 and 0 when absent, else a multiple of 16 within the body. -/
def componentOk (h : List Byte) (has : Bool) (o : Nat) : Bool :=
  let off := leAt h o 4
  let len := leAt h (o + 4) 4
  if has then off % 16 == 0 && decide (256 ≤ off ∧ off + len ≤ pkgLen h - 96) else off == 0 && len == 0

/-- The header of R367 is well formed. -/
def headerOk (h : List Byte) : Bool :=
  leAt h 0 4 == 0x4B505541 && leAt h 4 2 == 1 && leAt h 6 2 == 256 && pkgLen h % 16 == 0
    && decide (4096 ≤ pkgLen h ∧ pkgLen h ≤ 67108864) && decide (byteAt h 24 < 4) && decide (byteAt h 26 ≤ 1)
    && decide (1 ≤ byteAt h 27 ∧ byteAt h 27 ≤ 3) && decide (leAt h 46 2 ≤ 1) && componentOk h (pkgHasFw h) 96
    && componentOk h (pkgHasSt h) 104 && leAt h 168 40 == 0

/-- The result of BEGIN (R368). -/
def beginCheck (m : Module) (h : List Byte) : Nat :=
  let ser := leAt h 16 8
  if updating m then 1
  else if m.sec.lc = .scrapped then 2
  else if !headerOk h then 3
  else if !tb (byteAt h 24) (if m.variant = .g then 0 else 1) then 4
  else if ser ≠ 0 ∧ ser ≠ m.serial.toNat then 5
  else if !keyAccepted m (byteAt h 25) then 12
  else 0

/-- An operation of delivery ends with a result. -/
def delEnded (m : Module) (code : Nat) : Module :=
  (m.updSec fun x => { x with delDone := true, delResult := code }).raise Reg.SEC_INT_STATUS 1

/-- BEGIN from a source: the inactive slot is erased and receives. -/
def delBegin (src : DelSrc) (bs : List Byte) (m : Module) : Module :=
  let code := beginCheck m bs
  if code ≠ 0 then delEnded m code
  else
    let m := m.setSlot (inactive m) ⟨.receiving, sliceAt bs 0 256, [], [], false⟩
    delEnded (m.updSec fun x => { x with delivery := some src, delSrc := src }) 0

/-- Why a source may not go on with the delivery, 0 when it may: another delivers, or none does. -/
def delTurn (m : Module) (src : DelSrc) : Nat :=
  match m.sec.delivery with
  | some s => if s = src then 0 else 1
  | none => 2

/-- The block held at an offset. -/
def PkgSlot.blockAt (p : PkgSlot) (off : Nat) : Option (List Byte) := (p.blocks.find? (·.1 == off)).map (·.2)

/-- The result of BLOCK, but for the write itself. -/
def blockCheck (p : PkgSlot) (off : Nat) (bs : List Byte) : Nat :=
  if off % 4096 ≠ 0 ∨ bs.length = 0 ∨ 4096 < bs.length ∨ pkgLen p.hdr < off + bs.length then 6
  else match p.blockAt off with
    | some old => if old = bs then 0 else 7
    | none => if off = 0 ∧ bs.take 256 ≠ p.hdr.take bs.length then 7 else 0

/-- BLOCK from a source: the block is written and read back. -/
def delBlock (src : DelSrc) (off : Nat) (bs : List Byte) (writeOk : Bool) (m : Module) : Module :=
  let t := delTurn m src
  if t ≠ 0 then delEnded m t
  else
    let p := slotOf m (inactive m)
    let code := blockCheck p off bs
    if code ≠ 0 then delEnded m code
    else if (p.blockAt off).isSome then delEnded m 0
    else if !writeOk then delEnded m 11
    else delEnded (m.setSlot (inactive m) { p with blocks := Sparse.insert off bs p.blocks }) 0

/-- Every block of the package is held. -/
def PkgSlot.complete (p : PkgSlot) : Bool :=
  let len := pkgLen p.hdr
  (List.range (cdiv len 4096)).all fun i => match p.blockAt (4096 * i) with
    | some b => decide (min 4096 (len - 4096 * i) ≤ b.length)
    | none => false

/-- The bytes of a complete package. -/
def PkgSlot.bytes (p : PkgSlot) : List Byte := (p.blocks.flatMap (·.2)).take (pkgLen p.hdr)

/-- A refused END is recorded (R379). -/
def delRefused (m : Module) (code : Nat) : Module := updateRecord (delEnded m code) 6 (inactive m) code

/-- The slot being delivered is erased; IDLE. -/
def delErase (m : Module) : Module := (m.setSlot (inactive m) PkgSlot.blank).updSec fun x => { x with delivery := none }

/-- The package is STORED with its structure image; one without a structure component keeps that of the running package. -/
def delStore (p : PkgSlot) (image : List Byte) (m : Module) : Module :=
  let m := m.setSlot (inactive m) { p with phase := .stored, image := image }
  let m := (m.updSec fun x => { x with delivery := none }).raise Reg.SEC_INT_STATUS 0
  updateRecord (delEnded m 0) 1 (inactive m) 0

/-- END from a source (R368). -/
def delEnd (src : DelSrc) (m : Module) : Module :=
  let t := delTurn m src
  let p := slotOf m (inactive m)
  let body := p.bytes
  if t ≠ 0 then delEnded m t
  else if !p.complete then delRefused m 8
  else if sha384 (sliceAt body 256 (pkgLen p.hdr - 352)) ≠ sliceAt p.hdr 208 48 then delErase (delRefused m 9)
  else if !pkgHasSt p.hdr then delStore p (slotOf m m.sec.boot.active).image m
  else match Config.openStructure p.hdr (sliceAt body (leAt p.hdr 104 4) (leAt p.hdr 108 4)) with
    | some image => delStore p image m
    | none => delErase (delRefused m 10)

/-- ABORT from a source: the slot being delivered is erased. -/
def delAbort (src : DelSrc) (m : Module) : Module :=
  match m.sec.delivery with
  | none => delEnded m 0
  | some s => if s = src then delEnded (delErase m) 0 else delEnded m 1

/-- The result of the last operation is the reply to the session that asked. -/
def delReply (n : Fin 8) (m : Module) : Module := replyCode m n m.sec.delResult

/-- A message of the UPDATE service: from a privileged session only (R369). -/
def delService (n : Fin 8) (op : Module → Module) (m : Module) : Module := if sessPriv m n then delReply n (op m) else m

/-- BEGIN, BLOCK, END, ABORT as a session sends them (R368, R369). -/
def pkgBegin (n : Fin 8) (bs : List Byte) (m : Module) : Module := delService n (delBegin .session bs) m
def pkgBlock (n : Fin 8) (off : Nat) (bs : List Byte) (writeOk : Bool) (m : Module) : Module :=
  delService n (delBlock .session off bs writeOk) m
def pkgEnd (n : Fin 8) (m : Module) : Module := delService n (delEnd .session) m
def pkgAbort (n : Fin 8) (m : Module) : Module := delService n (delAbort .session) m

/-! ## Relay over the Flue chain (R294, R369) -/

/-- A slot holds a package of this PKG_ID. -/
def holdsPkg (m : Module) (id : Nat) : Bool :=
  [Slot.a, Slot.b].any fun s => (slotOf m s).phase == .stored && leAt (slotOf m s).hdr 12 4 == id

/-- A block goes on to the next neighbour, away from the one it came from. -/
def imageRelay (q : Fin 2) (payload : List Byte) (m : Module) : Module :=
  let o := otherPort q
  if carries m o then
    let (s, m) := flueSeq m ftImage
    flueOut m o (flueFrame ftImage (nodeId m) (fport m o).neighbour 0 s payload)
  else m

/-- A block of the delivery that runs over Flue is written, relayed when held, and the package ended when complete. -/
def imageBlock (q : Fin 2) (payload : List Byte) (writeOk : Bool) (m : Module) : Module :=
  let m := delBlock .flue (leAt payload 0 4) (payload.drop 4) writeOk m
  if m.sec.delResult ≠ 0 then m
  else
    let m := imageRelay q payload m
    if (slotOf m (inactive m)).complete then delEnd .flue m else m

/-- IMAGE_FRAME (R369): a neighbour's block; a header block with RELAY set begins a delivery where RELAY_EN allows. -/
def imageFrame (q : Fin 2) (f : FlueFrameIn) (writeOk : Bool) (m : Module) : Module :=
  if !carries m q then m
  else
    let m := rxGood m q
    let hdr := f.payload.drop 4
    match m.sec.delivery with
    | some .flue => imageBlock q f.payload writeOk m
    | some .session | some .register => m
    | none =>
      if m.sec.boot.trial ∨ leAt f.payload 0 4 ≠ 0 ∨ !headerOk hdr ∨ !pkgRelay hdr ∨ !bit (m.rd Reg.SEC_CFG) 0
          ∨ holdsPkg m (leAt hdr 12 4) then m
      else
        let m := delBegin .flue hdr m
        if m.sec.delivery = some .flue then imageBlock q f.payload writeOk m else m

/-! ## Activation (R370 to R373) -/

/-- An activation command ends with a result. -/
def actEnded (m : Module) (code : Nat) : Module :=
  (m.updSec fun x => { x with actDone := true, actResult := code }).raise Reg.SEC_INT_STATUS 2

/-- A refused ACTIVATE is recorded (R379). -/
def actRefused (m : Module) (code : Nat) : Module := updateRecord (actEnded m code) 6 (inactive m) code

/-- Checks 1 to 4 of R370: the result of the first that fails. -/
def actCheck (m : Module) : Nat :=
  let p := slotOf m (inactive m)
  if m.sec.act ≠ .idle ∨ m.sec.delivery.isSome then 7
  else if m.sec.boot.trial then 2
  else if p.phase ≠ .stored ∨ p.bad then 1
  else if !keyAccepted m (byteAt p.hdr 25) then 3
  else 0

/-- ACTIVATE with checks 1 to 5 (R370); the load waits for a candidate check that runs (R48). -/
def actStart (force disarm sigOk readbackOk : Bool) (m : Module) : Module :=
  let code := actCheck m
  if code ≠ 0 then actRefused m code
  else if m.grate.loader ≠ .idle then actRefused (imageLoad (inactive m) sigOk readbackOk m) 4
  else
    let m := imageLoad (inactive m) sigOk readbackOk m
    if m.grate.loader = .idle then actRefused m 4
    else m.updSec fun x => { x with act := .preparing, force := force, disarm := disarm, actDone := false }

/-- ACTIVATE from an initiator (R370): privileged only. -/
def activate (i : Initiator) (force disarm sigOk readbackOk : Bool) (m : Module) : Module :=
  if viewOf m i then actStart force disarm sigOk readbackOk m else m

/-- R137: no ring has an event left. -/
def ringsClear (m : Module) : Bool :=
  (List.range 64).all (fun p => useOf m p == 0) && m.hob.committed.all fun c => 64 ≤ c.ev.producer

/-- The command ends before its pause: what was staged is dropped. -/
def actAbandon (code : Nat) (m : Module) : Module :=
  let m := m.updGrate fun g => { g with staging := none, loader := .idle }
  actRefused (m.updSec fun x => { x with act := .idle }) code

/-- The pause begins (R371): firmware that is the same swaps at the boundary after B0; other firmware restarts first. -/
def pauseBegins (same : Bool) (m : Module) : Module :=
  let m := m.updSec fun x => { x with act := .pause, b0 := m.mt, swapReady := same, warmDue := !same }
  let m := saveTable m
  if m.sec.disarm then disarmFor 2 m else m

/-- ACTIVATION_PAUSE (R370 checks 6 and 7, R371): B0 is the next Mantel cycle boundary; `fwSame` is whether the slot's firmware
component is the running one, which an absent component always is. -/
def activationPause (fwSame : Bool) (m : Module) : Module :=
  if m.sec.act ≠ .preparing ∨ m.grate.loader = .checking then m
  else
    let m := m.advanceTo m.nextBoundary
    if m.grate.loader ≠ .swapPending then actAbandon 4 m
    else if m.pwr.arm ≠ .disarmed ∧ !m.sec.disarm then actAbandon 5 m
    else if !ringsClear m ∧ !m.sec.force then actAbandon 6 m
    else pauseBegins (fwSame || !pkgHasFw (slotOf m (inactive m)).hdr) m

/-- The boot control record of an activation with new firmware (R376, R377). -/
def trialBegins (m : Module) : Module :=
  match m.sec.act with
  | .pause => m.updSec fun x =>
    let new := otherSlot x.boot.active
    let b := { x.boot with active := new, fallback := x.boot.active, trial := true, trialBoots := 0 }
    { x with boot := b.setArea new (1 - areaOf x.boot x.boot.active) }
  | .idle | .preparing => m

/-- WARM_RESTART (R371, R378): PD1 restarts; Kindling's choice follows. Neither the data plane nor the outputs take part. -/
def warmRestart (m : Module) : Module :=
  if !m.sec.warmDue then m
  else
    let m := trialBegins m
    let m := m.updPwr fun p => { p with cause := ResetCause.warmRestart.code, wakeSrc := 0, multiple := false }
    (pd1Reset m).updSec fun x => { x with warmDue := false, bootWait := none, fwVersion := 0 }

/-! ## Trial (R374, R378) -/

/-- The two floors rise to what the package of the active slot asks for (R366). -/
def raiseFloors (m : Module) : Module :=
  let h := (slotOf m m.sec.boot.active).hdr
  m.updSec fun x => { x with boot := { x.boot with fwFloor := max x.boot.fwFloor (leAt h 36 4),
                                                   structFloor := max x.boot.structFloor (leAt h 40 4) } }

/-- CONFIRM as a command (R378): it needs a trial. The old settings area is released: both slots use the one in use. -/
def trialConfirm (m : Module) : Module :=
  if !m.sec.boot.trial ∨ m.sec.warmDue then m.updSec fun x => { x with actDone := true, actResult := 9 }
  else
    let m := raiseFloors m
    let m := m.updSec fun x =>
      { x with boot := { x.boot with trial := false, trialBoots := 0, areaA := x.areaNow, areaB := x.areaNow }, actDone := true,
               actResult := 0 }
    updateRecord (m.raise Reg.SEC_INT_STATUS 3) 4 m.sec.boot.active 0

/-- ROLLBACK as a command (R378): it needs a trial, and takes effect by a warm restart. -/
def trialRollback (m : Module) : Module :=
  if !m.sec.boot.trial ∨ m.sec.warmDue then m.updSec fun x => { x with actDone := true, actResult := 9 }
  else m.updSec fun x => { x with actDone := true, actResult := 0, bootFail := some 10, warmDue := true }

/-- CONFIRM and ROLLBACK from an initiator: privileged only. -/
def confirm (i : Initiator) (m : Module) : Module := if viewOf m i then trialConfirm m else m
def rollback (i : Initiator) (m : Module) : Module := if viewOf m i then trialRollback m else m

/-- BOOT_WATCHDOG (R374): firmware gave no BOOT_OK within 2 s of its start; the boot fails and Kindling takes over. -/
def bootWatchdog (m : Module) : Module :=
  match m.sec.bootWait with
  | none => m
  | some t => (m.advanceTo (t + 2 * secTicks)).updSec fun x => { x with bootWait := none, bootFail := some 7, warmDue := true }

/-- A structure load that fails at boot fails the boot (R44, R374). -/
def bootLoadFailed (m : Module) : Module :=
  if m.sec.bootWait.isSome ∧ m.grate.active.isNone ∧ m.grate.staging.isNone ∧ m.sec.act = .idle then
    m.updSec fun x => { x with bootWait := none, bootFail := some 8, warmDue := true }
  else m

/-- IMAGE_LOAD as a command of MC0 (R41, R43, R44). -/
def imageLoadCmd (slot : Slot) (sigOk readbackOk : Bool) (m : Module) : Module :=
  let n := m.grate.loader
  let m := imageLoad slot sigOk readbackOk m
  if n = .idle ∧ m.grate.loader = .idle then bootLoadFailed m else m

/-- CAND_DONE as it stands among the commands: a load that waited for the check may fail a boot (R44, R48). -/
def candDoneCmd (sigOk : Bool) (bs : List Byte) (m : Module) : Module :=
  let waited := m.grate.waiting.isSome
  let m := candDone sigOk bs m
  if waited ∧ m.grate.loader = .idle then bootLoadFailed m else m

end Sys2Proof.Machine
end

