-- ==== Sys2Proof/Machine/Pwr.lean ====
section
/-! DEFINITION. Restoration, arming and probes, disarming, supplies, resets, sleep and wake, the upkeep of memories (19). -/

namespace Sys2Proof.Machine

/-! ## SETTINGS_RESTORE (R371, R377, R381) -/

/-- The units that a swap returns to Reset values. -/
def restoredUnits : List ApplyUnit :=
  [.hob, .ingest, .learn, .vdrv, .cover, .fio, .lsw] ++ (List.finRange 15).map .axis ++ (List.finRange 32).map .loop

/-- At an activation whose firmware differs, the old settings are converted into the other area (R377). -/
def adoptSettings (m : Module) : Module :=
  match m.sec.act with
  | .pause =>
    if m.sec.boot.trial then
      let old := Arr.getD m.sec.area (areaOf m.sec.boot m.sec.boot.fallback) ⟨0, []⟩
      let new : SettingsArea := { old with format := leAt (slotOf m m.sec.boot.active).hdr 44 2 }
      m.updSec fun x => { x with area := Arr.putD x.area x.areaNow new }
    else m
  | .idle | .preparing => m

/-- An axis offset returns when serial and STRUCT_ID match (R92). -/
def restoreOffset (m : Module) (n : Fin 15) : Module :=
  match Arr.at' m.axes.stored n with
  | none => m
  | some r =>
    if r.serial = m.serial ∧ r.structId = m.structId then
      let w := (BitVec.ofInt 64 r.offset).toNat
      applyUnit ((m.wr (Reg.AXIS_AX_OFFSET_LO n.val) (w32 w)).wr (Reg.AXIS_AX_OFFSET_HI n.val) (w32 (w / 2 ^ 32))) (.axis n)
    else axisEvt m n 14

/-- The activation pause ends (R371). -/
def pauseEnds (m : Module) : Module :=
  match m.sec.act with
  | .pause => actEnded (m.updSec fun x => { x with act := .idle }) 0
  | .idle | .preparing => m

/-- SETTINGS_RESTORE (R381): the six steps in order; RESTORING ends. -/
def settingsRestore (m : Module) : Module :=
  if !m.grate.restoring then m
  else
    let m := restoredUnits.foldl restoreUnit (adoptSettings m)
    let m := restoreTable m
    let m := (List.finRange 15).foldl restoreOffset m
    let m := powerOnRestore (restoreNav (restoreBanks m))
    pauseEnds ((m.updGrate fun g => { g with restoring := false }).updSec fun x => { x with bootWait := none })

/-! ## Arming (R174, R382) -/

/-- The permission of ARM and DISARM (R382). -/
def armPermitted (m : Module) (priv : Bool) : Bool := priv || !m.cb Reg.PWR_CFG 31

/-- A channel is due for a probe (R174). -/
def probeDue (m : Module) (k : Fin 128) : Bool :=
  let l := learnCh m k.val
  m.cb (Reg.LEARN_CH_CFG k.val) 9 && (l.phase == .pending || (l.phase == .cold && l.fpR == 0 && l.fpL == 0))

/-- An ARM ends with a result. -/
def armEnded (m : Module) (code : Nat) : Module :=
  (m.updPwr fun p => { p with armDone := true, armResult := code }).raise Reg.PWR_INT_STATUS 4

/-- ARM takes effect in the next tick; the arm watchdog starts (R382, R384). -/
def armTakes (m : Module) : Module :=
  let m := m.tick
  armEnded (m.updPwr fun p => { p with arm := .armed, probes := [], kick := m.mt }) 0

/-- ARM with the privilege it was written with (R382). -/
def armWrite (priv : Bool) (m : Module) : Module :=
  match m.pwr.arm with
  | .arming | .armed => m
  | .disarmed =>
    let m := m.updPwr fun p => { p with armDone := false }
    if !armPermitted m priv then armEnded m 3
    else if !m.structActive ∨ m.sec.lc = .scrapped then armEnded m 1
    else if m.grate.restoring ∨ m.sec.act = .pause ∨ m.pwr.asleep then armEnded m 2
    else match (List.finRange 128).filter (probeDue m) with
      | [] => armTakes m
      | ks => m.updPwr fun p => { p with arm := .arming, probes := ks }

/-- ARM and DISARM from an initiator. -/
def arm (i : Initiator) (m : Module) : Module := armWrite (viewOf m i) m

/-- What a probe of one channel found. -/
def probeOne (res : List ProbeRise) (m : Module) (k : Fin 128) : Module :=
  match res.find? (·.chan == k) with
  | some r => if r.reached then takeFinger m k.val r.rise else m.raise Reg.LEARN_INT_STATUS 6
  | none => m.raise Reg.LEARN_INT_STATUS 6

/-- PROBE (R174, R382): the probes of bank `b` end; a channel without a rise did not reach FP_I2. After the last, ARM takes
effect. -/
def probe (b : Fin 16) (res : List ProbeRise) (m : Module) : Module :=
  match m.pwr.arm with
  | .disarmed | .armed => m
  | .arming =>
    let mine := m.pwr.probes.filter fun k => k.val / 8 == b.val
    let rest := m.pwr.probes.filter fun k => k.val / 8 != b.val
    if mine.isEmpty then m
    else
      let m := noteLead (mine.foldl (probeOne res) m)
      let m := m.updPwr fun p => { p with probes := rest }
      if rest.isEmpty then armTakes m else m

/-- DISARM with the privilege it was written with (R383). -/
def disarmWrite (priv : Bool) (m : Module) : Module := if armPermitted m priv then disarmFor 1 m else m
def disarm (i : Initiator) (m : Module) : Module := disarmWrite (viewOf m i) m

/-- ARM_WD_KICK (R384): in either view. -/
def armWdKick (m : Module) : Module := m.updPwr fun p => { p with kick := m.mt }

/-- WD_DISARM (R384): PERIOD ms after the last kick. -/
def wdDisarm (m : Module) : Module :=
  let period := m.cf Reg.PWR_ARM_WD 13 0
  if m.armed ∧ period ≠ 0 then
    disarmFor 3 ((m.advanceTo (m.pwr.kick + period * msTicks)).raise Reg.PWR_INT_STATUS 5)
  else m

/-! ## VBAT (R385 to R387) -/

/-- VBAT_WARN (R386): below 8.0 V. -/
def vbatWarning (mv : Nat) (m : Module) : Module :=
  if mv < 8000 ∧ !m.pwr.vbatWarn then
    let m := (m.updPwr fun p => { p with vbatWarn := true }).raise Reg.PWR_INT_STATUS 0
    let m := warnOnset (warnOnset m 0) 1
    saveTable (ashPost m 0x0002 .power (leBytes 2 0 ++ leBytes 2 mv))
  else m

/-- VBAT_OK (R386): at 8.5 V. -/
def vbatOk (mv : Nat) (m : Module) : Module :=
  if 8500 ≤ mv ∧ m.pwr.vbatWarn then
    let m := (m.updPwr fun p => { p with vbatWarn := false }).raise Reg.PWR_INT_STATUS 1
    warnEnd (warnEnd (ashPost m 0x0003 .power (leBytes 2 0 ++ leBytes 2 mv)) 0) 1
  else m

/-- VBAT_LOW (R387): below 6.5 V for 10 µs. -/
def vbatLow (mv : Nat) (m : Module) : Module := if mv < 6500 then resetOnset .vbatLow m else m

/-- VBAT_OV (R385): above 40.0 V. -/
def vbatOver (mv : Nat) (m : Module) : Module :=
  if 40000 < mv then (m.updPwr fun p => { p with vbatOv := true }).raise Reg.PWR_INT_STATUS 2 else m

/-! ## Resets (R389, R391, R414) -/

/-- RESET (R389): PWR_CMD.RESET takes effect in the tick after its write. -/
def resetCmd (m : Module) : Module := resetOnset .software m.tick
def reset (i : Initiator) (m : Module) : Module := if viewOf m i then resetCmd m else m

/-- FIRMWARE_WATCHDOG (R389). -/
def firmwareWatchdog (m : Module) : Module := resetOnset .watchdog m

/-- The states in which the debug access may halt cores (R364). -/
def mayHalt : LifeCycle → Bool
  | .manufacture | .develop | .return_ => true
  | .field | .scrapped => false

/-- DEBUG_RESET (R389). -/
def debugReset (m : Module) : Module := if mayHalt m.sec.lc then resetOnset .debug m.tick else m

/-- DIE_HOT (R391): `temp` in 0.1 °C. -/
def dieHot (temp : Int) (m : Module) : Module :=
  if 1200 ≤ temp then (m.updPwr fun p => { p with dieHot := true }).raise Reg.PWR_INT_STATUS 3 else m

/-- THERMAL (R391): 135 °C held for 1 ms. -/
def thermal (temp : Int) (m : Module) : Module := if 1350 ≤ temp then resetOnset .thermal m else m

/-! ## Sleep and wake (R392, R393) -/

/-- Sleep entry: what MC0 saves, the sessions closed, the domains off; PD0 keeps the wake settings in force. -/
def enterSleep (m : Module) : Module :=
  let keep := m.regs.act.filter fun e => unitOf e.1 == some .pwr
  let m := outputsOff (sessionsLost (archDone (saveAll m)))
  let m := fullReset (unarm m)
  ({ m with regs := { m.regs with act := keep } }).updPwr fun p => { p with asleep := true, sleepMt := m.mt }

/-- A delivery or an activation runs, so that sleep waits. -/
def sleepBusy (m : Module) : Bool := m.sec.delivery.isSome || m.sec.act != .idle

/-- The result of PWR_CMD. -/
def cmdEnded (m : Module) (code : Nat) : Module := m.updPwr fun p => { p with cmdDone := true, cmdResult := code }

/-- SLEEP (R392). -/
def sleepCmd (m : Module) : Module :=
  if m.pwr.asleep then m
  else if m.pwr.arm ≠ .disarmed then cmdEnded m 1
  else if sleepBusy m then cmdEnded m 2
  else enterSleep m
def sleep (i : Initiator) (m : Module) : Module := if viewOf m i then sleepCmd m else m

/-- WAKE_FOLLOW_SLEEP (R392): an armed module is disarmed first; what runs is waited for. -/
def wakeFollowSleep (m : Module) : Module :=
  if m.pwr.asleep ∨ m.pwr.hold.isSome ∨ !m.cb Reg.PWR_CFG 30 then m
  else
    let m := disarmFor 4 m
    if sleepBusy m then m else enterSleep m

/-- The sources of WAKE_SRC that PWR_CFG and PWR_SLEEP_TIMER enable (R393). -/
def wakeEnabled (m : Module) (src : Nat) : Nat :=
  bitMap 4 fun i => tb src i && (match i with
    | 0 => true
    | 1 => m.cf Reg.PWR_CFG 27 24 != 0
    | 2 => (m.cfg Reg.PWR_SLEEP_TIMER).toNat != 0
    | _ => m.cb Reg.PWR_CFG 29)

/-- WAKE (R393): an enabled source starts the start-up with cause WAKE; a timer wakes when it has run out. -/
def wake (src : Nat) (v : BootSeen) (m : Module) : Module :=
  let on := wakeEnabled m src
  if !m.pwr.asleep ∨ on = 0 then m
  else
    let timer := (m.cfg Reg.PWR_SLEEP_TIMER).toNat
    let m := if tb on 2 then m.advanceTo (m.pwr.sleepMt + timer * secTicks) else m
    let m := { m with regs := { m.regs with act := [] } }
    startUp ResetCause.wake.code on false v m

/-! ## Upkeep of the memories (R395, R396) -/

/-- The last write lies more than 365 days back, by SECS within one BREAKS period. -/
def pageOld (m : Module) (p : NandPage) : Bool :=
  p.writtenBreaks == m.pwr.breaks && decide (365 * 86400 < m.secs - p.writtenSecs)

/-- A page that cannot be corrected. -/
def pageLost (m : Module) (p : NandPage) : Module :=
  let m := m.raise Reg.PWR_INT_STATUS 8
  match p.slot with
  | none => m
  | some s => if s = inactive m then m.setSlot s PkgSlot.blank else m.setSlot s { slotOf m s with bad := true }

/-- NAND_REFRESH (R395): one page read, and its block refreshed where worn or old; never in a slot under delivery. -/
def nandRefresh (p : NandPage) (m : Module) : Module :=
  if m.sec.delivery.isSome ∧ p.slot = some (inactive m) then m
  else
    let m := m.updPwr fun x => { x with nandCorr := satU 16 (x.nandCorr + p.corrected) }
    if p.bad then pageLost m p
    else if 4 ≤ p.worst ∨ pageOld m p then
      (m.updPwr fun x => { x with refreshed := (x.refreshed + 1) % 65536 }).raise Reg.PWR_INT_STATUS 7
    else m

/-- DRAM_SCRUB (R396): corrected errors of DRAM and of the SRAMs. -/
def dramScrub (dram sram : Nat) (m : Module) : Module :=
  let now := m.secs
  let m := m.updPwr fun x =>
    { x with eccDram := satU 16 (x.eccDram + dram), eccSram := satU 16 (x.eccSram + sram), scrubSecs := now }
  if dram + sram = 0 then m else m.raise Reg.PWR_INT_STATUS 6

/-! ## PD0 (R46, R334, R387, R394) -/

/-- PD0_LOST (R387): everything but MRAM, OTP and NAND is gone. -/
def pd0Lost (m : Module) : Module :=
  let m := unarm (m.updPwr fun p => { p with hold := none, pd2Hold := none, asleep := false })
  let m := fullReset m
  let m := { m with vdrv := VdrvSt.reset, lsw := LswSt.reset, fio := FioSt.reset, can := CanSt.reset,
                    regs := ⟨[], [], [], [], [], []⟩, ash := { m.ash with dropped := 0 } }
  let m := m.updGrate fun g => { g with retained := Retained.empty, retainSrc := .none, swapCount := 0, corrCount := 0 }
  m.updPwr fun p => { p with domains := 0, secsBase := 0, secsMt := m.mt, cause := 0, wakeSrc := 0, multiple := false }

/-- POWER_ON (R46, R394): PD0 comes up from nothing. -/
def powerOn (m : Module) : Module :=
  let m := restoreRetained (pd0Lost m)
  m.updPwr fun p => { p with domains := 1, breaks := (p.breaks + 1) % 2 ^ 32, cause := ResetCause.powerOn.code }

end Sys2Proof.Machine
end

