-- ==== Sys2Proof/Machine/LiveA.lean ====
section
/-! DEFINITION. What the read-only registers of the SYS, GRATE, AXIS, HOB, INGEST, LEARN and VDRV blocks show (each chapter's
register section): rows of first offset and value. -/

namespace Sys2Proof.Machine

/-- What a register shows: its first offset, and its value for the indices of one of its words. -/
abbrev LiveRow := Nat × (Module → List Nat → Nat)

/-- The number whose bits, from bit 0 up, are the flags of a list. -/
def flags : List Bool → Nat
  | [] => 0
  | b :: bs => b2n b + 2 * flags bs

/-- The first and second index. -/
def ix0 (ix : List Nat) : Nat := ix.headD 0
def ix1 (ix : List Nat) : Nat := ix.getD 1 0

/-- The two words of an integer held in 64 bits. -/
def loW (x : Int) : Nat := (x % (2 ^ 32 : Int)).toNat
def hiW (x : Int) : Nat := ((x / (2 ^ 32 : Int)) % (2 ^ 32 : Int)).toNat

/-- A free value's low `n` bits, from bit `k`: what the surroundings measure and no command brings (log entry 4). -/
def measured (m : Module) (k n : Nat) : Nat := m.freeVal / 2 ^ k % 2 ^ n

/-- The INT_STATUS and INT_EN registers have a set bit in common, among the bits of a mask (R59). -/
def enabledIn (m : Module) (st en : Nat) (mask : Nat) : Bool := ((m.rd st &&& m.rd en).toNat &&& mask) != 0

/-- APPLY_PENDING of a block with one shadow set. -/
def pendingBit (u : ApplyUnit) (m : Module) (_ : List Nat) : Nat := b2n (applyPending m u)

/-! ## SYS -/

def TimeSrc.code : TimeSrc → Nat
  | .free => 0 | .gnss => 1 | .chain => 2 | .holdover => 3

def sysStatus (m : Module) : Nat :=
  flags [false, (List.finRange 8).any (sessPriv m), m.structActive, m.armed, m.grate.restoring, m.flue.fstate == .master]
    + 64 * m.time.src.code

def sysSessions (m : Module) : Nat :=
  let all := List.finRange 8
  bitMap 8 (fun i => match fin? 8 i with
    | some n => sessActive m n
    | none => false) * 256
    + (all.filter (sessActive m)).length * 16 + (all.filter (sessPriv m)).length

def liveSys : List LiveRow :=
  [(Reg.SYS_PART, fun m _ => if m.variant = .g then 0x00011BD8 else 0x00021BD8),
   (Reg.SYS_FW_VERSION, fun m _ => m.sec.fwVersion.toNat),
   (Reg.SYS_SERIAL_LO, fun m _ => m.serial.toNat % 2 ^ 32),
   (Reg.SYS_SERIAL_HI, fun m _ => m.serial.toNat / 2 ^ 32),
   (Reg.SYS_LIFECYCLE, fun m _ => m.sec.fuses.retOut * 256 + m.sec.lc.code),
   (Reg.SYS_CAP0, fun m _ => if m.variant = .g then 0x00010F10 else 0x00000F10),
   (Reg.SYS_STATUS, fun m _ => sysStatus m),
   (Reg.SYS_SESSIONS, fun m _ => sysSessions m),
   (Reg.SYS_MT_LO, fun m _ => m.mt % 2 ^ 32),
   (Reg.SYS_MT_HI, fun m _ => m.mt / 2 ^ 32),
   (Reg.SYS_CYCLE, fun m _ => m.cycle)]

/-! ## GRATE -/

def Loader.code : Loader → Nat
  | .idle => 0 | .checking => 1 | .swapPending => 2

def RetainSrc.code : RetainSrc → Nat
  | .none => 0 | .pd0 => 1 | .mram => 2

/-- A field of the active structure, 0 without one. -/
def ofActive (f : Loaded → Nat) (m : Module) : Nat :=
  match m.grate.active with
  | some l => f l
  | none => 0

def liveGrate : List LiveRow :=
  [(Reg.GRATE_STATUS, fun m _ =>
      m.grate.loadErr.code * 65536 + ofActive (fun l => slotNum l.slot) m * 8 + m.grate.loader.code * 2 + b2n m.structActive),
   (Reg.GRATE_ERR_LOC, fun m _ => m.grate.errRecord * 65536 + m.grate.errByte),
   (Reg.GRATE_STRUCT_ID_LO, fun m _ => m.structId.toNat % 2 ^ 32),
   (Reg.GRATE_STRUCT_ID_HI, fun m _ => m.structId.toNat / 2 ^ 32),
   (Reg.GRATE_GENERATION, fun m _ => ofActive (·.generation) m),
   (Reg.GRATE_SWAP_COUNT, fun m _ => m.grate.swapCount.toNat),
   (Reg.GRATE_INFO, fun m _ => ofActive (fun l => l.recordCount * 65536 + l.keySlot) m),
   (Reg.GRATE_DIGEST 0, fun m ix => ofActive (fun l => leAt l.digest (4 * ix0 ix) 4) m),
   (Reg.GRATE_TAG 0, fun m ix => ofActive (fun l => leAt l.tag (4 * ix0 ix) 4) m),
   (Reg.GRATE_RETAIN, fun m _ => m.grate.retainSrc.code),
   (Reg.GRATE_ECC, fun m _ => m.grate.corrCount),
   (Reg.GRATE_CAND_CTL, fun m _ => b2n m.grate.candRunning)]

/-! ## AXIS -/

/-- A value of axis `n`. -/
def ofAxis (f : Module → Fin 15 → AxisSt → Nat) (m : Module) (ix : List Nat) : Nat :=
  match fin? 15 (ix0 ix) with
  | some n => f m n (axisAt m n)
  | none => 0

def DownReason.code : DownReason → Nat
  | .noSource => 0 | .sourceFault => 1 | .coastTime => 2 | .coastDist => 3 | .range => 4 | .chainDown => 5

/-- The coordinate as the axis reports it, and the velocity and acceleration of the snapshot's tick (R72, R80, R93): the
velocity is the rate of change of the R80 prediction there, 0 past its turning point. -/
def snapPos (m : Module) (n : Fin 15) : Int := reported (axisWrap m n.val) (axisNow m n.val)
def snapVel (m : Module) (n : Fin 15) (x : AxisSt) : Int :=
  if axisReady m n.val then
    let q := predOf m n.val x
    let t := m.mt - q.mtk
    if q.pastTurn (2 * t) then 0 else rdiv (q.vn * fclk + q.a * t * q.vd) (q.vd * fclk)
  else x.v
def snapAcc (m : Module) (n : Fin 15) (x : AxisSt) : Int := if axisReady m n.val then (predOf m n.val x).a else x.a

def snapStat (x : AxisSt) : Nat :=
  x.reversals.toNat * 65536 + x.reason.code * 4096 + x.acq * 256
    + 4 * flags [x.dirDown, x.still, x.fault, x.gnssGap, x.pulseFault] + phaseCode x.phase

def axisFlag (m : Module) (n : Nat) : Bool := enabledIn m (Reg.AXIS_AX_EVT n) (Reg.AXIS_AX_EVT_EN n) 0xFFFF

def liveAxis : List LiveRow :=
  [(Reg.AXIS_STATES, fun m _ => ((List.finRange 15).map fun n => phaseCode (axisAt m n).phase * 4 ^ n.val).sum),
   (Reg.AXIS_APPLY, fun m _ => bitMap 15 fun i => match fin? 15 i with
      | some n => applyPending m (.axis n)
      | none => false),
   (Reg.AXIS_INT_STATUS, fun m _ => bitMap 15 (axisFlag m)),
   (Reg.AXIS_AX_SNAP_POS_LO 0, ofAxis fun m n _ => loW (snapPos m n)),
   (Reg.AXIS_AX_SNAP_POS_HI 0, ofAxis fun m n _ => hiW (snapPos m n)),
   (Reg.AXIS_AX_SNAP_VEL_LO 0, ofAxis fun m n x => loW (snapVel m n x)),
   (Reg.AXIS_AX_SNAP_VEL_HI 0, ofAxis fun m n x => hiW (snapVel m n x)),
   (Reg.AXIS_AX_SNAP_ACC_LO 0, ofAxis fun m n x => loW (snapAcc m n x)),
   (Reg.AXIS_AX_SNAP_ACC_HI 0, ofAxis fun m n x => hiW (snapAcc m n x)),
   (Reg.AXIS_AX_SNAP_MT_LO 0, fun m _ => m.mt % 2 ^ 32),
   (Reg.AXIS_AX_SNAP_MT_HI 0, fun m _ => m.mt / 2 ^ 32),
   (Reg.AXIS_AX_SNAP_UPD_LO 0, ofAxis fun _ _ x => x.upd % 2 ^ 32),
   (Reg.AXIS_AX_SNAP_UPD_HI 0, ofAxis fun _ _ x => x.upd / 2 ^ 32),
   (Reg.AXIS_AX_SNAP_STAT 0, ofAxis fun _ _ x => snapStat x),
   (Reg.AXIS_AX_SNAP_REVS 0, ofAxis fun m n _ => loW (axisRevs m n)),
   (Reg.AXIS_AX_BLEND_SCALE 0, ofAxis fun m n x => if axisSrc m n.val = .blended then x.blendScale else 0)]

/-! ## HOB -/

def liveHob : List LiveRow :=
  [(Reg.HOB_STATUS, fun m _ => flags [m.hob.hobFull, m.hob.storeFull, decide (storeFill m > m.cf Reg.HOB_FILL_WM 31 16 * 64), m.hob.pagerLag]),
   (Reg.HOB_APPLY, pendingBit .hob),
   (Reg.HOB_FILL, fun m _ => storeFill m),
   (Reg.HOB_SHARED_FREE, fun m _ => sharedFree m),
   (Reg.HOB_NEAR_FILL, fun m _ => nearFill m),
   (Reg.HOB_LEAD_MAX, fun m _ => leadMax m),
   (Reg.HOB_COVER_USE, fun m _ => useOf m coverProducer),
   (Reg.HOB_AX_PEND 0, fun m ix => (m.hob.events.filter (·.axis == ix0 ix)).length),
   (Reg.HOB_RING_USE 0, fun m ix => useOf m (ix0 ix)),
   (Reg.HOB_RING_COMMITTED 0, fun m ix => (m.hob.committed.filter (·.ev.producer == ix0 ix)).length),
   (Reg.HOB_CH_QUEUE 0, fun m ix =>
      m.rf (Reg.HOB_CH_QUEUE (ix0 ix)) 31 16 * 65536 + (match fin? 256 (ix0 ix) with
        | some k => (queueOf m k).length
        | none => 0))]

/-! ## INGEST -/

def RingPhase.code : RingPhase → Nat
  | .disabled => 0 | .idle => 1 | .open => 2

/-- A value of ring `n`. -/
def ofRing (f : RingSt → Nat) (m : Module) (ix : List Nat) : Nat := f (m.ringAt (ix0 ix))

/-- A value of port `p`. -/
def ofPort (f : PortSt → Nat) (m : Module) (ix : List Nat) : Nat :=
  match fin? 4 (ix0 ix) with
  | some p => f (netPort m p)
  | none => 0

/-- Bytes `i` to `i + n - 1` of a MAC address, the first in the low byte. -/
def macBytes (i n mac : Nat) : Nat := leAt (beBytes 6 mac) i n

/-- Port p's LINK, PRESENT, LOS and TX_FAULT; the copper ports have no SFP. -/
def portStatus (m : Module) (ix : List Nat) : Nat :=
  if ix0 ix < 2 then ofPort (fun p => flags [p.link, p.present, p.los, p.txFault]) m ix
  else ofPort (fun p => flags [p.link, true]) m ix

def liveIngest : List LiveRow :=
  [(Reg.INGEST_STATUS, fun m _ => flags [m.sec.act == .pause, m.ingest.rxDropping, m.ingest.fifoFull, m.ingest.notePause]),
   (Reg.INGEST_APPLY, pendingBit .ingest),
   (Reg.INGEST_PORT_STATUS 0, portStatus),
   (Reg.INGEST_PORT_MAC_LO 0, ofPort fun p => macBytes 2 4 p.mac),
   (Reg.INGEST_PORT_MAC_HI 0, ofPort fun p => macBytes 0 2 p.mac),
   (Reg.INGEST_RING_STATE 0, ofRing fun r => r.epoch * 65536 + (match r.addr with
      | some a => a.port * 4096
      | none => 0) + r.phase.code),
   (Reg.INGEST_RING_ACK_BSEQ 0, ofRing fun r => r.ackBseq.toNat),
   (Reg.INGEST_RING_ACK_EV 0, ofRing fun r => r.ackEv.toNat),
   (Reg.INGEST_RING_EV_LIMIT 0, ofRing fun r => r.evLimit.toNat),
   (Reg.INGEST_RING_BACKLOG 0, ofRing fun r => r.notes.length),
   (Reg.INGEST_RING_NSEQ 0, ofRing fun r => r.nseq.toNat)]

/-! ## LEARN -/

def LearnPhase.code : LearnPhase → Nat
  | .none => 0 | .cold => 1 | .pending => 2 | .warm => 3 | .pair => 4

/-- Channels of some learning states. -/
def learnCount (m : Module) (ps : List LearnPhase) : Nat :=
  ((List.range 128).filter fun k => ps.contains (learnCh m k).phase).length

/-- A value of channel `k`. -/
def ofLearn (f : LearnCh → Nat) (m : Module) (ix : List Nat) : Nat := f (learnCh m (ix0 ix))

def learnState (m : Module) (ix : List Nat) : Nat :=
  let l := learnCh m (ix0 ix)
  satU 8 l.close.n * 2 ^ 24 + satU 8 l.open_.n * 65536 + l.close.run.length * 4096 + l.open_.run.length * 256
    + 16 * flags [l.stale, l.swapped, l.reseat, manEn m (ix0 ix)] + l.phase.code

def liveLearn : List LiveRow :=
  [(Reg.LEARN_STATUS, fun m _ =>
      satU 8 (learnCount m [.warm]) * 65536 + satU 8 (learnCount m [.cold, .pending]) * 256
        + flags [m.learn.restored, m.pwr.arm == .arming, m.learn.saving]),
   (Reg.LEARN_APPLY, pendingBit .learn),
   (Reg.LEARN_CH_STATE 0, learnState),
   (Reg.LEARN_CH_EST_OPEN 0, ofLearn fun l => l.open_.est),
   (Reg.LEARN_CH_EST_CLOSE 0, ofLearn fun l => l.close.est),
   (Reg.LEARN_CH_LAST_OPEN 0, ofLearn fun l => l.open_.lastCode * 2 ^ 27 + l.open_.lastM),
   (Reg.LEARN_CH_LAST_CLOSE 0, ofLearn fun l => l.close.lastCode * 2 ^ 27 + l.close.lastM),
   (Reg.LEARN_CH_FP_R 0, ofLearn fun l => l.fpRLast * 65536 + l.fpR),
   (Reg.LEARN_CH_FP_L 0, ofLearn fun l => l.fpLLast * 65536 + l.fpL),
   (Reg.LEARN_CH_COUNTS 0, ofLearn fun l => satU 16 l.rejected * 65536 + satU 16 l.valid)]

/-! ## VDRV -/

def VPhase.code : VPhase → Nat
  | .idle => 0 | .wait => 1 | .boost => 2 | .peak => 3 | .hold => 4 | .decay => 5 | .held => 6 | .limp => 7 | .fault => 8

def Rail.code : Rail → Nat
  | .vsol => 0 | .bellows => 1 | .off => 2

def vdrvStatus (m : Module) : Nat :=
  let ks := (List.range 128).map (vc m)
  flags [(half m 0).dieOt, (half m 1).dieOt] * 65536 + (ks.filter (·.phase == .fault)).length * 256
    + (ks.filter (·.phase.drives)).length

/-- Some channel of half `i` is latched by INPUT_OC. -/
def halfOc (m : Module) (i : Nat) : Bool := (halfChannels m i).any fun k => bit (m.rd (Reg.VDRV_CH_FAULT k)) 4

/-- VOLT is measured. -/
def supStatus (m : Module) (ix : List Nat) : Nat :=
  let i := ix0 ix
  measured m 0 16 * 65536 + flags [supplyWarn m i, (half m i).reduced, (half m i).uv, halfOc m i]

/-- RAIL and READY are measured. -/
def bwStatus (m : Module) (ix : List Nat) : Nat :=
  let h := half m (ix0 ix)
  measured m 0 16 * 65536 + flags [h.run, measured m 16 1 == 1, h.full, h.low, h.ov]

def bankStatus (m : Module) (ix : List Nat) : Nat :=
  let b := ix0 ix
  let waiting := ((List.range 8).filter fun i => (vc m (8 * b + i)).phase == .wait).length
  satU 3 waiting * 65536 + (match (bankSt m b).owner with
    | some k => k.val * 256
    | none => 0xFF00) + (bankSt m b).rail.code

/-- Hold is regulated below HOLD_I (R196). -/
def derated (m : Module) (k : Nat) : Bool :=
  let x := vc m k
  (x.phase == .hold || x.phase == .held || (x.phase == .limp && x.limpDrive))
    && decide (holdTarget x (half m (halfOf k)).factor < x.lat.holdI * 100)

def chStatus (m : Module) (ix : List Nat) : Nat :=
  let k := ix0 ix
  let x := vc m k
  let pair := m.recs.paired k
  if pair ∧ k % 2 = 1 then 64
  else x.phase.code * 2 ^ 28 + satU 4 x.claims.length * 2 ^ 24 + x.level * 256
    + flags [m.recs.vcEnabled k, x.phase == .fault, x.slowRise, x.dutyCut, derated m k, x.peakLimited, pair, x.pwmRun]

/-- The present regulation target in mA, the sum of a pair's two. -/
def targetMa (m : Module) (k : Nat) : Nat := chLoad m k (half m (halfOf k)).factor / 100

/-- MEASURED is 0 in a channel whose switches have long been open, and measured otherwise. -/
def chCurrent (m : Module) (ix : List Nat) : Nat :=
  let k := ix0 ix
  if m.recs.paired k ∧ k % 2 = 1 then 0
  else match (vc m k).phase with
    | .idle | .wait => 0
    | _ => targetMa m k % 65536 * 65536 + measured m 0 16

/-- A RESETPOL register reads what was last written to it, or what is retained (R8, R202). -/
def policyRead (m : Module) (c : Nat) : Nat :=
  let kept := policyFor m c
  (policyWord (match m.vdrv.polWrites.find? (·.1 == c) with
    | some e => kept.write (w32 e.2)
    | none => kept)).toNat

def liveVdrv : List LiveRow :=
  [(Reg.VDRV_STATUS, fun m _ => vdrvStatus m),
   (Reg.VDRV_APPLY, pendingBit .vdrv),
   (Reg.VDRV_SUP_STATUS 0, supStatus),
   (Reg.VDRV_SUP_LOAD 0, fun m ix =>
      satU 16 (loadOf m (ix0 ix) (half m (ix0 ix)).factor / 1000) * 65536 + (half m (ix0 ix)).factor),
   (Reg.VDRV_BW_STATUS 0, bwStatus),
   (Reg.VDRV_BW_INPUT 0, fun m _ => measured m 0 16),
   (Reg.VDRV_BANK_STATUS 0, bankStatus),
   (Reg.VDRV_CH_STATUS 0, chStatus),
   (Reg.VDRV_CH_CURRENT 0, chCurrent),
   (Reg.VDRV_CH_DUTY_ACC 0, fun m ix => dutyNow m (vc m (ix0 ix)) / 40000),
   (Reg.VDRV_CH_RESETPOL 0, fun m ix => policyRead m (ix0 ix))]

end Sys2Proof.Machine
end

