-- ==== Sys2Proof/Machine/LiveB.lean ====
section
/-! DEFINITION. What the read-only registers of the COVER, LOOP, GNSS, FLUE, FIO, LSW, CAN, ASH, SEC and PWR blocks show (each
chapter's register section): rows of first offset and value. -/

namespace Sys2Proof.Machine

/-- The 32-bit pattern of an integer saturated to 32 bits, and of one modulo 2^32. -/
def satW (x : Int) : Nat := loW (sat32 x)

/-- Bits of a word that a register's store holds, with what the hardware adds to them. -/
def kept (m : Module) (off : Nat) : Nat := (m.rd off).toNat

/-! ## COVER -/

def JobPhase.code : JobPhase → Nat
  | .none => 0 | .pending => 1 | .active => 2 | .stale => 3

def coverStatus (m : Module) : Nat :=
  let c := m.cover
  ((sections m).filter fun k => (sect m k).on).length * 256
    + flags [c.enabled, c.arch != .none, c.claimWait, lookShortNow m, poseOld m, c.storeFull]

/-- A section's events not yet ended (R220). -/
def sectStatus (m : Module) (ix : List Nat) : Nat :=
  let k := ix0 ix
  let s := sect m k
  s.duty * 65536 + s.blocked * 256 + min 3 (coverPending m (outChan k)) * 8
    + flags [s.on, s.held, sprayOn m k]

def liveCover : List LiveRow :=
  [(Reg.COVER_STATUS, fun m _ => coverStatus m),
   (Reg.COVER_APPLY, pendingBit .cover),
   (Reg.COVER_JOB_STATE, fun m _ => m.cover.jobResult * 256 + m.cover.job.code),
   (Reg.COVER_JOB_ID_LO, fun m _ => m.cover.jobId.toNat % 2 ^ 32),
   (Reg.COVER_JOB_ID_HI, fun m _ => m.cover.jobId.toNat / 2 ^ 32),
   (Reg.COVER_TILE_RESULT, fun m _ => b2n m.cover.tileDone * 2 ^ 31 + m.cover.tileResult),
   (Reg.COVER_STORE, fun m _ => 32640 - m.cover.tiles.length),
   (Reg.COVER_SNAP_MT_LO, fun m _ => m.cover.lastEval % 2 ^ 32),
   (Reg.COVER_SNAP_MT_HI, fun m _ => m.cover.lastEval / 2 ^ 32),
   (Reg.COVER_SNAP_S_LO, fun m _ => loW m.cover.snapS),
   (Reg.COVER_SNAP_S_HI, fun m _ => hiW m.cover.snapS),
   (Reg.COVER_SNAP_E, fun m _ => satW m.cover.snapE),
   (Reg.COVER_SNAP_N, fun m _ => satW m.cover.snapN),
   (Reg.COVER_SNAP_HEADING, fun m _ => m.cover.snapH % 2 ^ 32),
   (Reg.COVER_SNAP_CURV, fun m _ => satW (rdiv (m.cover.snapC * 1000) 65536)),
   (Reg.COVER_SEC_STATUS 0, sectStatus)]

/-! ## LOOP -/

/-- A value of loop `n`. -/
def ofLoop (f : LoopSt → Nat) (m : Module) (ix : List Nat) : Nat := f (lp m (ix0 ix))

def TrPhase.code : TrPhase → Nat
  | .idle => 0 | .armed => 1 | .triggered => 2 | .done => 3

def InjPhase.code : InjPhase → Nat
  | .idle => 0 | .running => 1 | .done => 2 | .aborted => 3

def loopStatus (x : LoopSt) : Nat :=
  4 * flags [x.r != x.g * 65536, x.bank, x.intClamped, x.outClamped, x.intHeld, x.outOff] + x.mode.code

/-- Item `i` in time order of a list held newest first. -/
def inOrder (l : List Word) (i : Nat) : Nat := ((l[l.length - 1 - i]?).getD 0).toNat

/-- Word `i` of trace channel `c`: 0 until DONE (R245). -/
def traceWord (m : Module) (ix : List Nat) : Nat :=
  match m.loops.trace, fin? 8 (ix0 ix) with
  | .done, some c =>
    let l := (trSamples m c).map (·.2)
    if ix1 ix < l.length then inOrder l (ix1 ix) else 0
  | _, _ => 0

/-- Capture word `j`: 0 until DONE (R246). -/
def captureWord (m : Module) (ix : List Nat) : Nat :=
  match m.loops.inj with
  | .done => if ix0 ix < m.loops.cap.length then inOrder m.loops.cap (ix0 ix) else 0
  | .idle | .running | .aborted => 0

def liveLoop : List LiveRow :=
  [(Reg.LOOP_ENABLED, fun m _ => bitMap 32 fun n => (m.recs.loopAt n).isSome),
   (Reg.LOOP_AUTO, fun m _ => bitMap 32 fun n => (lp m n).mode == .auto),
   (Reg.LOOP_APPLY, fun m _ => bitMap 32 fun n => match fin? 32 n with
      | some n => applyPending m (.loop n)
      | none => false),
   (Reg.LOOP_INT_STATUS, fun m _ => bitMap 32 fun n => enabledIn m (Reg.LOOP_LP_EVT n) (Reg.LOOP_LP_EVT_EN n) 0xFFFFFFFF),
   (Reg.LOOP_TRACE_STATUS, fun m _ => m.loops.trace.code),
   (Reg.LOOP_TRACE_TRIG_MT_LO, fun m _ => m.loops.trigMt % 2 ^ 32),
   (Reg.LOOP_TRACE_TRIG_MT_HI, fun m _ => m.loops.trigMt / 2 ^ 32),
   (Reg.LOOP_INJ_STATUS, fun m _ => m.loops.inj.code * 65536 + m.loops.injIx),
   (Reg.LOOP_LP_STATUS 0, ofLoop loopStatus),
   (Reg.LOOP_LP_TARGET 0, ofLoop fun x => satW x.g),
   (Reg.LOOP_LP_REF 0, ofLoop fun x => satW (roundShr x.r 16)),
   (Reg.LOOP_LP_FB 0, ofLoop fun x => satW x.y),
   (Reg.LOOP_LP_OUT 0, ofLoop fun x => satW x.u),
   (Reg.LOOP_LP_INT 0, ofLoop fun x => satW (roundShr x.i 16)),
   (Reg.LOOP_LP_DERIV 0, ofLoop fun x => satW x.d),
   (Reg.LOOP_LP_SAMPLE_MT_LO 0, ofLoop fun x => x.sampleMt % 2 ^ 32),
   (Reg.LOOP_LP_SAMPLE_MT_HI 0, ofLoop fun x => x.sampleMt / 2 ^ 32),
   (Reg.LOOP_LP_FB_STAT 0, ofLoop fun x => x.fresh % 65536 * 65536 + satU 16 x.staleN),
   (Reg.LOOP_TRACE_DATA 0 0, traceWord),
   (Reg.LOOP_INJ_CAP 0, captureWord)]

/-! ## GNSS -/

def AntState.code : AntState → Nat
  | .off => 0 | .ok => 1 | .open_ => 2 | .short => 3

/-- A value of tracking channel `c`. -/
def ofGc (f : GcSt → Nat) (m : Module) (ix : List Nat) : Nat :=
  match fin? 96 (ix0 ix) with
  | some c => f (gc m c)
  | none => 0

def gnssStatus (m : Module) : Nat :=
  let g := m.gnss
  satU 8 g.sats * 2 ^ 24 + ((List.range 96).filter (tracked m)).length * 65536 + g.fix * 256
    + 32 * flags [g.burst, g.ephStale, g.almStale] + g.ant.code * 8 + tstateCode m

def gcStatus (g : GcSt) : Nat :=
  g.dumps % 65536 * 65536 + satU 8 g.parityFail * 256 + 16 * flags [g.overrun, g.bitSync, g.frameSync, !g.fifo.isEmpty]

/-- Accumulation `i` of the last dump. -/
def gcAcc (i : Nat) : Module → List Nat → Nat := ofGc fun g => (g.acc.getD i 0).toNat

def liveGnss : List LiveRow :=
  [(Reg.GNSS_STATUS, fun m _ => gnssStatus m),
   (Reg.GNSS_APPLY, pendingBit .gnss),
   (Reg.GNSS_ANT, fun m _ => b2n (biasEn m) * 2 ^ 31 + satU 8 m.gnss.current),
   (Reg.GNSS_TP_MT_LO, fun m _ => m.gnss.pulseMt % 2 ^ 32),
   (Reg.GNSS_TP_MT_HI, fun m _ => m.gnss.pulseMt / 2 ^ 32),
   (Reg.GNSS_TP_TIME, fun m _ => m.gnss.pulseWeek % 4096 * 2 ^ 20 + m.gnss.pulseTow),
   (Reg.GNSS_TP_UNC, fun m _ => tpUnc m),
   (Reg.GNSS_TP_OFFSET, fun m _ => satW (slewLeft m)),
   (Reg.GNSS_TP_STATUS, fun m _ =>
      m.gnss.reason * 16 + 4 * flags [m.gnss.slew.isSome, stepNext m] + tstateCode m),
   (Reg.GNSS_RTCM_STATUS, fun m _ => m.gnss.baseId * 2 ^ 20 + satU 8 (m.gnss.rtcm.length / 16) * 4096 + rtcmAge m m.mt),
   (Reg.GNSS_GC_STATUS 0, ofGc gcStatus),
   (Reg.GNSS_GC_IE 0, gcAcc 0), (Reg.GNSS_GC_QE 0, gcAcc 1), (Reg.GNSS_GC_IP 0, gcAcc 2),
   (Reg.GNSS_GC_QP 0, gcAcc 3), (Reg.GNSS_GC_IL 0, gcAcc 4), (Reg.GNSS_GC_QL 0, gcAcc 5),
   (Reg.GNSS_GC_NAV 0, ofGc fun g => (g.fifo.headD 0).toNat)]

/-! ## FLUE -/

def FState.code : FState → Nat
  | .alone => 0 | .master => 1 | .acquire => 2 | .sync => 3 | .slew => 4 | .blocked => 5 | .holdover => 6

/-- A value of Flue port `q`. -/
def ofFlue (f : FPortSt → Nat) (m : Module) (ix : List Nat) : Nat :=
  match fin? 2 (ix0 ix) with
  | some q => f (fport m q)
  | none => 0

def flueStatus (m : Module) : Nat :=
  4 * flags [m.flue.fstate == .master, (fport m 0).gap, m.flue.dup] + (if m.flue.ring then 2 else if anyUp m then 1 else 0)

/-- Links to a node, 0 when it is this module or unknown. -/
def hopsTo (m : Module) (id : Nat) : Nat :=
  match routeTo m id with
  | some r => r.hops
  | none => 0

def routeResult (m : Module) : Nat :=
  match routeTo m (m.rf Reg.FLUE_ROUTE_QUERY 15 0) with
  | some r => 2 ^ 31 + r.port.val * 2 ^ 30 + r.hops % 65536
  | none => 0

def liveFlue : List LiveRow :=
  [(Reg.FLUE_STATUS, fun m _ => flueStatus m),
   (Reg.FLUE_APPLY, pendingBit .flue),
   (Reg.FLUE_NODE, fun m _ => m.flue.pos % 65536 * 65536 + nodeId m % 65536),
   (Reg.FLUE_MASTER, fun m _ => match m.flue.master with
      | some id => hopsTo m id % 65536 * 65536 + id % 65536
      | none => 0),
   (Reg.FLUE_TIME_STATUS, fun m _ =>
      m.flue.info.tstate % 4 * 1024 + (match m.flue.master with
        | some _ => m.flue.info.cls % 4 * 256
        | none => 0) + m.flue.fstate.code),
   (Reg.FLUE_OFFSET, fun m _ => satW (rdiv (offsetMean m) 6553600)),
   (Reg.FLUE_STEP_COUNT, fun m _ => m.flue.steps),
   (Reg.FLUE_TPIN_MT_LO, fun m _ => m.flue.tpin % 2 ^ 32),
   (Reg.FLUE_TPIN_MT_HI, fun m _ => m.flue.tpin / 2 ^ 32),
   (Reg.FLUE_NODES, fun m _ => m.flue.routes.length),
   (Reg.FLUE_ROUTE_RESULT, fun m _ => routeResult m),
   (Reg.FLUE_PORT_STATUS 0, ofFlue fun p => p.neighbour % 65536 * 65536 + flags [p.up, p.lock, p.gap]),
   (Reg.FLUE_PORT_DELAY 0, ofFlue fun p => (rdiv (delayPs16 p) 65536).toNat % 2 ^ 20)]

/-! ## FIO -/

def VState.code : VState → Nat
  | .normal => 0 | .warn => 1 | .cut => 2 | .restore => 3 | .noData => 4

/-- Latched off by its own fault, the supply or the barrier (R306). -/
def foLatched (m : Module) (n : Nat) : Bool := (fo m n).latched || m.fio.latch || m.fio.fieldLatch

def foStatus (m : Module) (ix : List Nat) : Nat :=
  let n := ix0 ix
  let x := fo m n
  let duty := if (ownerLoop m (512 + n)).isSome then x.u else x.level
  duty % 65536 * 65536 + min 8 x.claims.length * 16
    + flags [foDuty m n != 0, foLatched m n, foPwm m n && foDuty m n != 0, x.limp.isSome]

/-- The SETTLING mark: 1 ms from the restart of the averaging (R310). -/
def settling (m : Module) (x : AiSt) : Bool :=
  match x.settleFrom with
  | some t => decide (m.mt < t + msTicks)
  | none => false

/-- A value of analog input `n`. -/
def ofAi (m : Module) (n : Nat) : AiSt := Arr.getD m.fio.ai n AiSt.reset

def liveFio : List LiveRow :=
  [(Reg.FIO_STATUS, fun m _ =>
      flags [supplyLow m, m.fio.up.fault, (List.range 16).any (foLatched m), m.fio.ssLatched != 0]),
   (Reg.FIO_APPLY, pendingBit .fio),
   (Reg.FIO_VFIELD, fun m _ =>
      (if m.fio.vstate = .noData then 0 else m.fio.volt % 65536) * 65536 + 8 * flags [m.fio.ready, m.fio.vfOver] + m.fio.vstate.code),
   (Reg.FIO_BARRIER, fun m _ =>
      satU 16 m.fio.badFrames * 65536 + satU 8 m.fio.faults * 256 + flags [m.fio.up.fault, m.fio.latch]),
   (Reg.FIO_FI_LEVEL, fun m _ => bitMap 32 fun n => (Arr.getD m.fio.fi n ⟨false, none, none⟩).level),
   (Reg.FIO_FI_QUAL, fun m _ => m.fio.frameSeq % 16 * 65536 + flags [supplyLow m, m.fio.up.fault, m.fio.fiLost]),
   (Reg.FIO_FO_STATE, fun m _ => bitMap 16 (foLatched m) * 65536 + bitMap 16 fun n => foDuty m n != 0),
   (Reg.FIO_AI_OPEN, fun m _ => (bitMap 16 fun n => (ofAi m n).over_) * 65536 + bitMap 16 fun n => (ofAi m n).open_),
   (Reg.FIO_SS_STATUS, fun m _ => m.fio.ssLatched * 256 + measured m 0 8),
   (Reg.FIO_AI_MT_LO, fun m _ => m.fio.aiMt % 2 ^ 32),
   (Reg.FIO_AI_MT_HI, fun m _ => m.fio.aiMt / 2 ^ 32),
   (Reg.FIO_AI_DATA 0, fun m ix => m.fio.aiSeq % 65536 * 65536 + aiCode m (ix0 ix) % 65536),
   (Reg.FIO_FO_STATUS 0, foStatus),
   (Reg.FIO_FO_RESETPOL 0, fun m ix => policyRead m (512 + ix0 ix)),
   (Reg.FIO_AI_FLAGS 0, fun m ix => kept m (Reg.FIO_AI_FLAGS (ix0 ix)) % 16 + b2n (settling m (ofAi m (ix0 ix))) * 16)]

/-! ## LSW -/

def lsState (m : Module) (n : Nat) : Nat :=
  let x := ls m n
  let d := lsDuty m n
  if x.latched then 5
  else match x.wait with
    | .retry _ => 3
    | .thermal => 4
    | .none =>
      if x.heldUntil.isSome then 6
      else if x.limp.isSome then 7
      else if bridgeRec m n then 8
      else if d = 0 then 0 else if d = 65535 then 1 else 2

/-- LIMITING is measured. -/
def lsStatus (m : Module) (ix : List Nat) : Nat :=
  let n := ix0 ix
  let x := ls m n
  let own := (ownerLoop m (256 + n)).isSome
  lsState m n * 2 ^ 28 + min 8 x.claims.length * 2 ^ 24 + x.retries % 8 * 2 ^ 20
    + flags [own, measured m 0 1 == 1, x.openOff] * 2 ^ 17 + (if own then x.u.natAbs else x.level) % 65536

def liveLsw : List LiveRow :=
  [(Reg.LSW_STATUS, fun m _ =>
      (bitMap 16 fun n => lsDuty m n != 0) * 65536 + flags [m.lsw.limpActive, bit (m.rd Reg.LSW_SUP_FAULT) 0, m.lsw.uv]),
   (Reg.LSW_APPLY, pendingBit .lsw),
   (Reg.LSW_VLS, fun m _ => measured m 0 32),
   (Reg.LSW_LIMP_STATUS, fun m _ => b2n m.lsw.limpActive * 2 ^ 31 + b2n m.lsw.lhEn * 65536 + m.lsw.lhIn % 256),
   (Reg.LSW_CH_STATUS 0, lsStatus),
   (Reg.LSW_CH_CURRENT 0, fun m _ => measured m 0 32),
   (Reg.LSW_CH_TEMP 0, fun m _ => measured m 0 16),
   (Reg.LSW_CH_RESETPOL 0, fun m ix => policyRead m (256 + ix0 ix))]

/-! ## CAN -/

/-- A value of controller `c`. -/
def ofCn (f : Module → Fin 4 → Nat) (m : Module) (ix : List Nat) : Nat :=
  match fin? 4 (ix0 ix) with
  | some c => f m c
  | none => 0

/-- A value of object `i` of controller `c`. -/
def ofObj (f : Module → Fin 4 → Fin 128 → Nat) (m : Module) (ix : List Nat) : Nat :=
  match fin? 4 (ix0 ix), fin? 128 (ix1 ix) with
  | some c, some i => f m c i
  | _, _ => 0

def CanPhase.code : CanPhase → Nat
  | .disabled | .integrating | .active => 0 | .passive => 1 | .busOff => 2 | .recovering => 3

def cnStatus (m : Module) (c : Fin 4) : Nat :=
  let x := cn m c
  let tec := match x.phase with
    | .busOff => 255
    | _ => satU 8 x.tec
  tec * 2 ^ 24 + satU 8 x.recv * 65536 + b2n x.warning * 4 + x.phase.code

def objStatus (m : Module) (c : Fin 4) (i : Fin 128) : Nat :=
  let o := obj m c i
  o.retries % 16 * 2 ^ 28 + (match o.rx with
    | some f => flags [f.ide, f.fdf, f.brs, f.esi] * 2 ^ 23 + f.dlc % 16 * 65536
    | none => 0)
    + flags [bit (m.rd (Reg.CAN_OBJ_FLAGS c.val i.val)) 0, objOwned m c i] * 8 + o.tx % 8

def liveCan : List LiveRow :=
  [(Reg.CAN_CN_STATUS 0, ofCn cnStatus),
   (Reg.CAN_CN_NEW 0 0, fun m ix => bitMap 32 fun j => bit (m.rd (Reg.CAN_OBJ_FLAGS (ix0 ix) (32 * ix1 ix + j))) 0),
   (Reg.CAN_OBJ_STATUS 0 0, ofObj objStatus),
   (Reg.CAN_OBJ_RX_ID 0 0, ofObj fun m c i => match (obj m c i).rx with
      | some f => f.id % 2 ^ 29
      | none => 0)]

/-! ## ASH -/

def liveAsh : List LiveRow :=
  [(Reg.ASH_STATUS, fun m _ => m.ash.staged.length * 65536 + flags [m.ash.ready, m.ash.wrapped, m.ash.clear == .running]),
   (Reg.ASH_HEAD, fun m _ => m.ash.head.toNat),
   (Reg.ASH_TAIL, fun m _ => m.ash.tail.toNat),
   (Reg.ASH_DROPPED, fun m _ => m.ash.dropped.toNat),
   (Reg.ASH_CLEAR_RESULT, fun m _ => b2n m.ash.clearDone * 2 ^ 31 + m.ash.clearResult)]

/-! ## SEC -/

/-- Development keys are in force: DEVELOP with one enrolled (R364). -/
def devKeys (m : Module) : Bool :=
  m.sec.lc == .develop && (List.range 8).any fun i => enrolled m (0x18 + i)

/-- A package header field of slot `s`; 0 when no package is held. -/
def slotField (o : Nat) (m : Module) (ix : List Nat) : Nat :=
  let p := slotOf m (if ix0 ix = 0 then .a else .b)
  if p.phase = .stored then leAt p.hdr o 4 else 0

def secStatus (m : Module) : Nat :=
  let s := m.sec
  b2n s.boot.trial * 2 ^ 31 + min 3 s.boot.trialBoots * 2 ^ 28 + slotNum s.boot.active * 256
    + 16 * flags [s.slotA.phase == .stored, s.slotB.phase == .stored] + flags [s.fuses.ownerRoot, devKeys m]

def DelSrc.code : DelSrc → Nat
  | .session => 0 | .register => 1 | .flue => 2

def delStatus (m : Module) : Nat :=
  let s := m.sec
  let p := slotOf m (inactive m)
  b2n s.delDone * 2 ^ 31 + s.delResult * 2 ^ 24 + s.delSrc.code * 2 ^ 18
    + (if s.delivery.isSome then 1 else if p.phase = .stored then 2 else 0) * 65536 + p.blocks.length % 2 ^ 15

def ActPhase.code : ActPhase → Nat
  | .idle => 0 | .preparing => 1 | .pause => 2

/-- A key of slot `n` is enrolled; the root slots are in OTP (R365). -/
def keyThere (m : Module) (n : Nat) : Bool := rootKey m n || enrolled m n

/-- The credential in slot 0x20 + `n` is privileged. -/
def credPriv (m : Module) (n : Nat) : Bool :=
  match Arr.getD m.sec.keys (0x20 + n) none with
  | some k => k.priv
  | none => false

def liveSec : List LiveRow :=
  [(Reg.SEC_STATUS, fun m _ => secStatus m),
   (Reg.SEC_BOOT, fun m _ =>
      m.sec.reason * 2 ^ 24 + (if m.sec.reason = 0 then 0 else slotNum m.sec.failedSlot * 256) + b2n m.sec.fallbackBoot),
   (Reg.SEC_SLOT_VERSION 0, slotField 28),
   (Reg.SEC_SLOT_ID 0, slotField 12),
   (Reg.SEC_FW_FLOOR, fun m _ => m.sec.boot.fwFloor),
   (Reg.SEC_STRUCT_FLOOR, fun m _ => m.sec.boot.structFloor),
   (Reg.SEC_KEY_MAP, fun m _ => bitMap 32 (keyThere m)),
   (Reg.SEC_CRED_MAP, fun m _ => bitMap 32 fun n => enrolled m (0x20 + n)),
   (Reg.SEC_CRED_PRIV, fun m _ => bitMap 32 (credPriv m)),
   (Reg.SEC_DEL_STATUS, fun m _ => delStatus m),
   (Reg.SEC_ACT_STATUS, fun m _ => b2n m.sec.actDone * 2 ^ 31 + m.sec.actResult * 2 ^ 24 + m.sec.act.code),
   (Reg.SEC_LC_NONCE 0, fun m ix => m.sec.nonce / 2 ^ (32 * ix0 ix) % 2 ^ 32),
   (Reg.SEC_LC_RESULT, fun m _ => m.sec.lcResult)]

/-! ## PWR -/

/-- Conditions that no command ends are as measured while they may still hold (log entry 4). -/
def pwrStatus (m : Module) : Nat :=
  let p := m.pwr
  satU 8 p.pd2Resets * 256
    + flags [p.vbatWarn, measured m 0 1 == 1, p.vbatOv && measured m 1 1 == 1, p.dieHot && measured m 2 1 == 1]

/-- PD9 follows VFIELD and PD11 VLS; limp-home keeps PD10 and PD11 in sleep (R388). -/
def domainsNow (m : Module) : Nat :=
  let base := if m.pwr.asleep && m.lsw.limpActive then m.pwr.domains ||| 0xC00 else m.pwr.domains
  (base &&& 0x5FF) + measured m 0 1 * 2 ^ 9 + (if m.pwr.asleep && m.lsw.limpActive then 2 ^ 11 else measured m 1 1 * 2 ^ 11)

def ArmPhase.code : ArmPhase → Nat
  | .disarmed => 0 | .arming => 1 | .armed => 2

def livePwr : List LiveRow :=
  [(Reg.PWR_STATUS, fun m _ => pwrStatus m),
   (Reg.PWR_APPLY, pendingBit .pwr),
   (Reg.PWR_VBAT, fun m _ => measured m 0 32),
   (Reg.PWR_RESET_CAUSE, fun m _ => m.pwr.wakeSrc % 16 * 2 ^ 24 + b2n m.pwr.multiple * 65536 + m.pwr.cause % 65536),
   (Reg.PWR_BOOT_COUNT, fun m _ => m.pwr.bootCount),
   (Reg.PWR_SECS, fun m _ => m.secs),
   (Reg.PWR_SECS_BREAKS, fun m _ => m.pwr.breaks),
   (Reg.PWR_TEMP, fun m _ => measured m 0 16),
   (Reg.PWR_ARM_STATUS, fun m _ =>
      b2n m.pwr.armDone * 2 ^ 31 + m.pwr.armResult * 2 ^ 24 + m.pwr.lastDisarm * 65536 + m.pwr.arm.code),
   (Reg.PWR_CMD_RESULT, fun m _ => b2n m.pwr.cmdDone * 2 ^ 31 + m.pwr.cmdResult),
   (Reg.PWR_DOMAINS, fun m _ => domainsNow m),
   (Reg.PWR_ECC, fun m _ => satU 16 m.pwr.eccDram * 65536 + satU 16 m.pwr.eccSram),
   (Reg.PWR_NAND, fun m _ => m.pwr.refreshed % 65536 * 65536 + satU 16 m.pwr.nandCorr)]

/-! ## All of them -/

/-- The rows of a block, by the number of its 1 MiB window. -/
def liveOfBlock (blk : Nat) : List LiveRow :=
  match blk with
  | 0 => liveSys | 1 => liveGrate | 2 => liveAxis | 3 => liveHob | 4 => liveIngest | 5 => liveVdrv | 6 => liveLearn
  | 7 => liveCover | 8 => liveLoop | 9 => liveGnss | 10 => liveFlue | 11 => liveFio | 12 => liveLsw | 13 => liveCan
  | 14 => liveAsh | 15 => liveSec | 16 => livePwr
  | _ => []

/-- Registers whose value is measured, so that each read takes a fresh free value (log entry 4). -/
def measuredRegs : List Nat :=
  [Reg.VDRV_SUP_STATUS 0, Reg.VDRV_BW_STATUS 0, Reg.VDRV_BW_INPUT 0, Reg.VDRV_CH_CURRENT 0, Reg.FIO_SS_STATUS, Reg.LSW_VLS,
   Reg.LSW_CH_STATUS 0, Reg.LSW_CH_CURRENT 0, Reg.LSW_CH_TEMP 0, Reg.PWR_STATUS, Reg.PWR_VBAT, Reg.PWR_TEMP, Reg.PWR_DOMAINS]

/-- What the register at `off` shows apart from access rules, publication and holding registers. -/
def liveValue (m : Module) (off : Nat) : Word :=
  match regAt off with
  | none => 0
  | some (d, ix) =>
    match (liveOfBlock (off / 0x100000)).find? (·.1 == d.base) with
    | some row => w32 (row.2 m ix)
    | none => m.rd off

end Sys2Proof.Machine
end

