-- ==== Sys2Proof/Machine/State.lean ====
section
/-! DEFINITION. The state of the machine: the commands that wait, the memory the cores address, and the module. Its value right
after reset. The reasons a step can stop. -/

namespace Sys2Proof.Machine

/-- Why a step stops. No command of the table stops: an access that the manual refuses takes its access fault, is recorded in
SYS_BUSERR and goes on (R53, R55), so this type has no value. -/
inductive Fault
  deriving DecidableEq, Repr

/-- Why a command has no meaning. -/
inductive Refusal where
  /-- Raised by the dispatch for a command whose meaning is not written; no arm of this model raises it. Safe: nothing follows. -/
  | notModelled (mnemonic : String)
  deriving DecidableEq, Repr

/-- The memory behind the cores' addresses that holds plain bytes: MRAM, both SRAM regions, the firmware and application regions
of DRAM (R51). A byte nothing has written reads as 0 (log entry 5). -/
abbrev Memory := List Host.Cell

structure State where
  /-- The commands that wait, first in first out. -/
  pending : List Instr
  mem : Memory
  m : Module
  deriving DecidableEq, Repr

/-- The module right after a power-on reset: PD0 is up, nothing has booted (R12, R380). -/
def Module.reset : Module :=
  { time := TimeSt.reset, regs := RegSt.reset, core := Arr.fill 4 CoreSt.reset, plic := PlicSt.reset,
    sess := Arr.fill 8 SessSt.closed, variant := .g, serial := 0, grate := GrateSt.reset, axes := AxesSt.reset, hob := HobSt.reset,
    ingest := IngestSt.reset, learn := LearnSt.reset, vdrv := VdrvSt.reset, cover := CoverSt.reset, loops := LoopsSt.reset,
    gnss := GnssSt.reset, flue := FlueSt.reset, can := CanSt.reset, lsw := LswSt.reset, fio := FioSt.reset, ash := AshSt.reset,
    sec := SecSt.reset, pwr := PwrSt.reset, out := [], freeCtr := 0 }

/-- The machine right after reset. -/
def State.reset : State := { pending := [], mem := [], m := Module.reset }

end Sys2Proof.Machine
end

