-- ==== Sys2Proof/Machine/Mem.lean ====
section
/-! DEFINITION. Memory: reading and writing bytes, its canonical form, the regions of the address map (R6, R51). Operations on the
module lifted to the state. -/

namespace Sys2Proof.Machine

/-- What a byte that nothing has written reads as (log entry 5). -/
def unwritten (_ : Nat) : Byte := 0

/-- The canonical form of a memory: addresses rise, and no entry equals what an unlisted address reads as. -/
def Memory.wf (mem : Memory) : Bool := Sparse.wf unwritten mem

/-- One byte. -/
def Memory.rd (mem : Memory) (a : Nat) : Byte := Sparse.get unwritten mem a

/-- Write one byte. -/
def Memory.wr (mem : Memory) (a : Nat) (v : Byte) : Memory := Sparse.set unwritten mem a v

/-- `n` bytes from address `a` up. -/
def Memory.rdN (mem : Memory) (a n : Nat) : List Byte := (List.range n).map fun i => mem.rd (a + i)

/-- Write bytes from address `a` up. -/
def Memory.wrN (mem : Memory) (a : Nat) : List Byte → Memory
  | [] => mem
  | v :: vs => Memory.wrN (mem.wr a v) (a + 1) vs

/-- Who may store to a region of plain bytes. -/
inductive Owner where
  | mc0 | firmware | anyone
  deriving DecidableEq, Repr

/-- The regions of the address map that hold plain bytes: first address, end, who may store (R51). -/
def plainRegions : List (Nat × Nat × Owner) :=
  [(0x10000000, 0x10200000, .firmware), (0x10200000, 0x10800000, .anyone), (0x20000000, 0x20400000, .mc0),
   (0x80000000, 0x84000000, .firmware), (0x9C000000, 0xC0000000, .anyone)]

/-- Core `h` in a mode has access to a region of an owner: machine mode to all but MRAM, which is MC0's; supervisor and user mode of
MC1 to MC3 to the application's own memory. -/
def Owner.admits (o : Owner) (h : Fin 4) (mode : Mode) : Bool :=
  match mode, o with
  | .machine, .mc0 => h.val == 0
  | .machine, _ => true
  | _, .anyone => h.val != 0
  | _, _ => false

/-- The region in which `n` bytes from `a` lie whole. -/
def regionOf (a n : Nat) : Option (Nat × Nat × Owner) := plainRegions.find? fun r => decide (r.1 ≤ a ∧ a + n ≤ r.2.1)

/-- The core has access to `n` bytes of plain memory from `a`. -/
def plainOk (h : Fin 4) (mode : Mode) (a n : Nat) : Bool :=
  match regionOf a n with
  | some r => r.2.2.admits h mode
  | none => false

/-- Apply an operation of the module to the state. -/
def State.onModule (s : State) (f : Module → Module) : State := { s with m := f s.m }

end Sys2Proof.Machine
end

