-- ==== Sys2Proof/Machine/Regs.lean ====
section
/-! DEFINITION. Reading a register word: access codes, publication pairs, holding registers, and the registers each initiator has of
its own (R8, R11, R15, R16, R19, R20, R356, R357). -/

namespace Sys2Proof.Machine

/-! ## Which bits (R8 to R11) -/

/-- The bits of a register that a view may write. -/
def AccBits.writable (a : AccBits) (priv : Bool) : Nat :=
  a.rw ||| a.w1c ||| a.w1s ||| a.wo ||| (if priv then a.rwp ||| a.po else 0)

/-- The bits of a register that a view does not see. -/
def AccBits.hidden (a : AccBits) (priv : Bool) : Nat := a.wo ||| (if priv then 0 else a.po)

/-- The block whose window holds `off` is absent from this variant (R1). -/
def absent (m : Module) (off : Nat) : Bool := off / 0x100000 == 9 && m.variant == .p

/-- Channel `k` is the odd channel of a pair (R25). -/
def oddOfPair (m : Module) (k : Nat) : Bool := m.recs.paired k && k % 2 == 1

/-- The register belongs to something that the active structure does not have: the coverage engine, a loop, or the odd
channel of a pair as a channel of its own (09, 10, 11, R179). -/
def unowned (m : Module) (off : Nat) : Bool :=
  (off / 0x100000 == 7 && (coverRec m).isNone)
    || (decide (Reg.LOOP_LP_STATUS 0 ≤ off ∧ off < Reg.LOOP_LP_STATUS 32)
        && (m.recs.loopAt ((off - Reg.LOOP_LP_STATUS 0) / 0x100)).isNone)
    || (decide (Reg.VDRV_CH_STATUS 0 ≤ off ∧ off < Reg.VDRV_CH_STATUS 128) && oddOfPair m ((off - Reg.VDRV_CH_STATUS 0) / 0x20))
    || (decide (Reg.LEARN_CH_STATE 0 ≤ off ∧ off < Reg.LEARN_CH_STATE 128) && oddOfPair m ((off - Reg.LEARN_CH_STATE 0) / 0x40))

/-- What the registers of a pair's odd channel read: VDRV_CH STATUS.PAIR and the learning state PAIR, and 0 otherwise. -/
def oddValue (off : Nat) : Word :=
  if off / 0x100000 = 5 then (if (off - Reg.VDRV_CH_STATUS 0) % 0x20 = 0 then 64 else 0)
  else if (off - Reg.LEARN_CH_STATE 0) % 0x40 = 0 then 4 else 0

/-- An object register that software does not reach while TUN_EN is set (R348; log entry 12). -/
def tunnelObject (m : Module) (off : Nat) (ix : List Nat) : Bool :=
  decide (Reg.CAN_OBJ_CFG 0 0 ≤ off ∧ off < 0xE00000) && decide (126 ≤ ix1 ix) && (match fin? 4 (ix0 ix) with
    | some c => tunEn m c
    | none => false)

/-! ## Snapshot groups (R16) -/

/-- The latch groups: the lowest word, and how many words follow it. -/
def latchGroups : List (Nat × Nat) :=
  [(Reg.SYS_SERIAL_LO, 1), (Reg.SYS_MT_LO, 1), (Reg.GRATE_STRUCT_ID_LO, 1), (Reg.AXIS_AX_SNAP_POS_LO 0, 11),
   (Reg.AXIS_AX_IDX_POS_LO 0, 3), (Reg.INGEST_RING_STATE 0, 5), (Reg.LEARN_CH_STATE 0, 7), (Reg.VDRV_CH_STATUS 0, 3),
   (Reg.COVER_JOB_ID_LO, 1), (Reg.COVER_SNAP_MT_LO, 7), (Reg.LOOP_TRACE_TRIG_MT_LO, 1), (Reg.LOOP_LP_STATUS 0, 8),
   (Reg.GNSS_TP_MT_LO, 5), (Reg.GNSS_GC_STATUS 0, 6), (Reg.FLUE_TPIN_MT_LO, 1), (Reg.FIO_FI_LEVEL, 1),
   (Reg.FIO_AI_MT_LO, 17), (Reg.CAN_OBJ_STATUS 0 0, 17), (Reg.ASH_HEAD, 1)]

/-- The strides and counts of the register at `off`. -/
def dimsAt (off : Nat) : List (Nat × Nat) :=
  match regAt off with
  | some (d, _) => d.dims
  | none => []

/-- The place of `off` in a latch group: the offset of its lowest word, and how many words above that it lies. -/
def inLatch (off : Nat) (g : Nat × Nat) : Option (Nat × Nat) :=
  if g.1 / 0x100000 ≠ off / 0x100000 then none
  else (List.range (g.2 + 1)).findSome? fun i =>
    if g.1 + 4 * i ≤ off ∧ (RegDef.index (dimsAt g.1) (off - 4 * i - g.1)).isSome then some (off - 4 * i, i) else none

/-- The latch group of `off`: its lowest word, the words above it, and the place of `off` among them. -/
def latchOf (off : Nat) : Option (Nat × Nat × Nat) :=
  latchGroups.findSome? fun g => (inLatch off g).map fun p => (p.1, g.2, p.2)

/-! ## Publication sets (R19, R20) -/

/-- A publication set: its sequence register, and its other words as runs of a first offset and a count; whether it is a publication
pair of a block (R19). -/
structure PubSet where
  seq : Nat
  runs : List (Nat × Nat)
  pair : Bool
  deriving DecidableEq, Repr

def pubSets : List PubSet :=
  [⟨Reg.HOB_PUB_SEQ, [(Reg.HOB_PUB_SEQ + 4, 7)], true⟩, ⟨Reg.INGEST_PUB_SEQ, [(Reg.INGEST_PUB_SEQ + 4, 5)], true⟩,
   ⟨Reg.LEARN_PUB_SEQ, [(Reg.LEARN_PUB_SEQ + 4, 3)], true⟩, ⟨Reg.VDRV_PUB_SEQ, [(Reg.VDRV_PUB_SEQ + 4, 9)], true⟩,
   ⟨Reg.COVER_PUB_SEQ, [(Reg.COVER_PUB_SEQ + 4, 9)], true⟩, ⟨Reg.GNSS_PVT_SEQ, [(Reg.GNSS_PVT_SEQ + 4, 22)], false⟩,
   ⟨Reg.GNSS_OBS_SEQ, [(Reg.GNSS_OBS_SEQ + 4, 3), (Reg.GNSS_OBS_W 0 0, 256)], false⟩]

/-- The offsets of a set's words but its sequence register. -/
def PubSet.words (p : PubSet) : List Nat := p.runs.flatMap fun r => (List.range r.2).map fun i => r.1 + 4 * i

/-- An offset lies in a set, its sequence register apart. -/
def PubSet.has (p : PubSet) (off : Nat) : Bool := p.runs.any fun r => decide (r.1 ≤ off ∧ off < r.1 + 4 * r.2)

/-- The set whose sequence register stands at `off`, and the set that has `off` as a word. -/
def setOfSeq (off : Nat) : Option PubSet := pubSets.find? (·.seq == off)
def setOfWord (off : Nat) : Option PubSet := pubSets.find? (·.has off)

/-- A word of a publication pair shows the published half. -/
def published (off : Nat) : Bool := pubSets.any fun p => p.pair && (p.seq == off || p.has off)

/-! ## The value of a register to an initiator -/

/-- The registers an initiator has of its own: its Ash read port and its post data. -/
def ownValue (m : Module) (who off : Nat) : Option Nat :=
  let p := ashPortOf m who
  if off = Reg.ASH_RD_SEQ then some p.seq.toNat
  else if off = Reg.ASH_RD_STATUS then some (b2n p.done * 2 ^ 31 + p.result)
  else if Reg.ASH_RD_DATA 0 ≤ off ∧ off < Reg.ASH_RD_DATA 16 then some ((p.data[(off - Reg.ASH_RD_DATA 0) / 4]?).getD 0).toNat
  else if Reg.ASH_POST_DATA 0 ≤ off ∧ off < Reg.ASH_POST_DATA 8 then
    some (Sparse.get (fun _ => (0 : Word)) m.ash.postData (8 * who + (off - Reg.ASH_POST_DATA 0) / 4)).toNat
  else none

/-- What an aligned read finds at `off`, holding registers apart. -/
def shownValue (m : Module) (who off : Nat) : Word :=
  match regAt off with
  | none => 0
  | some (_, ix) =>
    if absent m off || tunnelObject m off ix then 0
    else match ownValue m who off with
      | some v => w32 v
      | none =>
        if unowned m off then (if off / 0x100000 = 7 ∨ off / 0x100000 = 8 then resetOf off else oddValue off)
        else if published off then Sparse.get resetOf m.regs.pub off
        else liveValue m off

/-- The key of initiator `who`'s holding register of `off`. -/
def holdKey (who off : Nat) : Nat := who * 2 ^ 26 + off

/-- A holding register; one never latched holds 0 (R16). -/
def heldValue (m : Module) (who off : Nat) : Word := Sparse.get (fun _ => (0 : Word)) m.regs.hold (holdKey who off)

/-- Copy words into the holding registers of an initiator. -/
def latchWords (m : Module) (who : Nat) (offs : List Nat) : Module :=
  let hold := offs.foldl (fun h o => Sparse.set (fun _ => (0 : Word)) h (holdKey who o) (shownValue m who o)) m.regs.hold
  { m with regs := { m.regs with hold := hold } }

/-- Initiators 12 to 15 are the register tunnels. -/
def isTunnel (who : Nat) : Bool := decide (12 ≤ who ∧ who < 16)

/-- What a read does besides: a privileged read of GNSS_GC[c]_NAV takes the oldest piece (R254); one of GNSS_GC[c]_STATUS is the
read that OVERRUN watches for (R253); a measured register's next read is measured anew. -/
def readEffect (priv : Bool) (off : Nat) (m : Module) : Module :=
  match regAt off with
  | none => m
  | some (d, ix) =>
    if absent m off then m
    else if d.base = Reg.GNSS_GC_NAV 0 then
      match priv, fin? 96 (ix0 ix) with
      | true, some c => (navPop c m).2
      | _, _ => m
    else if d.base = Reg.GNSS_GC_STATUS 0 then
      match fin? 96 (ix0 ix) with
      | some c => m.updGc c fun g => { g with unread := false }
      | none => m
    else if measuredRegs.contains d.base then m.freed
    else m

/-- The value before the access code is applied, and the latching (R16, R20). -/
def readRaw (who off : Nat) (m : Module) : Word × Module :=
  match latchOf off with
  | some (low, n, 0) => (shownValue m who off, latchWords m who ((List.range n).map fun i => low + 4 * (i + 1)))
  | some _ => (heldValue m who off, m)
  | none =>
    if !isTunnel who then (shownValue m who off, m)
    else match setOfSeq off with
      | some p => (shownValue m who off, latchWords m who p.words)
      | none => if (setOfWord off).isSome then (heldValue m who off, m) else (shownValue m who off, m)

/-- A register read by initiator number `who` through a view: the word, and the module after it. -/
def regRead (who : Nat) (priv : Bool) (off : Nat) (m : Module) : Word × Module :=
  match regAt off with
  | none => (0, m)
  | some (d, _) =>
    if absent m off then (0, m)
    else
      let (v, m) := readRaw who off m
      (v &&& ~~~ w32 (d.acc.hidden priv), readEffect priv off m)

end Sys2Proof.Machine
end

