-- ==== Sys2Proof/Machine/RegWrite.lean ====
section
/-! DEFINITION. Writing a register word: the access codes, and what each command, apply, flag and value register does in the tick of
its write (R8 to R11, R17, and each chapter's register section). -/

namespace Sys2Proof.Machine

/-- A write as a register sees it: who writes, through which view, where, the row and its indices, and the word with the bits that
this view may not write at 0. -/
structure WriteAcc where
  who : Initiator
  priv : Bool
  off : Nat
  row : RegDef
  ix : List Nat
  w : Word
  deriving DecidableEq, Repr

/-- An operation of the module on the item a first index names. -/
def WriteAcc.nth (a : WriteAcc) (n : Nat) (f : Fin n → Module → Module) (m : Module) : Module :=
  match fin? n (ix0 a.ix) with
  | some k => f k m
  | none => m

/-- An operation that bit `i` of the word commands. -/
def WriteAcc.cmd (a : WriteAcc) (i : Nat) (f : Module → Module) (m : Module) : Module := if bit a.w i then f m else m

/-- The write of a register without behaviour of its own (R8). -/
def plainWrite (a : WriteAcc) (m : Module) : Module :=
  let c := a.row.acc
  let old := m.rd a.off
  let set := w32 (c.rw ||| (if a.priv then c.rwp ||| c.po else 0))
  m.wr a.off ((((old &&& ~~~ set) ||| (a.w &&& set)) ||| (a.w &&& w32 c.w1s)) &&& ~~~ (a.w &&& w32 c.w1c))

/-- The APPLY register of a block with one shadow set. -/
def writeApply (u : ApplyUnit) (a : WriteAcc) : Module → Module := a.cmd 0 (applyUnit · u)

/-- A free verdict: what a write or a signature check turns out to be (log entry 13). -/
def freeBit (m : Module) (i : Nat) : Bool := m.freeVal.testBit i

/-! ## Block by block: what a write of a special register does -/

def writeGrate (a : WriteAcc) : Option (Module → Module) :=
  if a.row.base = Reg.GRATE_CAND_CTL then some (a.cmd 0 candCheck) else none

def writeAxis (a : WriteAcc) : Option (Module → Module) :=
  if a.row.base = Reg.AXIS_APPLY then
    some fun m => (List.finRange 15).foldl (fun m n => a.cmd n.val (applyUnit · (.axis n)) m) m
  else if a.row.base = Reg.AXIS_AX_CMD 0 then
    some (a.nth 15 fun n m => a.cmd 2 (clearCounts n) (a.cmd 1 (saveOffset n) (a.cmd 0 (axisRestart n) m)))
  else none

def writeHob (a : WriteAcc) : Option (Module → Module) :=
  if a.row.base = Reg.HOB_APPLY then some (writeApply .hob a) else none

def writeIngest (a : WriteAcc) : Option (Module → Module) :=
  if a.row.base = Reg.INGEST_APPLY then some (writeApply .ingest a)
  else if a.row.base = Reg.INGEST_RING_CMD 0 then
    some (a.nth 64 fun n m => a.cmd 1 (discardNotes n) (a.cmd 0 (ringClose n) m))
  else none

def writeVdrv (a : WriteAcc) : Option (Module → Module) :=
  if a.row.base = Reg.VDRV_APPLY then some (writeApply .vdrv a)
  else if a.row.base = Reg.VDRV_CH_RESETPOL 0 then some (resetPolWrite (ix0 a.ix) a.w)
  else if a.row.base = Reg.VDRV_CH_FAULT 0 then some (a.nth 128 fun k m => vdrvFaultWrite k a.w m)
  else none

def writeLearn (a : WriteAcc) : Option (Module → Module) :=
  if a.row.base = Reg.LEARN_APPLY then some (writeApply .learn a)
  else if a.row.base = Reg.LEARN_CH_CMD 0 then some (a.nth 128 fun k m => a.cmd 1 (learnLoad k) (a.cmd 0 (learnForget k) m))
  else none

/-- A write of COVER_JOB_CMD is carried out at the next evaluation (R224). -/
def writeCover (a : WriteAcc) : Option (Module → Module) :=
  if a.row.base = Reg.COVER_APPLY then some (writeApply .cover a)
  else if a.row.base = Reg.COVER_JOB_CMD then
    let op := fld a.w 2 0
    some fun m => if 1 ≤ op ∧ op ≤ 5 then m.updCover fun c => { c with jobCmd := op } else m
  else none

/-- A write of LOOP_LP[n]_MODE: a request of 0b11 is ignored, and the requested mode stays as it was (R237). -/
def loopModeWrite (a : WriteAcc) (m : Module) : Module :=
  if fld a.w 1 0 = 3 then plainWrite { a with w := (a.w &&& ~~~ 3#32) ||| (m.rd a.off &&& 3#32) } m else plainWrite a m

/-- A write of a register of loop `n` reaches nothing where the loop has no LOOP record (11). -/
def toLoop (a : WriteAcc) (f : Module → Module) (m : Module) : Module :=
  if (m.recs.loopAt (ix0 a.ix)).isNone then m else f m

def writeLoop (a : WriteAcc) : Option (Module → Module) :=
  if a.row.base = Reg.LOOP_APPLY then
    some fun m => (List.finRange 32).foldl (fun m n => a.cmd n.val (applyUnit · (.loop n)) m) m
  else if a.row.base = Reg.LOOP_TRACE_CTL then some fun m => a.cmd 31 traceStart (a.cmd 30 traceStop (plainWrite a m))
  else if a.row.base = Reg.LOOP_INJ_CTL then some fun m => a.cmd 1 injStop (a.cmd 0 injStart m)
  else if a.row.base = Reg.LOOP_LP_MODE 0 then some (loopModeWrite a)
  else if a.row.base = Reg.LOOP_LP_CMD 0 then some (a.nth 32 fun n m => a.cmd 0 (saveBanks n) m)
  else if a.row.base = Reg.LOOP_LP_SP_VALUE 0 then some (a.nth 32 fun n m => spValue n a.w m)
  else if a.row.base = Reg.LOOP_LP_FB_SW_VALUE 0 then some (a.nth 32 fun n m => fbSwValue n a.w m)
  else if (bankOffs (ix0 a.ix)).contains a.off then some (toLoop a (bankWrite (ix0 a.ix) a.off a.w))
  else none

def writeGnss (a : WriteAcc) : Option (Module → Module) :=
  if a.row.base = Reg.GNSS_APPLY then some (writeApply .gnss a)
  else if a.row.base = Reg.GNSS_ANT then some fun m => biasWritten (plainWrite a m)
  else if a.row.base = Reg.GNSS_CMD then some fun m => a.cmd 2 gnssRestart (a.cmd 1 clearNav (a.cmd 0 saveNav m))
  else if a.row.base = Reg.GNSS_RTCM_WORD then some (rtcmWord a.w)
  else if a.row.base = Reg.GNSS_RTCM_BYTE then some (rtcmByte (a.w.truncate 8))
  else if a.row.base = Reg.GNSS_GC_CFG 0 then some (a.nth 96 fun c m => channelStart c a.w m)
  else none

def writeFlue (a : WriteAcc) : Option (Module → Module) :=
  if a.row.base = Reg.FLUE_APPLY then some (writeApply .flue a)
  else if a.row.base = Reg.FLUE_CMD then some fun m => a.cmd 1 placeGapCmd (a.cmd 0 renumber m)
  else none

def writeFio (a : WriteAcc) : Option (Module → Module) :=
  if a.row.base = Reg.FIO_APPLY then some (writeApply .fio a)
  else if a.row.base = Reg.FIO_CMD then some (a.cmd 0 ackRelease)
  else if a.row.base = Reg.FIO_SS_CTL then some (sensorSupplyControl a.w)
  else if a.row.base = Reg.FIO_SS_FAULT then some (ssOcClear a.w)
  else if a.row.base = Reg.FIO_FO_RESETPOL 0 then some (resetPolWrite (512 + ix0 a.ix) a.w)
  else if a.row.base = Reg.FIO_FO_FAULT 0 then some (a.nth 16 fun n m => foFaultClear n a.w m)
  else none

def writeLsw (a : WriteAcc) : Option (Module → Module) :=
  if a.row.base = Reg.LSW_APPLY then some (writeApply .lsw a)
  else if a.row.base = Reg.LSW_SUP_FAULT then some (a.cmd 0 (vlsOcClear a.w))
  else if a.row.base = Reg.LSW_CH_RESETPOL 0 then some (resetPolWrite (256 + ix0 a.ix) a.w)
  else if a.row.base = Reg.LSW_CH_FAULT 0 then some (a.nth 16 fun n m => lswFaultClear n a.w m)
  else none

/-- A write of an object's CMD; whether an ABORT meets the object's own frame on the bus is free (log entry 13). -/
def objCommand (a : WriteAcc) (c : Fin 4) (i : Fin 128) (m : Module) : Module :=
  a.cmd 1 (fun m => txAbort c i (freeBit m 0) m.freed) (a.cmd 0 (txReq c i) m)

/-- The registers of a message object. -/
def writeObj (a : WriteAcc) (c : Fin 4) : Option (Module → Module) :=
  match fin? 128 (ix1 a.ix) with
  | none => none
  | some i =>
    if a.row.base = Reg.CAN_OBJ_CFG 0 0 ∨ a.row.base = Reg.CAN_OBJ_ID 0 0 ∨ a.row.base = Reg.CAN_OBJ_MASK 0 0
        ∨ a.row.base = Reg.CAN_OBJ_DATA 0 0 0 then
      some (objWrite c i a.off a.w)
    else if a.row.base = Reg.CAN_OBJ_CMD 0 0 then some (objCommand a c i)
    else none

def writeCan (a : WriteAcc) : Option (Module → Module) :=
  match fin? 4 (ix0 a.ix) with
  | none => none
  | some c =>
    if a.row.base = Reg.CAN_CN_CFG 0 then some (canCfgWrite c a.w)
    else if a.row.base = Reg.CAN_CN_NBT 0 ∨ a.row.base = Reg.CAN_CN_DBT 0 then some (canTimingWrite c a.off a.w)
    else if a.row.base = Reg.CAN_CN_TUN_REQ 0 then some (tunnelEnable c a.w)
    else if a.row.base = Reg.CAN_CN_CMD 0 then some (a.cmd 0 (canRecover c))
    else writeObj a c

def writeAsh (a : WriteAcc) : Option (Module → Module) :=
  if a.row.base = Reg.ASH_RD_SEQ then some (ashReadAs (Initiator.idx a.who) a.priv a.w)
  else if a.row.base = Reg.ASH_POST_CODE then some (applicationPost a.who a.w.toNat)
  else if a.row.base = Reg.ASH_POST_DATA 0 then
    some fun m => { m with ash := { m.ash with
      postData := Sparse.set (fun _ => (0 : Word)) m.ash.postData (8 * Initiator.idx a.who + ix0 a.ix) a.w } }
  else if a.row.base = Reg.ASH_CLEAR then some (a.cmd 0 (ashClear a.who (fld a.w 31 16)))
  else none

/-- The verdicts on the structure signature and on the read-back of an activation's load are free here (log entry 13). -/
def actCommand (a : WriteAcc) (m : Module) : Module :=
  let start (m : Module) : Module := actStart (bit a.w 1) (bit a.w 2) (freeBit m 0) (freeBit m 1) m.freed
  a.cmd 5 trialRollback (a.cmd 4 trialConfirm (a.cmd 0 start m))

def writeSec (a : WriteAcc) : Option (Module → Module) :=
  if a.row.base = Reg.SEC_ACT_CTL then some (actCommand a) else none

/-- RESET before SLEEP, DISARM before ARM, where both are written. -/
def writePwr (a : WriteAcc) : Option (Module → Module) :=
  if a.row.base = Reg.PWR_APPLY then some (writeApply .pwr a)
  else if a.row.base = Reg.PWR_ARM then
    some fun m => if bit a.w 1 then disarmWrite a.priv m else a.cmd 0 (armWrite a.priv) m
  else if a.row.base = Reg.PWR_ARM_WD_KICK then some armWdKick
  else if a.row.base = Reg.PWR_CMD then some fun m => if bit a.w 0 then resetCmd m else a.cmd 1 sleepCmd m
  else none

/-- What a write does in the block whose window holds it, where the register has a behaviour of its own. -/
def writeSpecial (a : WriteAcc) : Option (Module → Module) :=
  match a.off / 0x100000 with
  | 1 => writeGrate a | 2 => writeAxis a | 3 => writeHob a | 4 => writeIngest a | 5 => writeVdrv a | 6 => writeLearn a
  | 7 => writeCover a | 8 => writeLoop a | 9 => writeGnss a | 10 => writeFlue a | 11 => writeFio a | 12 => writeLsw a
  | 13 => writeCan a | 14 => writeAsh a | 15 => writeSec a | 16 => writePwr a
  | _ => none

/-- A register write inside the module. -/
def writeModule (a : WriteAcc) (m : Module) : Module :=
  let f := (writeSpecial a).getD (plainWrite a)
  coverAfter (f m)

/-! ## Writes that reach memory -/

/-- The 8 KiB at COVER_TILE_ADDR as a number (R212). -/
def tileBuffer (s : State) : Nat := leNat (s.mem.rdN (tileAddr s.m) 8192)

/-- EXPORT, with its store to memory (R212). -/
def exportTile (layer : Nat) (s : State) : State :=
  let (m, d) := tileExport layer s.m
  match d with
  | some x => { s with m := m, mem := s.mem.wrN (tileAddr s.m) (leBytes 8192 x) }
  | none => { s with m := m }

/-- LOAD of the buffer. -/
def loadTile (layer : Nat) (s : State) : State := s.onModule (tileLoad layer (tileBuffer s))

/-- COVER_TILE_CMD (R212). -/
def tileCommand (w : Word) (s : State) : State :=
  let layer := fld w 9 8
  match fld w 1 0 with
  | 1 => loadTile layer s
  | 2 => exportTile layer s
  | 3 => s.onModule (tileDelete layer)
  | _ => s

/-- SEC_DEL_ADDR. -/
def delAddr (m : Module) : Nat := (m.rd Reg.SEC_DEL_ADDR_LO).toNat + 2 ^ 32 * (m.rd Reg.SEC_DEL_ADDR_HI).toNat

/-- SEC_DEL_CMD (R368, R369): the block lies at SEC_DEL_ADDR; whether its write to NAND holds is free (log entry 13). -/
def deliveryCommand (w : Word) (s : State) : State :=
  let bs := s.mem.rdN (delAddr s.m) (fld w 28 16)
  match fld w 2 0 with
  | 1 => s.onModule (delBegin .register bs)
  | 2 => s.onModule fun m => delBlock .register (m.rd Reg.SEC_DEL_OFFSET).toNat bs (freeBit m 0) m.freed
  | 3 => s.onModule (delEnd .register)
  | 4 => s.onModule (delAbort .register)
  | _ => s

/-! ## A register write -/

/-- A register write by an initiator through a view (R8 to R11, R17). -/
def regWrite (who : Initiator) (priv : Bool) (off : Nat) (w : Word) (s : State) : State :=
  match regAt off with
  | none => s
  | some (d, ix) =>
    let may := w32 (d.acc.writable priv)
    if absent s.m off || may == 0 then s
    else if d.base = Reg.COVER_TILE_CMD then tileCommand (w &&& may) s
    else if d.base = Reg.SEC_DEL_CMD then deliveryCommand (w &&& may) (s.onModule (plainWrite ⟨who, priv, off, d, ix, w &&& may⟩))
    else s.onModule (writeModule ⟨who, priv, off, d, ix, w &&& may⟩)

end Sys2Proof.Machine
end

