-- ==== Sys2Proof/Machine/Bus.lean ====
section
/-! DEFINITION. The address map: register views, refused accesses, the core-local interruptor, the interrupt controller, memory, and
the resident monitor's ecalls (R49 to R61). -/

namespace Sys2Proof.Machine

/-! ## The two register views (R51 to R55, R58) -/

/-- Bases of the two views, and the length of each (R51). -/
def privBase : Nat := 0x40000000
def unprivBase : Nat := 0x60000000
def viewLen : Nat := 0x1100000

/-- The view and the offset an address names; the gap above each view belongs to it (log entry 14). -/
def viewAt (addr : Nat) : Option (Bool × Nat) :=
  if privBase ≤ addr ∧ addr < unprivBase then some (true, addr - privBase)
  else if unprivBase ≤ addr ∧ addr < 0x80000000 then some (false, addr - unprivBase)
  else none

/-- The address of an offset in a view. -/
def viewAddr (priv : Bool) (off : Nat) : Nat := (if priv then privBase else unprivBase) + off

/-- The initiator has the view that it asks for (R54, R364). -/
def granted (m : Module) (i : Initiator) (priv : Bool) : Bool :=
  match i with
  | .core h mode => mode == .machine || (h.val != 0 && !priv)
  | .session n => !priv || (Arr.at' m.sess n).priv
  | .tunnel _ => !priv
  | .debug => match m.sec.lc with
    | .manufacture | .develop => true
    | .return_ => !priv
    | .field | .scrapped => false

/-- Reasons of SYS_BUSERR_INFO. -/
inductive BusReason where
  | align | size | unmapped | view | restoring
  deriving DecidableEq, Repr

def BusReason.code : BusReason → Nat
  | .align => 1 | .size => 2 | .unmapped => 3 | .view => 4 | .restoring => 5

/-- SYS_BUSERR_ADDR and SYS_BUSERR_INFO take a refusal. -/
def recordErr (m : Module) (i : Initiator) (addr : Nat) (r : BusReason) : Module :=
  (m.wr Reg.SYS_BUSERR_ADDR (w32 addr)).wr Reg.SYS_BUSERR_INFO (w32 (r.code * 65536 + Initiator.code i * 256))

/-- An access fault on a core; other initiators take none. -/
def coreFault (m : Module) : Initiator → Module
  | .core h _ => { m with core := Arr.upd m.core h fun c => { c with faults := c.faults + 1 } }
  | .session _ | .tunnel _ | .debug => m

/-- An access refused under R53 or R55. -/
def refuseAcc (m : Module) (i : Initiator) (addr : Nat) (r : BusReason) : Module :=
  let m := coreFault (recordErr m i addr r) i
  match i, r with
  | .session _, .view => m.raise Reg.SYS_INT_STATUS 1
  | _, _ => m.raise Reg.SYS_INT_STATUS 2

/-- Why an access to a view is refused, if it is. -/
def viewRefusal (m : Module) (i : Initiator) (priv : Bool) (off size : Nat) : Option BusReason :=
  if viewLen ≤ off then some .unmapped
  else if !granted m i priv then some .view
  else if size ≠ 4 then some .size
  else if off % 4 ≠ 0 then some .align
  else none

/-- A write to `off` meets RESTORING (R58). -/
def restoringAt (m : Module) (off : Nat) : Bool := m.grate.restoring && inSwapBlock off

/-- The initiators whose writes RESTORING holds off: customer code, sessions and tunnels. -/
def heldOff : Initiator → Bool
  | .core _ mode => mode != .machine
  | .session _ | .tunnel _ => true
  | .debug => false

/-- A write discarded or refused under RESTORING. -/
def dropWrite (m : Module) (i : Initiator) (addr : Nat) : Module :=
  (recordErr m i addr .restoring).raise Reg.SYS_INT_STATUS 3

/-- A write in a view. -/
def viewWrite (i : Initiator) (priv : Bool) (off : Nat) (b : BusWrite) (s : State) : State :=
  match viewRefusal s.m i priv off b.size with
  | some r => s.onModule fun m => refuseAcc m i b.addr r
  | none =>
    if restoringAt s.m off && heldOff i then s.onModule fun m => dropWrite m i b.addr
    else regWrite i priv off (w32 b.value) s

/-! ## The core-local interruptor (R50, R51, R61) -/

/-- Layout (log entry 15): msip of core h at 4h, mtimecmp at 0x4000 + 8h, mtime at 0xBFF8. -/
def clintBase : Nat := 0x02000000
def clintEnd : Nat := 0x02010000

/-- Write `n` bytes of a 64-bit register from byte `o` on. -/
def patch64 (old : DWord) (o n value : Nat) : DWord :=
  let bs := leBytes 8 old.toNat
  BitVec.ofNat 64 (leNat (bs.take o ++ leBytes n value ++ bs.drop (o + n)))

/-- A timer compare is written: its interrupt goes until the compare fires again. -/
def setMtimecmp (m : Module) (h : Fin 4) (v : DWord) : Module :=
  { m with core := Arr.upd m.core h fun c => { c with mtimecmp := v, mtip := false } }

def setMsip (m : Module) (h : Fin 4) (v : Bool) : Module := { m with core := Arr.upd m.core h fun c => { c with msip := v } }

/-- A store to the core-local interruptor, at offset `o`: mtime is read-only. -/
def clintWrite (o size value : Nat) (m : Module) : Module :=
  if o < 16 then
    match fin? 4 (o / 4) with
    | some h => if o % 4 = 0 then setMsip m h (value.testBit 0) else m
    | none => m
  else if 0x4000 ≤ o ∧ o + size ≤ 0x4020 then
    match fin? 4 ((o - 0x4000) / 8) with
    | some h => setMtimecmp m h (patch64 (Arr.at' m.core h).mtimecmp (o % 8) size value)
    | none => m
  else m

/-- The bytes a load finds there. -/
def clintRead (o size : Nat) (m : Module) : Nat :=
  let v := if o < 16 then (match fin? 4 (o / 4) with
      | some h => b2n (Arr.at' m.core h).msip
      | none => 0)
    else if 0x4000 ≤ o ∧ o < 0x4020 then (match fin? 4 ((o - 0x4000) / 8) with
      | some h => (Arr.at' m.core h).mtimecmp.toNat / 256 ^ (o % 8)
      | none => 0)
    else if 0xBFF8 ≤ o ∧ o < 0xC000 then m.mt / 256 ^ (o % 8)
    else 0
  v % 256 ^ size

/-! ## The interrupt controller (R59 to R61) -/

/-- An interrupt-status register and its enables have a common bit. -/
def raised (m : Module) (st en : Nat) : Bool := enabledIn m st en 0xFFFFFFFF

/-- An INT_STATUS that a block shows rather than stores, with its INT_EN. -/
def raisedLive (m : Module) (st en : Nat) : Bool := liveValue m st &&& m.rd en != 0

/-- A source is asserted (R60). -/
def asserted (m : Module) (src : Nat) : Bool :=
  match src with
  | 1 => enabledIn m Reg.PWR_INT_STATUS Reg.PWR_INT_EN 0x3
  | 2 => enabledIn m Reg.PWR_INT_STATUS Reg.PWR_INT_EN 0xFFFFFFFC
  | 3 => enabledIn m Reg.SYS_INT_STATUS Reg.SYS_INT_EN 0xF
  | 4 => raised m Reg.GRATE_INT_STATUS Reg.GRATE_INT_EN
  | 5 => raisedLive m Reg.AXIS_INT_STATUS Reg.AXIS_INT_EN
  | 6 => raised m Reg.HOB_INT_STATUS Reg.HOB_INT_EN
  | 7 => raised m Reg.INGEST_INT_STATUS Reg.INGEST_INT_EN
  | 8 => raised m Reg.VDRV_INT_STATUS Reg.VDRV_INT_EN
  | 9 => raised m Reg.LEARN_INT_STATUS Reg.LEARN_INT_EN
  | 10 => raised m Reg.COVER_INT_STATUS Reg.COVER_INT_EN
  | 11 => raisedLive m Reg.LOOP_INT_STATUS Reg.LOOP_INT_EN
  | 12 => m.variant == .g && raised m Reg.GNSS_INT_STATUS Reg.GNSS_INT_EN
  | 13 => m.variant == .g && raised m Reg.GNSS_EPOCH_STATUS Reg.GNSS_EPOCH_EN
  | 14 => raised m Reg.FLUE_INT_STATUS Reg.FLUE_INT_EN
  | 15 => raised m Reg.FIO_INT_STATUS Reg.FIO_INT_EN
  | 16 => raised m Reg.LSW_INT_STATUS Reg.LSW_INT_EN
  | 17 => raised m (Reg.CAN_CN_INT_STATUS 0) (Reg.CAN_CN_INT_EN 0)
  | 18 => raised m (Reg.CAN_CN_INT_STATUS 1) (Reg.CAN_CN_INT_EN 1)
  | 19 => raised m (Reg.CAN_CN_INT_STATUS 2) (Reg.CAN_CN_INT_EN 2)
  | 20 => raised m (Reg.CAN_CN_INT_STATUS 3) (Reg.CAN_CN_INT_EN 3)
  | 21 => raised m Reg.ASH_INT_STATUS Reg.ASH_INT_EN
  | 22 => raised m Reg.SEC_INT_STATUS Reg.SEC_INT_EN
  | 23 => enabledIn m Reg.SYS_INT_STATUS Reg.SYS_INT_EN 0x10
  | _ => false

/-- A source is pending: asserted, and not between a claim and its completion. -/
def pendingAt (m : Module) (src : Nat) : Bool := asserted m src && !bit m.plic.claimed src

/-- Priority of a source. -/
def prioOf (m : Module) (src : Nat) : Nat := (Arr.getD m.plic.prio src 0).toNat

/-- A source may be claimed in a context; context 1 is never used (R59). -/
def claimable (m : Module) (ctx : Fin 8) (src : Nat) : Bool :=
  ctx.val != 1 && pendingAt m src && bit (Arr.at' m.plic.enable ctx) src && prioOf m src != 0

/-- The source that a claim in a context returns: the highest priority, then the lowest number; 0 for none. -/
def claimPick (m : Module) (ctx : Fin 8) : Nat :=
  ((List.range 32).filter (claimable m ctx)).foldl (fun a s => if a = 0 ∨ prioOf m a < prioOf m s then s else a) 0

/-- A claim: the source, and the controller that holds it claimed. -/
def claimIn (ctx : Fin 8) (m : Module) : Nat × Module :=
  let s := claimPick m ctx
  (s, if s = 0 then m else { m with plic := { m.plic with claimed := m.plic.claimed ||| (1#32 <<< s) } })

/-- CLAIM (R61): the answer goes to the core of the context. -/
def plicClaim (ctx : Fin 8) (m : Module) : Module :=
  let (s, m) := claimIn ctx m
  match fin? 4 (ctx.val / 2) with
  | some h => m.send (.core h) (leBytes 4 s)
  | none => m

/-- COMPLETE (R59): it counts in a context in which the source is enabled. -/
def plicComplete (ctx : Fin 8) (src : Fin 32) (m : Module) : Module :=
  if bit (Arr.at' m.plic.enable ctx) src.val then
    { m with plic := { m.plic with claimed := m.plic.claimed &&& ~~~ (1#32 <<< src.val) } }
  else m

/-- The range of the interrupt controller. -/
def plicBase : Nat := 0x0C000000
def plicEnd : Nat := 0x10000000

/-- What an offset of the RISC-V PLIC layout names. -/
inductive PlicReg where
  | prio (src : Fin 32) | pending | enable (ctx : Fin 8) | threshold (ctx : Fin 8) | claim (ctx : Fin 8) | none
  deriving DecidableEq, Repr

def plicReg (o : Nat) : PlicReg :=
  if o < 0x80 then match fin? 32 (o / 4) with
    | some s => .prio s
    | Option.none => .none
  else if o = 0x1000 then .pending
  else if 0x2000 ≤ o ∧ o < 0x2400 ∧ o % 0x80 = 0 then match fin? 8 ((o - 0x2000) / 0x80) with
    | some c => .enable c
    | Option.none => .none
  else if 0x200000 ≤ o ∧ o < 0x208000 then match fin? 8 ((o - 0x200000) / 0x1000) with
    | some c => if o % 0x1000 = 0 then .threshold c else if o % 0x1000 = 4 then .claim c else .none
    | Option.none => .none
  else .none

/-- A core in a mode may use a register of the controller (R51, R61): machine mode all, customer code its own context. -/
def plicOk (h : Fin 4) (mode : Mode) (r : PlicReg) : Bool :=
  match mode, r with
  | .machine, _ => true
  | _, .enable c | _, .threshold c | _, .claim c => h.val != 0 && c.val == 2 * h.val + 1
  | _, .prio _ | _, .pending | _, .none => false

/-- The bits of an enable word that exist: sources 1 to 31. -/
def plicWrite (r : PlicReg) (value : Nat) (m : Module) : Module :=
  match r with
  | .prio s => if s.val = 0 then m else { m with plic := { m.plic with prio := Arr.put m.plic.prio s (BitVec.ofNat 3 value) } }
  | .enable c => { m with plic := { m.plic with enable := Arr.put m.plic.enable c (w32 value &&& 0xFFFFFFFE) } }
  | .threshold c => { m with plic := { m.plic with threshold := Arr.put m.plic.threshold c (BitVec.ofNat 3 value) } }
  | .claim c => match fin? 32 value with
    | some s => plicComplete c s m
    | none => m
  | .pending | .none => m

/-- A load from the controller; one of a claim register claims. -/
def plicRead (r : PlicReg) (m : Module) : Nat × Module :=
  match r with
  | .prio s => (prioOf m s.val, m)
  | .pending => (bitMap 32 (pendingAt m), m)
  | .enable c => ((Arr.at' m.plic.enable c).toNat, m)
  | .threshold c => ((Arr.at' m.plic.threshold c).toNat, m)
  | .claim c => claimIn c m
  | .none => (0, m)

/-! ## Accesses outside the views (R51) -/

/-- A core's store outside the register views. -/
def coreStore (h : Fin 4) (mode : Mode) (b : BusWrite) (s : State) : State :=
  let i := Initiator.core h mode
  if plainOk h mode b.addr b.size then { s with mem := s.mem.wrN b.addr (leBytes b.size b.value) }
  else if clintBase ≤ b.addr ∧ b.addr < clintEnd ∧ mode = .machine then s.onModule (clintWrite (b.addr - clintBase) b.size b.value)
  else if plicBase ≤ b.addr ∧ b.addr < plicEnd ∧ b.size = 4 ∧ b.addr % 4 = 0 then
    let r := plicReg (b.addr - plicBase)
    if plicOk h mode r then s.onModule (plicWrite r b.value) else s.onModule fun m => coreFault m i
  else s.onModule fun m => coreFault m i

/-- A byte of the tile store: the stored tiles lie in their slots; what the directory holds is not laid open (R211; log entry 16). -/
def storeByte (m : Module) (a : Nat) : Nat :=
  let o := a - 0x8C000000
  match m.cover.tiles.find? (·.slot == o / 8192) with
  | some t => t.data / 256 ^ (o % 8192) % 256
  | none => m.freeVal / 256 ^ (o % 8) % 256

/-- A core's load outside the register views: the bytes, or none where it faults. -/
def coreLoad (h : Fin 4) (mode : Mode) (b : BusRead) (s : State) : Option (Nat × Module) :=
  if plainOk h mode b.addr b.size then some (leNat (s.mem.rdN b.addr b.size), s.m)
  else if clintBase ≤ b.addr ∧ b.addr < clintEnd ∧ mode = .machine then some (clintRead (b.addr - clintBase) b.size s.m, s.m)
  else if plicBase ≤ b.addr ∧ b.addr < plicEnd ∧ b.size = 4 ∧ b.addr % 4 = 0 then
    let r := plicReg (b.addr - plicBase)
    if plicOk h mode r then some (plicRead r s.m) else none
  else if 0x8C000000 ≤ b.addr ∧ b.addr + b.size ≤ 0x9C000000 ∧ (mode = .machine ∨ h.val ≠ 0) then
    some (leNat ((List.range b.size).map fun k => BitVec.ofNat 8 (storeByte s.m (b.addr + k))), s.m.freed)
  else if b.addr + b.size ≤ 0x10000 ∧ mode = .machine then some (s.m.freeVal % 256 ^ b.size, s.m.freed)
  else none

/-! ## The accesses as commands -/

/-- The initiator is there: a session that is ACTIVE, a tunnel whose TUN_EN is set. -/
def present (m : Module) : Initiator → Bool
  | .core _ _ | .debug => true
  | .session n => sessActive m n
  | .tunnel c => tunEn m c

/-- REGISTER_WRITE (R8, R51, R53): a store by an initiator. -/
def busWrite (i : Initiator) (b : BusWrite) (s : State) : State :=
  if !present s.m i then s
  else match viewAt b.addr with
    | some (priv, off) => viewWrite i priv off b s
    | none => match i with
      | .core h mode => coreStore h mode b s
      | .session _ | .tunnel _ | .debug => s.onModule fun m => refuseAcc m i b.addr .unmapped

/-- Where the answer to a read goes. -/
def answerTo : Initiator → OutDst
  | .core h _ => .core h
  | .session n => .session n
  | .tunnel c => .can c
  | .debug => .debug

/-- SNAPSHOT_LATCH_READ (R11, R15, R16, R53): a load by an initiator; from the lowest word of a snapshot group it latches the
group. -/
def busRead (i : Initiator) (b : BusRead) (s : State) : State :=
  if !present s.m i then s
  else match viewAt b.addr with
    | some (priv, off) => match viewRefusal s.m i priv off b.size with
      | some r => s.onModule fun m => refuseAcc m i b.addr r
      | none => s.onModule fun m =>
        let (v, m) := regRead (Initiator.idx i) priv off m
        m.send (answerTo i) (leBytes 4 v.toNat)
    | none => match i with
      | .core h mode => match coreLoad h mode b s with
        | some (v, m) => { s with m := m.send (.core h) (leBytes b.size v) }
        | none => s.onModule fun m => coreFault m i
      | .session _ | .tunnel _ | .debug => s.onModule fun m => refuseAcc m i b.addr .unmapped

/-- MTIMECMP_INTERRUPT (R50): at the first tick at which MT has reached the compare. -/
def mtimecmpInterrupt (h : Fin 4) (m : Module) : Module :=
  let m := m.advanceTo (Arr.at' m.core h).mtimecmp.toNat
  { m with core := Arr.upd m.core h fun c => { c with mtip := true } }

/-- MSIP (R61): machine mode writes msip; on any other core access it faults. -/
def msipWrite (i : Initiator) (h : Fin 4) (v : Bool) (m : Module) : Module :=
  match i with
  | .core _ .machine => setMsip m h v
  | .core _ _ => coreFault m i
  | .session _ | .tunnel _ | .debug => m

/-! ## ECALL (R49, R55, R61) -/

/-- STATUS of the monitor's answer, with the codes of R67. -/
def ecallCheck (m : Module) (off : Nat) (priv write : Bool) : Nat :=
  if priv then 1
  else if off % 4 ≠ 0 then 2
  else if viewLen ≤ off then 3
  else if write && restoringAt m off then 4
  else 0

/-- The monitor's answer to the application: a status byte and a word. -/
def ecallReply (m : Module) (h : Fin 4) (status : Nat) (v : Word) : Module :=
  m.send (.core h) (leBytes 1 status ++ leBytes 4 v.toNat)

/-- A refused register request of the application. -/
def ecallRefuse (h : Fin 4) (off : Nat) (priv : Bool) (status : Nat) (m : Module) : Module :=
  let i := Initiator.core h .supervisor
  let m := if status = 1 then (recordErr m i (viewAddr priv off) .view).raise Reg.SYS_INT_STATUS 1
    else if status = 4 then dropWrite m i (viewAddr priv off)
    else m
  ecallReply m h status 0

/-- The sources whose priority resident firmware keeps for itself (R61). -/
def firmwareSource (src : Nat) : Bool := src == 1 || src == 4 || src == 21 || src == 22

/-- ECALL (R49): the monitor on MC1 to MC3 carries out an unprivileged register request, forwards a privileged one to MC0, which
refuses it as it would an unprivileged session's, sets a priority, and signals another core. -/
def ecall (h : Fin 4) (r : EcallReq) (s : State) : State :=
  let who := Initiator.core h .supervisor
  if h.val = 0 then s
  else match r with
    | .read off priv =>
      let st := ecallCheck s.m off priv false
      if st ≠ 0 then s.onModule (ecallRefuse h off priv st)
      else s.onModule fun m =>
        let (v, m) := regRead h.val false off m
        ecallReply m h 0 v
    | .write off value priv =>
      let st := ecallCheck s.m off priv true
      if st ≠ 0 then s.onModule (ecallRefuse h off priv st)
      else (regWrite who false off value s).onModule fun m => ecallReply m h 0 value
    | .modify off mask value priv =>
      let st := ecallCheck s.m off priv true
      if st ≠ 0 then s.onModule (ecallRefuse h off priv st)
      else
        let (old, m) := regRead h.val false off s.m
        (regWrite who false off ((old &&& ~~~ mask) ||| (value &&& mask)) { s with m := m }).onModule fun m => ecallReply m h 0 old
    | .plicPriority src prio =>
      if src.val = 0 || firmwareSource src.val then s.onModule fun m => ecallReply m h 1 0
      else s.onModule fun m =>
        ecallReply { m with plic := { m.plic with prio := Arr.put m.plic.prio src (BitVec.ofNat 3 prio.val) } } h 0 0
    | .signal to_ => s.onModule fun m => ecallReply (setMsip m to_ true) h 0 0

/-- DEBUG_CONNECTION_RESET (R16, R356): the debug access's holding registers and read port return to 0. -/
def debugConnectionReset (m : Module) : Module := clearHolds m 16

end Sys2Proof.Machine
end

