-- ==== Sys2Proof/Machine/Sess.lean ====
section
/-! DEFINITION. Management sessions and their register requests, over UDP, Flue and USB (R62 to R67, R293), and the register tunnel
over CAN (R68, R348). -/

namespace Sys2Proof.Machine

/-! ## Opening and closing (R62 to R64) -/

/-- The number of a transport in the Ash log's session records. -/
def Transport.code : Transport → Nat
  | .udp p => p.val | .flue => 4 | .usb => 5

/-- Sessions are served over a transport: in SCRAPPED, and in recovery, over USB alone (R364, R375). -/
def served (m : Module) (t : Transport) : Bool := t == .usb || (m.sec.lc != .scrapped && !m.sec.recovery)

/-- The lowest session that is IDLE. -/
def idleSession (m : Module) : Option (Fin 8) := (List.finRange 8).find? fun n => (Arr.at' m.sess n).phase == .idle

/-- Answer a host that has no session. -/
def answerHost (m : Module) (t : Transport) (peer : Nat) (bytes : List Byte) : Module :=
  match t with
  | .flue => flueUnicast m ftMgmt peer bytes
  | .udp _ | .usb => m.send .host bytes

/-- SESSION_OPEN_REQUEST (R62, R64): a challenge, or BUSY. -/
def sessionOpen (t : Transport) (peer : Nat) (m : Module) : Module :=
  if !served m t then m
  else match idleSession m with
    | none => answerHost m t peer (leBytes 1 5)
    | some n =>
      let c := leBytes 32 m.freeVal
      let x := { SessSt.closed with phase := .challenged, transport := t, peer := peer, challenge := c, since := m.mt }
      sessSend { m.freed with sess := Arr.put m.sess n x } n (leBytes 1 n.val ++ c)

/-- The grant of a credential slot, if a key that opens sessions is enrolled there: privileged or not (R63, R364, R365). -/
def credential (m : Module) (key : Nat) : Option Bool :=
  match fin? 64 key with
  | none => none
  | some k => match Arr.at' m.sec.keys k with
    | none => none
    | some r =>
      if 0x20 ≤ key then some (r.priv && m.sec.lc != .return_ && m.sec.lc != .scrapped)
      else if 0x08 ≤ key ∧ key ≤ 0x0F ∧ m.sec.lc = .return_ then some true
      else none

/-- The bytes that both session records begin with. -/
def sessRecord (m : Module) (n : Fin 8) (key last : Nat) : List Byte :=
  leBytes 1 n.val ++ leBytes 1 (Transport.code (Arr.at' m.sess n).transport) ++ leBytes 1 key ++ leBytes 1 last

/-- A challenge fails: the host is told DENIED, and the session is IDLE. -/
def sessionDenied (m : Module) (n : Fin 8) (key reason : Nat) : Module :=
  let m := sessSend m n (leBytes 1 n.val ++ leBytes 1 1)
  let m := ashPost (m.raise Reg.SYS_INT_STATUS 1) 0x0021 .security (sessRecord m n key reason)
  endSession m n

/-- CHALLENGE_RESPONSE (R63, R64): the credential fixes the grant. -/
def challengeAnswer (n : Fin 8) (key : Nat) (sigOk : Bool) (m : Module) : Module :=
  match (Arr.at' m.sess n).phase with
  | .idle | .active => m
  | .challenged => match credential m key with
    | none => sessionDenied m n key 1
    | some priv =>
      if !sigOk then sessionDenied m n key 0
      else
        let m := { m with sess := Arr.upd m.sess n fun x => { x with phase := .active, cred := key, priv := priv, idleCycles := 0 } }
        let m := sessSend m n (leBytes 1 n.val ++ leBytes 1 0)
        ashPost (m.raise Reg.SYS_INT_STATUS 0) 0x0020 .security (sessRecord m n key (b2n priv))

/-- CHALLENGE_TIMEOUT (R64): at the first boundary at which 2 s have passed; no key was named, so the record's is free. -/
def challengeTimeout (n : Fin 8) (m : Module) : Module :=
  match (Arr.at' m.sess n).phase with
  | .idle | .active => m
  | .challenged =>
    let m := m.advanceTo (cdiv ((Arr.at' m.sess n).since + 2 * secTicks) cycleTicks * cycleTicks)
    let key := m.freeVal % 256
    sessionDenied m.freed n key 2

/-- SESSION_CLOSE (R64). -/
def sessionClose (n : Fin 8) (m : Module) : Module := if sessActive m n then endSession m n else m

/-- SESSION_INACTIVITY_TIMEOUT (R64): 4,000 Mantel cycles without a request. -/
def sessionInactive (n : Fin 8) (m : Module) : Module :=
  if sessActive m n then
    endSession (m.advanceTo ((m.cycle + (4000 - (Arr.at' m.sess n).idleCycles)) * cycleTicks)) n
  else m

/-! ## Register requests (R65 to R67) -/

/-- STATUS codes (R67). -/
inductive Status where
  | ok | denied | align | range | paused | busy | format | staleSeq
  deriving DecidableEq, Repr

def Status.code : Status → Nat
  | .ok => 0 | .denied => 1 | .align => 2 | .range => 3 | .paused => 4 | .busy => 5 | .format => 6 | .staleSeq => 7

/-- The request has the form of R65. -/
def SessReq.formed (r : SessReq) : Bool :=
  r.flagsRes == 0 && r.res == 0 && decide (r.offset < 2 ^ 25) && (match r.op with
    | 1 => decide (1 ≤ r.count ∧ r.count ≤ 64) && r.data.isEmpty
    | 2 => decide (1 ≤ r.count ∧ r.count ≤ 64) && r.data.length == r.count
    | 3 => r.count == 1 && r.data.length == 2
    | _ => false)

/-- The words lie inside the view and inside one block window. -/
def SessReq.inRange (r : SessReq) : Bool :=
  decide (r.offset + 4 * r.count ≤ viewLen) && r.offset / 0x100000 == (r.offset + 4 * (r.count - 1)) / 0x100000

/-- In SCRAPPED a session reads the Ash log, and no more (R364). -/
def scrappedDenies (m : Module) (r : SessReq) : Bool :=
  m.sec.lc == .scrapped && !(r.offset / 0x100000 == 14 && (r.op == 1 || (r.op == 2 && r.offset == Reg.ASH_RD_SEQ && r.count == 1)))

/-- The STATUS of a request that is not stale; its words are executed when it is OK. -/
def reqStatus (m : Module) (n : Fin 8) (r : SessReq) : Status :=
  if !SessReq.formed r then .format
  else if (r.view && !(Arr.at' m.sess n).priv) || scrappedDenies m r then .denied
  else if r.offset % 4 ≠ 0 then .align
  else if !SessReq.inRange r then .range
  else if r.op ≠ 1 ∧ restoringAt m r.offset then .paused
  else .ok

/-- What a refusal of a session's request leaves in SYS (R55, R58). -/
def reqRefused (m : Module) (n : Fin 8) (r : SessReq) (st : Status) : Module :=
  match st with
  | .denied => (recordErr m (.session n) (viewAddr r.view r.offset) .view).raise Reg.SYS_INT_STATUS 1
  | .paused => dropWrite m (.session n) (viewAddr r.view r.offset)
  | .ok | .align | .range | .busy | .format | .staleSeq => m

/-- The words of a READ in ascending order. -/
def reqRead (who : Nat) (priv : Bool) (off : Nat) : Nat → Module → List Word × Module
  | 0, m => ([], m)
  | k + 1, m =>
    let (v, m) := regRead who priv off m
    let (vs, m) := reqRead who priv (off + 4) k m
    (v :: vs, m)

/-- The words of a WRITE in ascending order. -/
def reqWrite (who : Initiator) (priv : Bool) (off : Nat) : List Word → State → State
  | [], s => s
  | w :: ws, s => reqWrite who priv (off + 4) ws (regWrite who priv off w s)

/-- Execute a request: the words it returns, and the state. -/
def reqExecute (n : Fin 8) (r : SessReq) (s : State) : List Word × State :=
  let who := Initiator.session n
  match r.op, r.data with
  | 1, _ =>
    let (ws, m) := reqRead (Initiator.idx who) r.view r.offset r.count s.m
    (ws, { s with m := m })
  | 2, ws => ([], reqWrite who r.view r.offset ws s)
  | 3, [mask, value] =>
    let (old, m) := regRead (Initiator.idx who) r.view r.offset s.m
    ([old], regWrite who r.view r.offset ((old &&& ~~~ mask) ||| (value &&& mask)) { s with m := m })
  | _, _ => ([], s)

/-- A response: header and data (R65). -/
def respBytes (r : SessReq) (st : Status) (mt : Nat) (ws : List Word) : List Byte :=
  leBytes 1 (r.op ||| 0x80) ++ leBytes 1 st.code ++ leBytes 2 r.count ++ leBytes 4 r.seq ++ leBytes 8 mt
    ++ ws.flatMap fun w => leBytes 4 w.toNat

/-- Keep a response among the last 16, and send it, in a session that is still ACTIVE. -/
def reqAnswer (n : Fin 8) (r : SessReq) (bytes : List Byte) (m : Module) : Module :=
  if !sessActive m n then m
  else
    let m := { m with sess := Arr.upd m.sess n fun x => { x with replies := ((r.seq, bytes) :: x.replies).take 16 } }
    sessSend m n bytes

/-- The highest SEQ executed. -/
def reqExecuted (n : Fin 8) (r : SessReq) (m : Module) : Module :=
  if sessActive m n then { m with sess := Arr.upd m.sess n fun x => { x with maxSeq := some r.seq } } else m

/-- A register request of session `n` (R65, R66): repeated, stale, refused, or executed at most once. -/
def sessRequest (n : Fin 8) (r : SessReq) (s : State) : State :=
  if !sessActive s.m n then s
  else
    let s := s.onModule (heard · n)
    let x := Arr.at' s.m.sess n
    match x.replies.find? (·.1 == r.seq) with
    | some old => s.onModule fun m => sessSend m n old.2
    | none =>
      let stale : Bool := match x.maxSeq with
        | some k => decide (r.seq ≤ k)
        | none => false
      let free := s.m.freeVal
      if stale then s.onModule fun m => sessSend m.freed n (respBytes r .staleSeq free [])
      else match reqStatus s.m n r with
        | .ok =>
          let mt := s.m.mt
          let (ws, s) := reqExecute n r s
          s.onModule fun m => reqAnswer n r (respBytes r .ok mt ws) (reqExecuted n r m)
        | st => s.onModule fun m => reqAnswer n r (respBytes r st free []) (reqRefused m.freed n r st)

/-! ## Sessions over Flue, and the relay (R293) -/

/-- The session runs over this transport to this peer. -/
def comesBy (m : Module) (t : Transport) (peer : Nat) (n : Fin 8) : Bool :=
  let x := Arr.at' m.sess n
  x.transport == t && (t != .flue || x.peer == peer)

/-- A management message that has arrived. -/
def sessMessage (t : Transport) (peer : Nat) (msg : SessMsg) (s : State) : State :=
  match msg with
  | .open_ => s.onModule (sessionOpen t peer)
  | .answer n key sigOk => if comesBy s.m t peer n then s.onModule (challengeAnswer n key sigOk) else s
  | .request n r => if comesBy s.m t peer n then sessRequest n r s else s
  | .close n => if comesBy s.m t peer n then s.onModule (sessionClose n) else s

/-- A reply to a relayed message goes back to the host that sent it. -/
def relayReply (f : FlueFrameIn) (m : Module) : Module :=
  match m.flue.mgmt.find? (·.dest == f.src) with
  | some e => sendTo m e.addr f.payload
  | none => m.addSat Reg.FLUE_RET_DROP 31 0 1

/-- A unicast frame ends at this module. -/
def endsHere (m : Module) (q : Fin 2) (f : FlueFrameIn) : Bool := carries m q && f.dest == nodeId m && !yieldsId m

/-- MGMT_FRAME: a session message for this module, or a reply for a host behind it; others go on their way (R276). -/
def mgmtFrame (q : Fin 2) (f : FlueFrameIn) (msg : Option SessMsg) (s : State) : State :=
  let here := endsHere s.m q f
  let s := s.onModule fun m => unicastIn m q ftMgmt f id
  if !here then s
  else match msg with
    | some x => sessMessage .flue f.src x s
    | none => s.onModule (relayReply f)

/-- Remember where replies of a node go; the table holds 1,024 nodes and drops the least recently used. -/
def noteRelay (m : Module) (dest : Nat) (a : NoteAddr) : Module :=
  m.updFlue fun x => { x with mgmt := (⟨dest, 0, a⟩ :: x.mgmt.filter (·.dest != dest)).take 1024 }

/-- A datagram for the relay port in order: EN, PORT, no extension header, a good checksum, the two zero bytes. -/
def relayTakes (m : Module) (ip : IpInfo) (payload : List Byte) : Bool :=
  m.cb Reg.FLUE_MGMT_RELAY 31 && ip.dstPort == m.cf Reg.FLUE_MGMT_RELAY 15 0 && !ip.extHeader && ip.cksumOk
    && decide (4 ≤ payload.length) && leAt payload 2 2 == 0

/-- MGMT_RELAY_DATAGRAM: on to DEST_NODE as MGMT, or handled here when it names this module; `msg` is the session message it
carries. -/
def mgmtRelayDatagram (p : Fin 4) (mac : Nat) (ip : IpInfo) (payload : List Byte) (msg : Option SessMsg) (s : State) : State :=
  if !relayTakes s.m ip payload then s
  else
    let dest := leAt payload 0 2
    if dest = nodeId s.m then
      match msg with
      | some x => sessMessage (.udp p) 0 x s
      | none => s
    else
      let a : NoteAddr := { port := p.val, encap := .udp, mac := mac, ip := ip.src, udpPort := ip.srcPort, vlan := none, node := dest }
      s.onModule fun m => flueUnicast (noteRelay m dest a) ftMgmt dest (payload.drop 4)

/-! ## The register tunnel (R20, R68, R348) -/

/-- A tunnel request's words. -/
def tunWord (f : CanFrame) (i : Nat) : Nat := leAt f.data (4 * i) 4

/-- The OP of a tunnel request: 1 READ, 2 WRITE. -/
def tunOp (f : CanFrame) : Nat := bits (tunWord f 0) 31 30

/-- The STATUS of a tunnel request. While RESTORING is 1 every write is PAUSED (log entry 17). -/
def tunStatus (m : Module) (f : CanFrame) : Status :=
  let off := bits (tunWord f 0) 24 0
  if f.dlc ≠ 8 ∨ f.fdf ∨ (tunOp f ≠ 1 ∧ tunOp f ≠ 2) ∨ bits (tunWord f 0) 29 25 ≠ 0 then .format
  else if off % 4 ≠ 0 then .align
  else if viewLen ≤ off then .range
  else if tunOp f = 2 ∧ m.grate.restoring then .paused
  else .ok

/-- The response is made PENDING on MO127, in place of one that still waits. -/
def tunRespond (c : Fin 4) (f : CanFrame) (st : Status) (w : Nat) (m : Module) : Module :=
  let head := tunOp f * 2 ^ 30 + st.code * 2 ^ 25 + bits (tunWord f 0) 24 0
  let m := if (obj m c 127).tx = txPending then cnInt m c 8 else m
  makePending (m.updCn c fun x => { x with tunRsp := leBytes 4 head ++ leBytes 4 w }) c 127

/-- Execute one request of a tunnel in the unprivileged view. -/
def tunExecute (c : Fin 4) (f : CanFrame) (s : State) : State :=
  let off := bits (tunWord f 0) 24 0
  let st := tunStatus s.m f
  match st with
  | .ok =>
    if tunOp f = 1 then
      s.onModule fun m =>
        let (v, m) := regRead (Initiator.idx (.tunnel c)) false off m
        tunRespond c f .ok v.toNat m
    else (regWrite (.tunnel c) false off (w32 (tunWord f 1)) s).onModule (tunRespond c f .ok (tunWord f 1))
  | .paused => s.onModule fun m => tunRespond c f .paused (tunWord f 1) (dropWrite m (.tunnel c) (viewAddr false off))
  | st => s.onModule (tunRespond c f st (tunWord f 1))

/-- Take the oldest request of a tunnel, when it is of the kind asked for. -/
def tunnelStep (c : Fin 4) (write : Bool) (s : State) : State :=
  match (cn s.m c).tunReq with
  | [] => s
  | f :: rest =>
    if !tunEn s.m c || (tunOp f == 2) != write then s
    else tunExecute c f (s.onModule fun m => m.updCn c fun x => { x with tunReq := rest })

/-- TUNNEL_READ: every request but a WRITE. TUNNEL_WRITE: a WRITE. -/
def tunnelRead (c : Fin 4) (s : State) : State := tunnelStep c false s
def tunnelWrite (c : Fin 4) (s : State) : State := tunnelStep c true s

/-- TUNNEL_SEQUENCE_READ (R20): the whole published set is copied into the tunnel's holding registers. -/
def tunnelSequence (c : Fin 4) (off : Nat) (m : Module) : Module :=
  if tunEn m c && (setOfSeq off).isSome then (regRead (Initiator.idx (.tunnel c)) false off m).2 else m

end Sys2Proof.Machine
end

