-- ==== Sys2Proof/Machine/Boundary.lean ====
section
/-! DEFINITION. The boundary of a Mantel cycle: pending stages, publication pairs, counts and what MC0 does once a cycle (R13, R17,
R19, R47, R64, R127, R202, R214, R353). -/

namespace Sys2Proof.Machine

/-- The offsets of every word that a publication pair holds. -/
def pairWords : List Nat := (pubSets.filter (·.pair)).flatMap fun p => p.seq :: p.words

/-- The words of the pairs that are kept elsewhere until the boundary, brought into the store. -/
def gatherPub (m : Module) : Module :=
  let lag := satU 32 (m.hob.lagMax / usTicks)
  let fill := ((List.range 64).map fun n => (m.ringAt n).notes.length).sum
  ((((((m.wr Reg.HOB_PUB_FILL_MAX (w32 m.hob.fillMax)).wr Reg.HOB_PUB_NEAR_MAX (w32 m.hob.nearMax)).wr Reg.HOB_PUB_LAG_MAX (w32 lag)).wr
    Reg.INGEST_PUB_PEAK (w32 m.ingest.peak)).wr Reg.INGEST_PUB_NOTE_FILL (w32 fill)).wr
    Reg.LEARN_PUB_COLD (w32 (learnCount m [.cold, .pending])))

/-- The inactive half takes the current values, each sequence number one above the published one, and the halves swap (R19). -/
def publish (m : Module) : Module :=
  let m := gatherPub m
  let value (o : Nat) : Word :=
    if pubSets.any fun p => p.pair && p.seq == o then Sparse.get resetOf m.regs.pub o + 1 else m.rd o
  let new := pairWords.foldl (fun (h : Sparse Word) o => Sparse.set resetOf h o (value o)) []
  { m with regs := { m.regs with pub := new, pubBack := m.regs.pub } }

/-- The maxima of the cycle start again. -/
def restartMaxima (m : Module) : Module :=
  let m := { m with hob := { m.hob with fillMax := storeFill m, nearMax := nearFill m, lagMax := 0 },
                    ingest := { m.ingest with peak := 0 } }
  m.wr Reg.VDRV_PUB_WAIT_MAX 0

/-- The scrub of the configuration memory (R47): corrected errors are counted and flagged. -/
def scrubGrate (corrected : Nat) (m : Module) : Module :=
  if corrected = 0 then m
  else (m.updGrate fun g => { g with corrCount := satU 16 (g.corrCount + corrected) }).raise Reg.GRATE_INT_STATUS 3

/-- One more cycle without a request in every session that is ACTIVE (R64). -/
def countIdle (m : Module) : Module :=
  let one := fun (_ : Fin 8) (x : SessSt) => if x.phase = .active then { x with idleCycles := x.idleCycles + 1 } else x
  { m with sess := Arr.mapIdx one m.sess }

/-- The number of the boundary that comes next: the one of this tick when it has not been passed yet. -/
def comingBoundary (m : Module) : Nat := max (cdiv m.mt cycleTicks) (m.time.boundary + 1)

/-- MANTEL_CYCLE_BOUNDARY (R13): the next boundary comes, at which `corrected` errors have been corrected since the last. -/
def mantelBoundary (corrected : Nat) (m : Module) : Module :=
  let k := comingBoundary m
  let m := m.advanceTo (k * cycleTicks)
  let m := { m with time := { m.time with boundary := k } }
  let m := countIdle (scrubGrate corrected (m.raise Reg.SYS_INT_STATUS 4))
  let m := takePolicies (mantelUnits.foldl (fun m u => takeStage u m) m)
  let m := { m with hob := { m.hob with leadMax := leadNow m } }
  coverAfter (restartMaxima (publish (writeBackDue (ashBoundary m))))

/-- APPLY (R17). -/
def applyCmd (u : ApplyUnit) (m : Module) : Module := applyUnit m u

/-- OPENING_MEASUREMENT (R164), with what the coverage engine marks by the measured opening (R223). -/
def openingMeasured (k : Fin 128) (o : OpenSamples) (m : Module) : Module :=
  match fin? 128 (homeVc m k), (learnCh m (homeVc m k)).openMeas with
  | some k, some _ => sprayOpened k (openingMeasurement k o m)
  | _, _ => m

/-- CLOSING_MEASUREMENT (R165), with what the coverage engine marks by the measured closing (R223). -/
def closingMeasured (k : Fin 128) (o : CloseSamples) (m : Module) : Module :=
  match fin? 128 (homeVc m k), (learnCh m (homeVc m k)).closeMeas with
  | some k, some t => sprayClosed k (some t) (closingMeasurement k o m)
  | _, _ => m

end Sys2Proof.Machine
end

