-- ==== Sys2Proof/Machine/CmdAsh.lean ====
section
/-! DEFINITION. The meanings of the commands of the Ash log (17), one to a command. -/

namespace Sys2Proof.Machine

/-- ASH_READ (R356). A write of ASH_RD_SEQ copies a log slot into the initiator's read port. -/
def execAshRead (i : Initiator) (seq : Word) (s : State) : Host.Outcome State Fault Refusal := .next (s.onModule (ashRead i seq))

/-- APPLICATION_POST (R357). A write of ASH_POST_CODE stages an application record or refuses it. -/
def execApplicationPost (i : Initiator) (code : Nat) (s : State) : Host.Outcome State Fault Refusal :=
  .next (s.onModule (applicationPost i code))

/-- ASH_CLEAR (R358). A privileged ASH_CLEAR with the right KEY requests a clear. -/
def execAshClear (i : Initiator) (key : Nat) (s : State) : Host.Outcome State Fault Refusal := .next (s.onModule (ashClear i key))

/-- CLEARING (R360). At the boundary every slot is invalidated and a CLEARED record written. -/
def execClearing (s : State) : Host.Outcome State Fault Refusal := .next (s.onModule clearing)

end Sys2Proof.Machine
end

