-- ==== Sys2Proof/Machine/CmdAxis.lean ====
section
/-! DEFINITION. The meanings of the commands of the axes (04), one to a command. -/

namespace Sys2Proof.Machine

/-- SOURCE_UPDATE (R78). An axis accepts a time-stamped measurement and updates its tracker state. -/
def execSourceUpdate (n : Fin 15) (t : Nat) (meas : Measurement) (s : State) : Host.Outcome State Fault Refusal :=
  .next (s.onModule (sourceUpdate n t meas))

/-- SRC_FAULT (R84). A source fault begins, sets SRC_FAULT and moves the axis to COAST or DOWN. -/
def execSrcFault (n : Fin 15) (c : FaultCause) (s : State) : Host.Outcome State Fault Refusal :=
  .next (s.onModule fun m => coverAfter (srcFault n c m))

/-- SOURCE_FAULT_CLEARED (R84). The fault condition of a source ends. -/
def execSourceFaultCleared (n : Fin 15) (s : State) : Host.Outcome State Fault Refusal := .next (s.onModule (sourceFaultCleared n))

/-- GNSS_GAP (R87). GAP missing epochs on a blended axis set GNSS_GAP and pause scale learning. -/
def execGnssGap (n : Fin 15) (s : State) : Host.Outcome State Fault Refusal := .next (s.onModule (gnssGapBegins n))

/-- COAST_TIME_EXPIRY (R83). COAST_TIME elapses in COAST and the axis goes DOWN. -/
def execCoastTimeExpiry (n : Fin 15) (s : State) : Host.Outcome State Fault Refusal :=
  .next (s.onModule fun m => coverAfter (coastTimeExpiry n m))

/-- COAST_DIST_REACHED (R83). Predicted travel in COAST reaches COAST_DIST and the axis goes DOWN. -/
def execCoastDistReached (n : Fin 15) (s : State) : Host.Outcome State Fault Refusal :=
  .next (s.onModule fun m => coverAfter (coastDistReached n m))

/-- RANGE_EXCEEDED (R71). A linear axis coordinate leaves its span and the axis goes DOWN with reason RANGE. -/
def execRangeExceeded (n : Fin 15) (s : State) : Host.Outcome State Fault Refusal :=
  .next (s.onModule fun m => coverAfter (rangeExceeded n m))

/-- STILL (R80). No update for STILL_MS sets velocity and acceleration to 0. -/
def execStill (n : Fin 15) (s : State) : Host.Outcome State Fault Refusal := .next (s.onModule (stillEntered n))

/-- INDEX (R89). A Z rising edge captures coordinate and MT and checks or corrects per INDEX_MODE. -/
def execIndex (n : Fin 15) (s : State) : Host.Outcome State Fault Refusal := .next (s.onModule (indexEdge n))

/-- RESTART (R83). CMD.RESTART clears the estimator and history and enters ACQUIRE. -/
def execRestart (n : Fin 15) (s : State) : Host.Outcome State Fault Refusal :=
  .next (s.onModule fun m => coverAfter (axisRestart n m))

/-- SAVE_OFFSET (R92). CMD.SAVE_OFFSET makes MC0 store the active OFFSET in MRAM. -/
def execSaveOffset (n : Fin 15) (s : State) : Host.Outcome State Fault Refusal := .next (s.onModule (saveOffset n))

/-- CLEAR_COUNTS (R84). CMD.CLEAR_COUNTS clears the axis error counters. -/
def execClearCounts (n : Fin 15) (s : State) : Host.Outcome State Fault Refusal := .next (s.onModule (clearCounts n))

/-- AXIS_FRAME_SEND (R88). A published axis sends its latest state on the Flue chain every PUB_PERIOD. -/
def execAxisFrameSend (n : Fin 15) (s : State) : Host.Outcome State Fault Refusal := .next (s.onModule (axisFrameSend n))

end Sys2Proof.Machine
end

