-- ==== Sys2Proof/Machine/CmdCan.lean ====
section
/-! DEFINITION. The meanings of the commands of the CAN controllers (16), one to a command. -/

namespace Sys2Proof.Machine

/-- CONTROLLER_ENABLE (R332). EN written 1 validates timing and starts bus integration. -/
def execControllerEnable (c : Fin 4) (w : Word) (s : State) : Host.Outcome State Fault Refusal :=
  .next (s.onModule (controllerEnable c w))

/-- CONTROLLER_DISABLE (R332). EN written 0 completes the frame, leaves the bus and aborts pending objects. -/
def execControllerDisable (c : Fin 4) (w : Word) (s : State) : Host.Outcome State Fault Refusal :=
  .next (s.onModule (controllerDisable c w))

/-- BUS_INTEGRATION (R332). 11 recessive bits enter ERROR_ACTIVE. -/
def execBusIntegration (c : Fin 4) (s : State) : Host.Outcome State Fault Refusal := .next (s.onModule (busIntegration c))

/-- FRAME_RECEIVED (R337). A valid CAN frame is stored in the first matching object. -/
def execFrameReceived (c : Fin 4) (f : CanFrame) (s : State) : Host.Outcome State Fault Refusal :=
  .next (s.onModule (frameReceived c f))

/-- TX_REQ (R340). TX_REQ makes a transmit object PENDING. -/
def execTxReq (c : Fin 4) (i : Fin 128) (s : State) : Host.Outcome State Fault Refusal := .next (s.onModule (txReq c i))

/-- TX_ABORT (R341). ABORT ends a pending object ABORTED. -/
def execTxAbort (c : Fin 4) (i : Fin 128) (own : Bool) (s : State) : Host.Outcome State Fault Refusal :=
  .next (s.onModule (txAbort c i own))

/-- TRANSMISSION_DONE (R341). A frame is sent and acknowledged and its object becomes DONE. -/
def execTransmissionDone (c : Fin 4) (s : State) : Host.Outcome State Fault Refusal := .next (s.onModule (transmissionDone c))

/-- FAILED_ATTEMPT (R341). A transmission ends in an error frame and counts against RETRY_LIM. -/
def execFailedAttempt (c : Fin 4) (k : CanFail) (s : State) : Host.Outcome State Fault Refusal :=
  .next (s.onModule (failedAttempt c k))

/-- RECOVER (R344). CMD.RECOVER in BUS_OFF starts the recovery sequence. -/
def execRecover (c : Fin 4) (s : State) : Host.Outcome State Fault Refusal := .next (s.onModule (canRecover c))

/-- RECOVERY_DONE (R344). Recovery ends and the controller returns to ERROR_ACTIVE. -/
def execRecoveryDone (c : Fin 4) (s : State) : Host.Outcome State Fault Refusal := .next (s.onModule (recoveryDone c))

/-- TUNNEL_READ (R348). A tunnel READ request is executed and answered on MO127. -/
def execTunnelRead (c : Fin 4) (s : State) : Host.Outcome State Fault Refusal := .next (tunnelRead c s)

/-- TUNNEL_WRITE (R348). A tunnel WRITE request is executed and answered on MO127. -/
def execTunnelWrite (c : Fin 4) (s : State) : Host.Outcome State Fault Refusal := .next (tunnelWrite c s)

/-- TUNNEL_ENABLE (R349). Writing TUN_EN makes MO126 and MO127 the tunnel objects unless loop-owned. -/
def execTunnelEnable (c : Fin 4) (w : Word) (s : State) : Host.Outcome State Fault Refusal := .next (s.onModule (tunnelEnable c w))

/-- ERROR_FRAME (R343). A CAN bus error seen while receiving raises REC, counts ERR_FRAMES and can move the controller to
ERROR_WARNING or ERROR_PASSIVE. -/
def execErrorFrame (c : Fin 4) (primary : Bool) (s : State) : Host.Outcome State Fault Refusal :=
  .next (s.onModule (errorFrame c primary))

end Sys2Proof.Machine
end

