-- ==== Sys2Proof/Machine/CmdCover.lean ====
section
/-! DEFINITION. The meanings of the commands of coverage (10), one to a command. -/

namespace Sys2Proof.Machine

/-- COVERAGE_EVALUATION (R216). Every 1 ms the coverage engine evaluates sections against the maps. -/
def execCoverageEvaluation (s : State) : Host.Outcome State Fault Refusal := .next (s.onModule coverageEvaluation)

/-- TILE_FETCH (R214). A requested tile is fetched into the tile cache. -/
def execTileFetch (s : State) : Host.Outcome State Fault Refusal := .next (s.onModule tileFetch)

/-- TILE_WRITE_BACK (R214). A dirty applied tile is written back to the store. -/
def execTileWriteBack (s : State) : Host.Outcome State Fault Refusal := .next (s.onModule tileWriteBack)

/-- TILE_LOAD (R212). Tile LOAD replaces or ORs a tile into the store. -/
def execTileLoad (layer : Fin 4) (s : State) : Host.Outcome State Fault Refusal := .next (loadTile layer.val s)

/-- TILE_EXPORT (R212). Tile EXPORT copies a tile to the buffer. -/
def execTileExport (layer : Fin 4) (s : State) : Host.Outcome State Fault Refusal := .next (exportTile layer.val s)

/-- TILE_DELETE (R212). Tile DELETE removes a tile from the store. -/
def execTileDelete (layer : Fin 4) (s : State) : Host.Outcome State Fault Refusal := .next (s.onModule (tileDelete layer.val))

/-- NEW_JOB (R225). NEW_JOB empties the store and starts an ACTIVE job. -/
def execNewJob (s : State) : Host.Outcome State Fault Refusal := .next (s.onModule (jobAt 1))

/-- JOB_CONFIRM (R225). CONFIRM of a PENDING job activates it or reports a mismatch, expiry or no time. -/
def execJobConfirm (s : State) : Host.Outcome State Fault Refusal := .next (s.onModule (jobAt 2))

/-- CLOSE_JOB (R225). CLOSE_JOB stops the sections and empties the store. -/
def execCloseJob (s : State) : Host.Outcome State Fault Refusal := .next (s.onModule (jobAt 3))

/-- ARCHIVE (R226). ARCHIVE makes MC0 write the job into the NAND archive half. -/
def execArchive (s : State) : Host.Outcome State Fault Refusal := .next (s.onModule (jobAt 4))

/-- PERIODIC_ARCHIVE (R226). Every ARCH_MIN minutes with changes the job is archived. -/
def execPeriodicArchive (s : State) : Host.Outcome State Fault Refusal := .next (s.onModule periodicArchive)

/-- RESTORE (R225). RESTORE copies a good archive into the store as PENDING or marks it STALE. -/
def execRestore (s : State) : Host.Outcome State Fault Refusal := .next (s.onModule (jobAt 5))

/-- ARCH_DONE (R226). An archive or restore finishes with its result. -/
def execArchDone (s : State) : Host.Outcome State Fault Refusal := .next (s.onModule archDone)

end Sys2Proof.Machine
end

