-- ==== Sys2Proof/Machine/CmdEvent.lean ====
section
/-! DEFINITION. The meanings of the commands of events, Hob and ingest (05 to 07), one to a command. -/

namespace Sys2Proof.Machine

/-- UNCORRECTABLE_ERROR (R123). An uncorrectable error in the Grate, Woodpile, Hob or pager tables starts a PD2 reset. -/
def execUncorrectableError (site : EccSite) (s : State) : Host.Outcome State Fault Refusal :=
  .next (s.onModule (uncorrectableError site))

/-- BATCH (R145). A received batch is checked, claimed and acknowledged, or refused. -/
def execBatch (p : Fin 4) (f : EthFrame) (s : State) : Host.Outcome State Fault Refusal := .next (s.onModule (batchFrame p f))

/-- FIRE (R98). A FIRE event is checked and accepted to switch on at TARGET and off after its duration. -/
def execFire (s : State) : Host.Outcome State Fault Refusal := .next (s.onModule (checkFor 0x10))

/-- OPEN (R98). An OPEN event is checked and accepted to switch an output on at TARGET. -/
def execOpenEv (s : State) : Host.Outcome State Fault Refusal := .next (s.onModule (checkFor 0x11))

/-- CLOSE (R98). A CLOSE event is checked and accepted to switch an output off at TARGET. -/
def execCloseEv (s : State) : Host.Outcome State Fault Refusal := .next (s.onModule (checkFor 0x12))

/-- LEVEL (R98). A LEVEL event is checked and accepted to set a PWM duty at TARGET. -/
def execLevel (s : State) : Host.Outcome State Fault Refusal := .next (s.onModule (checkFor 0x20))

/-- SETPT (R100). A SETPT event is checked and accepted to load a loop set-point at TARGET. -/
def execSetpt (s : State) : Host.Outcome State Fault Refusal := .next (s.onModule (checkFor 0x21))

/-- MARK (R101). A MARK event is checked and accepted to report when TARGET is reached. -/
def execMark (s : State) : Host.Outcome State Fault Refusal := .next (s.onModule (checkFor 0x30))

/-- CANCEL (R106). A CANCEL withdraws matching pending events of its ring by SCOPE. -/
def execCancel (s : State) : Host.Outcome State Fault Refusal := .next (s.onModule (checkFor 0x40))

/-- REPLACE (R107). A REPLACE gives its earliest matching pending event a new axis, profile, target and ARG. -/
def execReplace (s : State) : Host.Outcome State Fault Refusal := .next (s.onModule (checkFor 0x41))

/-- FENCE (R113). A FENCE is registered to report when earlier events of the ring are final. -/
def execFence (s : State) : Host.Outcome State Fault Refusal := .next (s.onModule (checkFor 0x50))

/-- EVENT_FILING (R160). An accepted timed event leaves the filing FIFO into the Woodpile or Hob. -/
def execEventFiling (s : State) : Host.Outcome State Fault Refusal := .next (s.onModule fun m => coverAfter (eventFiling m))

/-- NOTIFICATION_FRAME (R155). A notification frame leaves when full or NOTE_COALESCE after its first notification. -/
def execNotificationFrame (ring : Fin 64) (s : State) : Host.Outcome State Fault Refusal :=
  .next (s.onModule (notificationFrame ring))

/-- NOTE_RETX (R156). NOTE_RETX passes with a notification unreleased and all unreleased notifications are sent again. -/
def execNoteRetx (ring : Fin 64) (s : State) : Host.Outcome State Fault Refusal := .next (s.onModule (noteRetx ring))

/-- UPDATE (R147). Every ACK_PERIOD an UPDATE is sent to each open ring whose credit limit changed. -/
def execUpdate (s : State) : Host.Outcome State Fault Refusal := .next (s.onModule updateRound)

/-- RING_CLOSE (R144). RING_CMD.CLOSE returns an OPEN ring to IDLE. -/
def execRingClose (ring : Fin 64) (s : State) : Host.Outcome State Fault Refusal := .next (s.onModule (ringClose ring))

/-- DISCARD_NOTES (R158). RING_CMD.DISCARD_NOTES discards a ring's unreleased notifications. -/
def execDiscardNotes (ring : Fin 64) (s : State) : Host.Outcome State Fault Refusal := .next (s.onModule (discardNotes ring))

/-- NEIGHBOUR_SOLICITATION (R141). A neighbour solicitation for a port address is answered. -/
def execNeighbourSolicitation (p : Fin 4) (mac : Nat) (ip : Nat) (target : Nat) (s : State) : Host.Outcome State Fault Refusal :=
  .next (s.onModule (neighbourSolicitation p mac ip target))

/-- ECHO_REQUEST (R141). An ICMPv6 echo request is answered. -/
def execEchoRequest (p : Fin 4) (mac : Nat) (ip : Nat) (dst : Nat) (body : List Byte) (s : State) : Host.Outcome State Fault Refusal :=
  .next (s.onModule (echoRequest p mac ip dst body))

/-- FRAME_DROP (R141). A received frame that is not a batch is dropped silently and counted in RX_DROP. -/
def execFrameDrop (p : Fin 4) (f : EthFrame) (s : State) : Host.Outcome State Fault Refusal := .next (s.onModule (frameDrop p f))

/-- PORT_LINK_UP (R140). A network port's link comes up. -/
def execPortLinkUp (p : Fin 4) (s : State) : Host.Outcome State Fault Refusal := .next (s.onModule (portLinkUp p))

/-- PORT_LINK_DOWN (R154). A network port's link goes down and a partly received frame is discarded. -/
def execPortLinkDown (p : Fin 4) (present : Bool) (los : Bool) (txFault : Bool) (s : State) : Host.Outcome State Fault Refusal :=
  .next (s.onModule (portLinkDown p present los txFault))

/-- PAGER_VISIT (R127). At least every 20 µs the pager reads the pages now within reach of each ready axis. -/
def execPagerVisit (axis : Fin 16) (s : State) : Host.Outcome State Fault Refusal :=
  .next (s.onModule fun m => coverAfter (pagerVisit axis m))

/-- FAR_CHAIN_SWEEP (R125). When b_now has moved 128 buckets the pager moves far-chain records into the wheel. -/
def execFarChainSweep (axis : Fin 16) (s : State) : Host.Outcome State Fault Refusal := .next (s.onModule (farChainSweep axis))

/-- COMMIT (R132). At E - C an event's edges are recomputed, checked and fixed in its commit queue. -/
def execCommit (s : State) : Host.Outcome State Fault Refusal := .next (s.onModule fun m => coverAfter (commitNext m))

/-- EDGE_EXECUTION (R112). A committed edge executes at its MT on its channel's claim set and duty. -/
def execEdgeExecution (s : State) : Host.Outcome State Fault Refusal := .next (s.onModule fun m => coverAfter (edgeExecution m))

/-- MARK_INSTANT (R101). At T(TARGET) a MARK produces its FIRED notification. -/
def execMarkInstant (s : State) : Host.Outcome State Fault Refusal := .next (s.onModule fun m => coverAfter (markInstant m))

end Sys2Proof.Machine
end

