-- ==== Sys2Proof/Machine/CmdField.lean ====
section
/-! DEFINITION. The meanings of the commands of field I/O and analog inputs (14), one to a command. -/

namespace Sys2Proof.Machine

/-- UPSTREAM_FRAME (R298). A barrier frame from the field side delivers levels, edges, VFIELD and output status. -/
def execUpstreamFrame (frame : Option (List Byte)) (s : State) : Host.Outcome State Fault Refusal :=
  .next (s.onModule fun m => coverAfter (upstreamFrame frame m))

/-- DOWNSTREAM_FRAME (R297). A barrier frame from the logic side drives field outputs. -/
def execDownstreamFrame (arrives : Bool) (s : State) : Host.Outcome State Fault Refusal :=
  .next (s.onModule fun m =>
    let m' := downstreamFrame arrives m
    if m'.fio.fieldLatch && !m.fio.fieldLatch then coverAfter m' else m')

/-- FIELD_BARRIER_FAULT (R299). 3 bad downstream frames switch off and latch every FO on the field side. -/
def execFieldBarrierFault (s : State) : Host.Outcome State Fault Refusal :=
  .next (s.onModule fun m => coverAfter (fieldBarrierFault m))

/-- LOGIC_BARRIER_FAULT (R299). 3 bad upstream frames hold FI levels, latch FOs and raise BARRIER. -/
def execLogicBarrierFault (s : State) : Host.Outcome State Fault Refusal :=
  .next (s.onModule fun m => coverAfter (logicBarrierFault m))

/-- BARRIER_RELEASE (R299). 16 good frames and REL release the barrier latch. -/
def execBarrierRelease (side : BarrierSide) (s : State) : Host.Outcome State Fault Refusal :=
  .next (s.onModule (barrierRelease side))

/-- FI_EDGE (R301). A field input level change is recognised after FILTER, stamped and counted. -/
def execFiEdge (n : Fin 32) (level : Bool) (slot : Fin 80) (s : State) : Host.Outcome State Fault Refusal :=
  .next (s.onModule (fiEdge n level slot))

/-- FO_OVERCURRENT (R305). A field output above 0.65 A for 5 ms latches off. -/
def execFoOvercurrent (n : Fin 16) (s : State) : Host.Outcome State Fault Refusal :=
  .next (s.onModule fun m => coverAfter (foOvercurrent n m))

/-- FO_SHORT (R305). A field output at its 1.5 A limit for 100 µs latches off. -/
def execFoShort (n : Fin 16) (s : State) : Host.Outcome State Fault Refusal := .next (s.onModule fun m => coverAfter (foShort n m))

/-- FO_OPEN (R305). An on output below 4 mA for 10 ms raises OPEN. -/
def execFoOpen (n : Fin 16) (present : Bool) (s : State) : Host.Outcome State Fault Refusal := .next (s.onModule (foOpen n present))

/-- FO_OVERTEMP (R305). A field output at 170 °C latches off. -/
def execFoOvertemp (n : Fin 16) (s : State) : Host.Outcome State Fault Refusal :=
  .next (s.onModule fun m => coverAfter (foOvertemp n m))

/-- FO_FAULT_CLEAR (R305). W1C of a field-output fault clears it if the condition is gone. -/
def execFoFaultClear (n : Fin 16) (mask : Word) (s : State) : Host.Outcome State Fault Refusal :=
  .next (s.onModule fun m => coverAfter (foFaultClear n mask m))

/-- VF_WARN (R308). VFIELD below 18.0 V enters WARN and SUPPLY_LOW. -/
def execVfWarn (mv : Nat) (s : State) : Host.Outcome State Fault Refusal := .next (s.onModule (vfWarn mv))

/-- VFIELD_NORMAL (R308). VFIELD at 18.5 V returns WARN to NORMAL. -/
def execVfieldNormal (mv : Nat) (s : State) : Host.Outcome State Fault Refusal := .next (s.onModule (vfieldNormal mv))

/-- VF_CUT (R308). VFIELD below 15.0 V latches every FO off. -/
def execVfCut (mv : Nat) (s : State) : Host.Outcome State Fault Refusal := .next (s.onModule fun m => coverAfter (vfCut mv m))

/-- VFIELD_RESTORE (R308). VFIELD at 19.0 V in CUT starts the 10 ms restore timer. -/
def execVfieldRestore (mv : Nat) (s : State) : Host.Outcome State Fault Refusal := .next (s.onModule (vfieldRestore mv))

/-- FO_RELEASED (R308). The restore timer elapses and the latch is released or READY set. -/
def execFoReleased (s : State) : Host.Outcome State Fault Refusal := .next (s.onModule fun m => coverAfter (foReleased m))

/-- ACK_RELEASE (R308). FIO_CMD.ACK releases the latch once READY. -/
def execAckRelease (s : State) : Host.Outcome State Fault Refusal := .next (s.onModule fun m => coverAfter (ackRelease m))

/-- VF_OVER (R308). VFIELD above 32.0 V sets VF_OVER. -/
def execVfOver (mv : Nat) (s : State) : Host.Outcome State Fault Refusal := .next (s.onModule (vfOver mv))

/-- AI_CONVERSION (R309). An analog conversion completes and CODE and SEQ update. -/
def execAiConversion (codes : Arr 16 Nat) (s : State) : Host.Outcome State Fault Refusal := .next (s.onModule (aiConversion codes))

/-- AI_FLAG (R311). An input condition held 10 ms is raised. -/
def execAiFlag (n : Fin 16) (c : AiCond) (s : State) : Host.Outcome State Fault Refusal := .next (s.onModule (aiFlag n c))

/-- AI_FLAG_CLEAR (R311). An input condition absent 10 ms clears. -/
def execAiFlagClear (n : Fin 16) (c : AiCond) (s : State) : Host.Outcome State Fault Refusal := .next (s.onModule (aiFlagClear n c))

/-- BURDEN_OPEN (R311). A current input above 30.0 mA opens its burden. -/
def execBurdenOpen (n : Fin 16) (s : State) : Host.Outcome State Fault Refusal := .next (s.onModule (burdenOpen n))

/-- BURDEN_RECONNECT (R311). The burden is reconnected after 100 ms. -/
def execBurdenReconnect (n : Fin 16) (s : State) : Host.Outcome State Fault Refusal := .next (s.onModule (burdenReconnect n))

/-- SS_OC (R313). A sensor supply at its limit for 1 ms latches off. -/
def execSsOc (n : Fin 8) (s : State) : Host.Outcome State Fault Refusal := .next (s.onModule (ssOc n))

/-- SENSOR_SUPPLY_CONTROL (R313). A write of FIO_SS_CTL switches sensor supplies in that tick. -/
def execSensorSupplyControl (w : Word) (s : State) : Host.Outcome State Fault Refusal := .next (s.onModule (sensorSupplyControl w))

/-- SS_OC_CLEAR (R313). W1C of an OC bit in FIO_SS_FAULT releases a sensor supply latched off. -/
def execSsOcClear (mask : Word) (s : State) : Host.Outcome State Fault Refusal := .next (s.onModule (ssOcClear mask))

end Sys2Proof.Machine
end

