-- ==== Sys2Proof/Machine/CmdFlue.lean ====
section
/-! DEFINITION. The meanings of the commands of the Flue chain (13), one to a command. -/

namespace Sys2Proof.Machine

/-- LINK_FRAME (R284). A LINK frame from the neighbour updates the link delay. -/
def execLinkFrame (q : Fin 2) (f : FlueFrameIn) (s : State) : Host.Outcome State Fault Refusal := .next (s.onModule (linkFrame q f))

/-- LINK_FRAME_SEND (R275). Every 1 ms each port sends a LINK frame. -/
def execLinkFrameSend (q : Fin 2) (s : State) : Host.Outcome State Fault Refusal := .next (s.onModule (linkFrameSend q))

/-- TIME_FRAME (R286). A TIME frame from the master is used to steer module time. -/
def execTimeFrame (q : Fin 2) (f : FlueFrameIn) (s : State) : Host.Outcome State Fault Refusal := .next (s.onModule (timeFrame q f))

/-- TIME_FRAME_SEND (R275). Every 100 µs the chain master sends a TIME frame. -/
def execTimeFrameSend (s : State) : Host.Outcome State Fault Refusal := .next (s.onModule timeFrameSend)

/-- PRESENCE (R281). A PRESENCE frame updates routes, election and ring break handling. -/
def execPresence (q : Fin 2) (f : FlueFrameIn) (s : State) : Host.Outcome State Fault Refusal := .next (s.onModule (presence q f))

/-- PRESENCE_SEND (R281). A module sends PRESENCE every 100 ms or after a topology change. -/
def execPresenceSend (topology : Bool) (s : State) : Host.Outcome State Fault Refusal := .next (s.onModule (presenceSend topology))

/-- DUP_ID_CLEAR (R280). DUP_ID clears after the conflict is gone for 1 s. -/
def execDupIdClear (s : State) : Host.Outcome State Fault Refusal := .next (s.onModule dupIdClear)

/-- ROUTE_EXPIRY (R281). A route entry expires 350 ms after its last PRESENCE. -/
def execRouteExpiry (s : State) : Host.Outcome State Fault Refusal := .next (s.onModule routeExpiry)

/-- FLUE_PORT_UP (R273). A Flue port comes UP. -/
def execFluePortUp (q : Fin 2) (closes : Bool) (s : State) : Host.Outcome State Fault Refusal :=
  .next (s.onModule (fluePortUp q closes))

/-- FLUE_PORT_DOWN (R273). A Flue port goes DOWN. -/
def execFluePortDown (q : Fin 2) (s : State) : Host.Outcome State Fault Refusal := .next (s.onModule (fluePortDown q))

/-- GAP_PLACEMENT (R277). Within 100 ms of a ring closing the master moves the gap opposite itself. -/
def execGapPlacement (s : State) : Host.Outcome State Fault Refusal := .next (s.onModule gapPlacement)

/-- PLACE_GAP (R277). FLUE_CMD.PLACE_GAP repeats the gap placement. -/
def execPlaceGap (s : State) : Host.Outcome State Fault Refusal := .next (s.onModule placeGapCmd)

/-- MASTER_LOST (R283). No TIME frame for 1 ms treats the master as lost. -/
def execMasterLost (s : State) : Host.Outcome State Fault Refusal := .next (s.onModule masterLost)

/-- MASTER_TAKEOVER (R283). A module whose key beats the master's for 1 s takes over. -/
def execMasterTakeover (s : State) : Host.Outcome State Fault Refusal := .next (s.onModule masterTakeover)

/-- POSITION_ENUMERATION (R279). About 50 ms after the first port is UP the POSITION ID is fixed. -/
def execPositionEnumeration (s : State) : Host.Outcome State Fault Refusal := .next (s.onModule positionEnumeration)

/-- RENUMBER (R279). FLUE_CMD.RENUMBER repeats POSITION enumeration. -/
def execRenumber (s : State) : Host.Outcome State Fault Refusal := .next (s.onModule renumber)

/-- AXIS_FRAME (R291). An AXIS frame is adopted by the matching CHAIN axis. -/
def execAxisFrame (q : Fin 2) (f : FlueFrameIn) (s : State) : Host.Outcome State Fault Refusal :=
  .next (s.onModule fun m => coverAfter (axisFrame q f m))

/-- BATCH_FRAME (R292). A BATCH frame reaches its destination and is checked there. -/
def execBatchFrame (q : Fin 2) (f : FlueFrameIn) (s : State) : Host.Outcome State Fault Refusal :=
  .next (s.onModule (batchOverFlue q f))

/-- RETURN_FRAME (R292). A RETURN frame is sent on to the producer. -/
def execReturnFrame (q : Fin 2) (f : FlueFrameIn) (s : State) : Host.Outcome State Fault Refusal :=
  .next (s.onModule (returnFrame q f))

/-- MGMT_FRAME (R293). A MGMT frame is handled as a session message over Flue. -/
def execMgmtFrame (q : Fin 2) (f : FlueFrameIn) (msg : Option SessMsg) (s : State) : Host.Outcome State Fault Refusal :=
  .next (mgmtFrame q f msg s)

/-- MGMT_RELAY_DATAGRAM (R293). A UDP datagram to the relay port is sent onward as MGMT. -/
def execMgmtRelayDatagram (p : Fin 4) (mac : Nat) (ip : IpInfo) (payload : List Byte) (msg : Option SessMsg) (s : State) : Host.Outcome State Fault Refusal :=
  .next (mgmtRelayDatagram p mac ip payload msg s)

/-- TPIN (R290). A time-pulse input edge stores its MT. -/
def execTpin (rising : Bool) (s : State) : Host.Outcome State Fault Refusal := .next (s.onModule (tpinEdge rising))

/-- FLUE_FRAME_DISCARD (R274). A Flue frame with a bad CRC, an unknown TYPE or an unknown unicast destination is discarded and
counted in RX_ERR or DROP, and 8 consecutive bad CRCs take the port DOWN. -/
def execFlueFrameDiscard (q : Fin 2) (k : FlueBad) (s : State) : Host.Outcome State Fault Refusal :=
  .next (s.onModule (flueFrameDiscard q k))

end Sys2Proof.Machine
end

