-- ==== Sys2Proof/Machine/CmdGnss.lean ====
section
/-! DEFINITION. The meanings of the commands of the GNSS receiver (12), one to a command. -/

namespace Sys2Proof.Machine

/-- ACQUISITION_PASS (R251). The acquisition engine completes an 8 ms search pass. -/
def execAcquisitionPass (p : AcqPass) (s : State) : Host.Outcome State Fault Refusal := .next (s.onModule (acquisitionPass p))

/-- CORRELATOR_DUMP (R253). A tracking channel ends an integration and dumps its six accumulations. -/
def execCorrelatorDump (c : Fin 96) (d : DumpIn) (s : State) : Host.Outcome State Fault Refusal :=
  .next (s.onModule (correlatorDump c d))

/-- NAV_FIFO_READ (R254). A privileged read of GC_NAV removes the piece read. -/
def execNavFifoRead (c : Fin 96) (s : State) : Host.Outcome State Fault Refusal := .next (s.onModule (navFifoRead c))

/-- CHANNEL_START (R253). Setting a tracking channel's EN loads START and starts it. -/
def execChannelStart (c : Fin 96) (w : Word) (s : State) : Host.Outcome State Fault Refusal := .next (s.onModule (channelStart c w))

/-- OBSERVABLE_EPOCH (R256). At each epoch GC0-GC31 are latched and the observables bank swaps. -/
def execObservableEpoch (recs : Arr 32 (Option ObsIn)) (s : State) : Host.Outcome State Fault Refusal :=
  .next (s.onModule (observableEpoch recs))

/-- PVT_SOLUTION (R262). MC0 publishes a PVT solution for an epoch. -/
def execPvtSolution (sol : PvtSol) (s : State) : Host.Outcome State Fault Refusal := .next (s.onModule (pvtSolution sol))

/-- ANTENNA_OPEN (R250). Bias current below 2 mA for 100 ms marks the antenna OPEN. -/
def execAntennaOpen (ma : Nat) (s : State) : Host.Outcome State Fault Refusal := .next (s.onModule (antennaOpen ma))

/-- ANTENNA_SHORT (R250). Bias current above 110 mA for 1 ms cuts the bias. -/
def execAntennaShort (ma : Nat) (s : State) : Host.Outcome State Fault Refusal := .next (s.onModule (antennaShort ma))

/-- ANTENNA_OK (R250). Bias current returns to 2-110 mA. -/
def execAntennaOk (ma : Nat) (s : State) : Host.Outcome State Fault Refusal := .next (s.onModule (antennaOk ma))

/-- ANTENNA_BIAS_RETRY (R250). Every 1 s in SHORT the bias is switched on again. -/
def execAntennaBiasRetry (s : State) : Host.Outcome State Fault Refusal := .next (s.onModule antennaBiasRetry)

/-- RTCM_WORD (R265). Four RTCM bytes are written into the input FIFO. -/
def execRtcmWord (w : Word) (s : State) : Host.Outcome State Fault Refusal := .next (s.onModule (rtcmWord w))

/-- RTCM_BYTE (R265). One RTCM byte is written into the input FIFO. -/
def execRtcmByte (b : Byte) (s : State) : Host.Outcome State Fault Refusal := .next (s.onModule (rtcmByte b))

/-- TIME_HOLDOVER (R269). No disciplining solution for 2 s puts time into HOLDOVER. -/
def execTimeHoldover (s : State) : Host.Outcome State Fault Refusal := .next (s.onModule timeHoldover)

/-- TIME_FREE (R269). Holdover uncertainty above HOLD_UNC_MAX puts time into FREE. -/
def execTimeFree (s : State) : Host.Outcome State Fault Refusal := .next (s.onModule timeFree)

/-- SLEW_DONE (R271). The slew's remaining error falls below one tick. -/
def execSlewDone (s : State) : Host.Outcome State Fault Refusal := .next (s.onModule slewEnd)

/-- TIME_PULSE (R268). The time pulse is driven at each whole GPS second plus DELAY. -/
def execTimePulse (s : State) : Host.Outcome State Fault Refusal := .next (s.onModule timePulse)

/-- BURST_START (R259). A burst begins and the RF paths and correlators run. -/
def execBurstStart (s : State) : Host.Outcome State Fault Refusal := .next (s.onModule burstStart)

/-- BURST_END (R259). A burst ends after 100 ms and PD6 idles. -/
def execBurstEnd (s : State) : Host.Outcome State Fault Refusal := .next (s.onModule burstEnd)

/-- GNSS_RESTART (R252). CMD.RESTART restarts the receiver's search. -/
def execGnssRestart (s : State) : Host.Outcome State Fault Refusal := .next (s.onModule gnssRestart)

/-- CLEAR_NAV (R266). CLEAR_NAV erases all stored navigation items. -/
def execClearNav (s : State) : Host.Outcome State Fault Refusal := .next (s.onModule clearNav)

/-- SAVE_NAV (R266). SAVE_NAV stores almanac, ephemeris, position and TCXO offset in MRAM. -/
def execSaveNav (s : State) : Host.Outcome State Fault Refusal := .next (s.onModule saveNav)

/-- NAV_PERIODIC_SAVE (R266). Every 30 min with changes the navigation items are stored. -/
def execNavPeriodicSave (s : State) : Host.Outcome State Fault Refusal := .next (s.onModule navPeriodicSave)

end Sys2Proof.Machine
end

