-- ==== Sys2Proof/Machine/CmdLearn.lean ====
section
/-! DEFINITION. The meanings of the commands of the learning unit (08), one to a command. -/

namespace Sys2Proof.Machine

/-- OPENING_MEASUREMENT (R164). The notch search ends and the opening measurement is judged and learned. -/
def execOpeningMeasurement (k : Fin 128) (o : OpenSamples) (s : State) : Host.Outcome State Fault Refusal :=
  .next (s.onModule (openingMeasured k o))

/-- CLOSING_MEASUREMENT (R165). The back-EMF search ends and the closing measurement is judged and learned. -/
def execClosingMeasurement (k : Fin 128) (o : CloseSamples) (s : State) : Host.Outcome State Fault Refusal :=
  .next (s.onModule (closingMeasured k o))

/-- FINGERPRINT (R173). A coil's R and L are taken from a switch-on rise and compared with the stored fingerprint. -/
def execFingerprint (k : Fin 128) (f : CoilRise) (s : State) : Host.Outcome State Fault Refusal :=
  .next (s.onModule (fingerprint k f))

/-- PROBE (R174). An ARM probe of a bank ends when its current has decayed, and the next bank or ARM follows. -/
def execProbe (b : Fin 16) (res : List ProbeRise) (s : State) : Host.Outcome State Fault Refusal := .next (s.onModule (probe b res))

/-- DELAY_TABLE_SAVE (R176). Every SAVE_PERIOD with changes MC0 saves the delay table to MRAM. -/
def execDelayTableSave (s : State) : Host.Outcome State Fault Refusal := .next (s.onModule delayTableSave)

/-- FORGET (R178). FORGET clears a channel's learning and erases its record at the next save. -/
def execForget (k : Fin 128) (s : State) : Host.Outcome State Fault Refusal := .next (s.onModule (learnForget k))

/-- LOAD (R178). LOAD copies the manual values into the estimates and makes the channel WARM. -/
def execLoad (k : Fin 128) (s : State) : Host.Outcome State Fault Refusal := .next (s.onModule (learnLoad k))

end Sys2Proof.Machine
end

