-- ==== Sys2Proof/Machine/CmdLoop.lean ====
section
/-! DEFINITION. The meanings of the commands of loops (11), one to a command. -/

namespace Sys2Proof.Machine

/-- LOOP_SAMPLE (R229). At each sample instant the due loops are computed in cascade order and their outputs presented. -/
def execLoopSample (s : State) : Host.Outcome State Fault Refusal := .next (s.onModule fun m => coverAfter (loopSample m))

/-- SP_VALUE (R232). A write of SP_VALUE arms a software set-point for its MT. -/
def execSpValue (n : Fin 32) (w : Word) (s : State) : Host.Outcome State Fault Refusal := .next (s.onModule (spValue n w))

/-- FB_SW_VALUE (R232). A write of FB_SW_VALUE arms a software feedback for its MT. -/
def execFbSwValue (n : Fin 32) (w : Word) (s : State) : Host.Outcome State Fault Refusal := .next (s.onModule (fbSwValue n w))

/-- TRACE_START (R245). START clears the trace buffers and begins recording. -/
def execTraceStart (s : State) : Host.Outcome State Fault Refusal := .next (s.onModule traceStart)

/-- TRACE_STOP (R245). STOP ends recording and discards the buffers. -/
def execTraceStop (s : State) : Host.Outcome State Fault Refusal := .next (s.onModule traceStop)

/-- INJ_START (R246). START begins a test-signal injection into the selected loop. -/
def execInjStart (s : State) : Host.Outcome State Fault Refusal := .next (s.onModule injStart)

/-- INJ_STOP (R246). STOP ends a test-signal injection. -/
def execInjStop (s : State) : Host.Outcome State Fault Refusal := .next (s.onModule injStop)

/-- SAVE_BANKS (R247). SAVE_BANKS makes MC0 store the loop's banks in MRAM. -/
def execSaveBanks (n : Fin 32) (s : State) : Host.Outcome State Fault Refusal := .next (s.onModule (saveBanks n))

end Sys2Proof.Machine
end

