-- ==== Sys2Proof/Machine/CmdMantel.lean ====
section
/-! DEFINITION. The meanings of the commands of the frame, the Grate, the cores and the sessions (01 to 03), one to a command. -/

namespace Sys2Proof.Machine

/-- MANTEL_CYCLE_BOUNDARY (R13). Module time reaches a whole multiple of 1,000,000 ticks and a new Mantel cycle begins. -/
def execMantelCycleBoundary (corrected : Nat) (s : State) : Host.Outcome State Fault Refusal :=
  .next (s.onModule (mantelBoundary corrected))

/-- APPLY (R17). Writing 1 to a block's APPLY bit copies the shadow set into the pending stage and sets APPLY_PENDING. -/
def execApply (u : ApplyUnit) (s : State) : Host.Outcome State Fault Refusal := .next (s.onModule (applyCmd u))

/-- PENDING_STAGE_TAKEN (R17). At its unit's boundary the pending stage is validated and taken as a whole, and APPLY_PENDING is
cleared. -/
def execPendingStageTaken (u : ApplyUnit) (s : State) : Host.Outcome State Fault Refusal := .next (s.onModule (pendingStageTaken u))

/-- REGISTER_WRITE (R8). A write to a register that has no behaviour of its own acts on each field according to its access code. -/
def execRegisterWrite (i : Initiator) (b : BusWrite) (s : State) : Host.Outcome State Fault Refusal := .next (busWrite i b s)

/-- SNAPSHOT_LATCH_READ (R16). Reading the lowest word of a snapshot group copies the whole value into the initiator's holding
registers. -/
def execSnapshotLatchRead (i : Initiator) (b : BusRead) (s : State) : Host.Outcome State Fault Refusal := .next (busRead i b s)

/-- TUNNEL_SEQUENCE_READ (R20). A tunnel read of a publication sequence register copies the whole published set into the tunnel's
holding registers. -/
def execTunnelSequenceRead (c : Fin 4) (off : Nat) (s : State) : Host.Outcome State Fault Refusal :=
  .next (s.onModule (tunnelSequence c off))

/-- IMAGE_LOAD (R41). MC0 copies a slot's structure image, checks header, digest, signature and records, and writes and reads back
the staging copy. -/
def execImageLoad (slot : Slot) (sigOk : Bool) (readbackOk : Bool) (s : State) : Host.Outcome State Fault Refusal :=
  .next (s.onModule (imageLoadCmd slot sigOk readbackOk))

/-- STRUCTURE_SWAP (R42). At a Mantel cycle boundary with outputs disarmed, the staging copy becomes active and the data-plane
blocks return to their start state. -/
def execStructureSwap (s : State) : Host.Outcome State Fault Refusal := .next (s.onModule structureSwap)

/-- CHECK (R48). Writing CHECK starts a candidate check of steps 2-6 of R41 without writing staging, or ends at once with BUSY. -/
def execCheck (s : State) : Host.Outcome State Fault Refusal := .next (s.onModule candCheck)

/-- CAND_DONE (R48). A candidate check completes, filling GRATE_CAND_RESULT and raising CAND_DONE. -/
def execCandDone (sigOk : Bool) (s : State) : Host.Outcome State Fault Refusal :=
  .next (s.onModule (candDoneCmd sigOk (s.mem.rdN (candSpan s.m).1 (candSpan s.m).2)))

/-- MTIMECMP_INTERRUPT (R50). The timer compare fires on the first tick at which MT reaches mtimecmp. -/
def execMtimecmpInterrupt (h : Fin 4) (s : State) : Host.Outcome State Fault Refusal := .next (s.onModule (mtimecmpInterrupt h))

/-- CLAIM (R61). A PLIC claim returns the number of a pending source, or 0 to later claimants. -/
def execClaim (ctx : Fin 8) (s : State) : Host.Outcome State Fault Refusal := .next (s.onModule (plicClaim ctx))

/-- COMPLETE (R59). A PLIC completion ends the claim of a source. -/
def execComplete (ctx : Fin 8) (src : Fin 32) (s : State) : Host.Outcome State Fault Refusal :=
  .next (s.onModule (plicComplete ctx src))

/-- ECALL (R49). An ecall from supervisor mode reaches the resident monitor, which forwards privileged requests to MC0. -/
def execEcall (h : Fin 4) (r : EcallReq) (s : State) : Host.Outcome State Fault Refusal := .next (ecall h r s)

/-- MSIP (R61). A machine-mode write to msip raises an inter-core software interrupt. -/
def execMsip (i : Initiator) (h : Fin 4) (v : Bool) (s : State) : Host.Outcome State Fault Refusal :=
  .next (s.onModule (msipWrite i h v))

/-- SESSION_OPEN_REQUEST (R64). An OPEN received either issues a challenge and starts a 2 s timer or is answered BUSY. -/
def execSessionOpenRequest (t : Transport) (peer : Nat) (s : State) : Host.Outcome State Fault Refusal :=
  .next (s.onModule (sessionOpen t peer))

/-- CHALLENGE_RESPONSE (R63). A signed challenge with an enrolled key opens the session with its credential's grant, or is refused
DENIED. -/
def execChallengeResponse (n : Fin 8) (key : Nat) (sigOk : Bool) (s : State) : Host.Outcome State Fault Refusal :=
  .next (s.onModule (challengeAnswer n key sigOk))

/-- CHALLENGE_TIMEOUT (R64). A challenge unanswered for 2 s is refused DENIED and the session returns to IDLE. -/
def execChallengeTimeout (n : Fin 8) (s : State) : Host.Outcome State Fault Refusal := .next (s.onModule (challengeTimeout n))

/-- READ (R65). A session READ request returns COUNT words in ascending offset order within 100 µs. -/
def execRead (n : Fin 8) (r : SessReq) (s : State) : Host.Outcome State Fault Refusal :=
  .next (sessRequest n (if r.op = 2 ∨ r.op = 3 then { r with op := 1 } else r) s)

/-- WRITE (R65). A session WRITE request writes COUNT words in ascending offset order within 100 µs. -/
def execWrite (n : Fin 8) (r : SessReq) (s : State) : Host.Outcome State Fault Refusal := .next (sessRequest n { r with op := 2 } s)

/-- MODIFY (R65). A session MODIFY request performs one locked masked write and returns the old word. -/
def execModify (n : Fin 8) (r : SessReq) (s : State) : Host.Outcome State Fault Refusal :=
  .next (sessRequest n { r with op := 3 } s)

/-- SESSION_CLOSE (R64). CLOSE ends an ACTIVE session after the request under way and clears its holding registers. -/
def execSessionClose (n : Fin 8) (s : State) : Host.Outcome State Fault Refusal := .next (s.onModule (sessionClose n))

/-- SESSION_INACTIVITY_TIMEOUT (R64). A session without a request for 4,000 Mantel cycles returns to IDLE. -/
def execSessionInactivityTimeout (n : Fin 8) (s : State) : Host.Outcome State Fault Refusal :=
  .next (s.onModule (sessionInactive n))

/-- POWER_ON (R46). PD0 comes up from nothing on VBAT or VLS, the PD0 supervisor reloads retention from MRAM (or sets every policy
OFF on a bad CRC), SECS restarts and BREAKS increments. -/
def execPowerOn (s : State) : Host.Outcome State Fault Refusal := .next (s.onModule powerOn)

/-- DEBUG_CONNECTION_RESET (R16). A reset of the X15 debug connection returns the debug access's holding registers and Ash read
port to 0. -/
def execDebugConnectionReset (s : State) : Host.Outcome State Fault Refusal := .next (s.onModule debugConnectionReset)

end Sys2Proof.Machine
end

