-- ==== Sys2Proof/Machine/CmdPower.lean ====
section
/-! DEFINITION. The meanings of the commands of power, resets, sleep and upkeep (19), one to a command. -/

namespace Sys2Proof.Machine

/-- PD2_RESET_RELEASE (R414). After its 1 ms hold a PD2 reset is released and the structure is reloaded as at power-on. -/
def execPd2ResetRelease (sigOk : Bool) (readbackOk : Bool) (s : State) : Host.Outcome State Fault Refusal :=
  .next (s.onModule (pd2ResetRelease sigOk readbackOk))

/-- VBAT_VALID (R380). VBAT valid starts the start-up sequence. -/
def execVbatValid (mv : Nat) (v : BootSeen) (s : State) : Host.Outcome State Fault Refusal := .next (s.onModule (vbatValid mv v))

/-- SETTINGS_RESTORE (R381). After a swap resident firmware restores settings and persistent items and ends RESTORING. -/
def execSettingsRestore (s : State) : Host.Outcome State Fault Refusal := .next (s.onModule settingsRestore)

/-- ARM (R382). ARM is checked and enters ARMING with probes. -/
def execArm (i : Initiator) (s : State) : Host.Outcome State Fault Refusal := .next (s.onModule (arm i))

/-- DISARM (R383). DISARM switches outputs off and empties the output commit queues. -/
def execDisarm (i : Initiator) (s : State) : Host.Outcome State Fault Refusal := .next (s.onModule fun m => coverAfter (disarm i m))

/-- ARM_WD_KICK (R384). A write to PWR_ARM_WD_KICK restarts the arm watchdog. -/
def execArmWdKick (s : State) : Host.Outcome State Fault Refusal := .next (s.onModule armWdKick)

/-- WD_DISARM (R384). The arm watchdog expires and disarms the module. -/
def execWdDisarm (s : State) : Host.Outcome State Fault Refusal := .next (s.onModule fun m => coverAfter (wdDisarm m))

/-- VBAT_WARN (R386). VBAT below 8.0 V raises the warning and saves the delay table. -/
def execVbatWarn (mv : Nat) (s : State) : Host.Outcome State Fault Refusal := .next (s.onModule (vbatWarning mv))

/-- VBAT_OK (R386). VBAT at 8.5 V ends the warning. -/
def execVbatOk (mv : Nat) (s : State) : Host.Outcome State Fault Refusal := .next (s.onModule (vbatOk mv))

/-- VBAT_LOW (R387). VBAT below 6.5 V for 10 µs takes a reset. -/
def execVbatLow (mv : Nat) (s : State) : Host.Outcome State Fault Refusal := .next (s.onModule fun m => coverAfter (vbatLow mv m))

/-- VBAT_OV (R385). VBAT above 40.0 V sets VBAT_OV. -/
def execVbatOv (mv : Nat) (s : State) : Host.Outcome State Fault Refusal := .next (s.onModule (vbatOver mv))

/-- RESET (R389). PWR_CMD.RESET takes a SOFTWARE reset. -/
def execReset (i : Initiator) (s : State) : Host.Outcome State Fault Refusal := .next (s.onModule fun m => coverAfter (reset i m))

/-- FIRMWARE_WATCHDOG (R389). MC0 resident firmware silent for 1 s takes a WATCHDOG reset. -/
def execFirmwareWatchdog (s : State) : Host.Outcome State Fault Refusal :=
  .next (s.onModule fun m => coverAfter (firmwareWatchdog m))

/-- DEBUG_RESET (R389). A reset request at X15 takes a DEBUG reset. -/
def execDebugReset (s : State) : Host.Outcome State Fault Refusal := .next (s.onModule fun m => coverAfter (debugReset m))

/-- DIE_HOT (R391). The main die reaches 120 °C. -/
def execDieHot (temp : Int) (s : State) : Host.Outcome State Fault Refusal := .next (s.onModule (dieHot temp))

/-- THERMAL (R391). The main die at 135 °C for 1 ms takes a THERMAL reset. -/
def execThermal (temp : Int) (s : State) : Host.Outcome State Fault Refusal :=
  .next (s.onModule fun m => coverAfter (thermal temp m))

/-- RESET_RELEASE (R414). A reset's hold ends and start-up runs. -/
def execResetRelease (v : BootSeen) (s : State) : Host.Outcome State Fault Refusal := .next (s.onModule (resetRelease v))

/-- SLEEP (R392). PWR_CMD.SLEEP saves, closes sessions and powers down. -/
def execSleep (i : Initiator) (s : State) : Host.Outcome State Fault Refusal := .next (s.onModule fun m => coverAfter (sleep i m))

/-- WAKE_FOLLOW_SLEEP (R392). WAKE inactive for SLEEP_DELAY enters sleep. -/
def execWakeFollowSleep (s : State) : Host.Outcome State Fault Refusal := .next (s.onModule fun m => coverAfter (wakeFollowSleep m))

/-- WAKE (R393). A wake source starts the start-up with cause WAKE. -/
def execWake (src : Nat) (v : BootSeen) (s : State) : Host.Outcome State Fault Refusal := .next (s.onModule (wake src v))

/-- NAND_REFRESH (R395). MC0 reads NAND pages and refreshes worn or old blocks. -/
def execNandRefresh (p : NandPage) (s : State) : Host.Outcome State Fault Refusal := .next (s.onModule (nandRefresh p))

/-- DRAM_SCRUB (R396). DRAM is scrubbed in full once per 24 h. -/
def execDramScrub (dram : Nat) (sram : Nat) (s : State) : Host.Outcome State Fault Refusal :=
  .next (s.onModule (dramScrub dram sram))

/-- PD0_LOST (R387). VBAT and VLS both fall below 4.5 V, PD0 is lost with retention, the seconds counter, limp-home and the CAN
termination. -/
def execPd0Lost (s : State) : Host.Outcome State Fault Refusal := .next (s.onModule pd0Lost)

end Sys2Proof.Machine
end

