-- ==== Sys2Proof/Machine/CmdSec.lean ====
section
/-! DEFINITION. The meanings of the commands of life-cycle, keys, update (18), one to a command. -/

namespace Sys2Proof.Machine

/-- IMAGE_FRAME (R369). An IMAGE frame block is written, verified and relayed onward. -/
def execImageFrame (q : Fin 2) (f : FlueFrameIn) (writeOk : Bool) (s : State) : Host.Outcome State Fault Refusal :=
  .next (s.onModule (imageFrame q f writeOk))

/-- LIFECYCLE (R363). A signed life-cycle request burns its fuse and resets the module. -/
def execLifecycle (n : Fin 8) (r : LcReq) (s : State) : Host.Outcome State Fault Refusal :=
  .next (s.onModule fun m => coverAfter (lifecycle n r m))

/-- KEY_ENROLMENT (R365). A signed enrolment record stores a key in its slot. -/
def execKeyEnrolment (n : Fin 8) (r : EnrolRec) (s : State) : Host.Outcome State Fault Refusal :=
  .next (s.onModule (keyEnrolment n r))

/-- KEY_REVOCATION (R365). A revocation record erases a key slot. -/
def execKeyRevocation (n : Fin 8) (r : EnrolRec) (s : State) : Host.Outcome State Fault Refusal :=
  .next (s.onModule (keyRevocation n r))

/-- BEGIN (R368). BEGIN checks the header and erases the inactive slot. -/
def execBegin (n : Fin 8) (bs : List Byte) (s : State) : Host.Outcome State Fault Refusal := .next (s.onModule (pkgBegin n bs))

/-- BLOCK (R368). BLOCK writes and reads back a package block. -/
def execBlock (n : Fin 8) (off : Nat) (bs : List Byte) (writeOk : Bool) (s : State) : Host.Outcome State Fault Refusal :=
  .next (s.onModule (pkgBlock n off bs writeOk))

/-- END (R368). END checks completeness, digest and structure tag and stores the package. -/
def execEnd (n : Fin 8) (s : State) : Host.Outcome State Fault Refusal := .next (s.onModule (pkgEnd n))

/-- ABORT (R368). ABORT erases the slot being delivered. -/
def execAbort (n : Fin 8) (s : State) : Host.Outcome State Fault Refusal := .next (s.onModule (pkgAbort n))

/-- ACTIVATE (R370). ACTIVATE checks the stored package and loads its structure. -/
def execActivate (i : Initiator) (force : Bool) (disarm : Bool) (sigOk : Bool) (readbackOk : Bool) (s : State) : Host.Outcome State Fault Refusal :=
  .next (s.onModule (activate i force disarm sigOk readbackOk))

/-- ACTIVATION_PAUSE (R371). At boundary B0 with checks 6 and 7 passed the activation pause begins. -/
def execActivationPause (fwSame : Bool) (s : State) : Host.Outcome State Fault Refusal :=
  .next (s.onModule fun m => coverAfter (activationPause fwSame m))

/-- WARM_RESTART (R371). PD1 restarts into the new firmware. -/
def execWarmRestart (s : State) : Host.Outcome State Fault Refusal := .next (s.onModule warmRestart)

/-- CONFIRM (R378). CONFIRM ends the trial and raises the floors. -/
def execConfirm (i : Initiator) (s : State) : Host.Outcome State Fault Refusal := .next (s.onModule (confirm i))

/-- ROLLBACK (R378). ROLLBACK falls back by a warm restart. -/
def execRollback (i : Initiator) (s : State) : Host.Outcome State Fault Refusal := .next (s.onModule (rollback i))

/-- KINDLING_BOOT (R375). Kindling chooses and verifies the boot slot. -/
def execKindlingBoot (v : BootSeen) (s : State) : Host.Outcome State Fault Refusal := .next (s.onModule (kindlingBoot v))

/-- BOOT_WATCHDOG (R374). Firmware gives no BOOT_OK within 2 s and the boot fails. -/
def execBootWatchdog (s : State) : Host.Outcome State Fault Refusal := .next (s.onModule bootWatchdog)

end Sys2Proof.Machine
end

