-- ==== Sys2Proof/Machine/CmdSwitch.lean ====
section
/-! DEFINITION. The meanings of the commands of load switches and limp-home (15), one to a command. -/

namespace Sys2Proof.Machine

/-- LS_SHORT (R320). A load switch at its limit beyond INRUSH_T trips off. -/
def execLsShort (n : Fin 16) (s : State) : Host.Outcome State Fault Refusal := .next (s.onModule fun m => coverAfter (lsShort n m))

/-- OVERLOAD (R320). Mean current above OL_I for OL_T trips the channel. -/
def execOverload (n : Fin 16) (s : State) : Host.Outcome State Fault Refusal :=
  .next (s.onModule fun m => coverAfter (lsOverload n m))

/-- LS_OVERTEMP (R322). A channel junction at 170 °C sets the thermal latch. -/
def execLsOvertemp (n : Fin 16) (s : State) : Host.Outcome State Fault Refusal :=
  .next (s.onModule fun m => coverAfter (lsOvertemp n m))

/-- LS_OPEN (R320). An off channel above 2.5 V for 10 ms raises OPEN. -/
def execLsOpen (n : Fin 16) (present : Bool) (s : State) : Host.Outcome State Fault Refusal := .next (s.onModule (lsOpen n present))

/-- VLS_UV (R320). VLS below 6.0 V switches every channel off. -/
def execVlsUv (s : State) : Host.Outcome State Fault Refusal := .next (s.onModule fun m => coverAfter (vlsUv m))

/-- VLS_UV_RELEASE (R320). VLS at 7.0 V for 1 ms clears VLS_UV. -/
def execVlsUvRelease (s : State) : Host.Outcome State Fault Refusal := .next (s.onModule fun m => coverAfter (vlsUvRelease m))

/-- VLS_OC (R320). VLS current above 66 A for 1 ms latches every channel off. -/
def execVlsOc (s : State) : Host.Outcome State Fault Refusal := .next (s.onModule fun m => coverAfter (vlsOc m))

/-- RETRY_WAIT_END (R321). The retry wait ends and the channel is switched on again or returns to OFF. -/
def execRetryWaitEnd (n : Fin 16) (s : State) : Host.Outcome State Fault Refusal :=
  .next (s.onModule fun m => coverAfter (retryWaitEnd n m))

/-- RETRY_COUNTER_RESET (R321). A channel on for 1 s without trip resets its retry counter. -/
def execRetryCounterReset (n : Fin 16) (s : State) : Host.Outcome State Fault Refusal := .next (s.onModule (retryCounterReset n))

/-- THERMAL_RELEASE (R322). The junction falls below 150 °C and the thermal latch restarts or waits. -/
def execThermalRelease (n : Fin 16) (s : State) : Host.Outcome State Fault Refusal :=
  .next (s.onModule fun m => coverAfter (thermalRelease n m))

/-- LSW_FAULT_CLEAR (R322). W1C of RETRY_EXHAUSTED or OVERTEMP releases a latched channel. -/
def execLswFaultClear (n : Fin 16) (mask : Word) (s : State) : Host.Outcome State Fault Refusal :=
  .next (s.onModule fun m => coverAfter (lswFaultClear n mask m))

/-- LIMP_ENTRY (R327). LH_EN_N active after its filter passes every output to the limp mapping. -/
def execLimpEntry (inputs : Nat) (s : State) : Host.Outcome State Fault Refusal :=
  .next (s.onModule fun m => coverAfter (limpEntry inputs m))

/-- LIMP_INPUT_CHANGE (R327). An LH_IN change recomputes the limp drive. -/
def execLimpInputChange (inputs : Nat) (s : State) : Host.Outcome State Fault Refusal :=
  .next (s.onModule fun m => coverAfter (limpInputChange inputs m))

/-- LIMP_EXIT (R327). LH_EN_N inactive for 100 ms ends limp-home. -/
def execLimpExit (s : State) : Host.Outcome State Fault Refusal := .next (s.onModule fun m => coverAfter (limpExit m))

/-- VLS_OC_CLEAR (R320). W1C of LSW_SUP_FAULT.VLS_OC releases every load switch latched by the VLS overcurrent. -/
def execVlsOcClear (mask : Word) (s : State) : Host.Outcome State Fault Refusal :=
  .next (s.onModule fun m => coverAfter (vlsOcClear mask m))

end Sys2Proof.Machine
end

