-- ==== Sys2Proof/Machine/CmdValve.lean ====
section
/-! DEFINITION. The meanings of the commands of valve drive (09), one to a command. -/

namespace Sys2Proof.Machine

/-- BOOST_END (R184). The current reaches PEAK_I or BOOST_T passes and the channel enters PEAK. -/
def execBoostEnd (k : Fin 128) (reached : Bool) (mj : Nat) (rail : Nat) (s : State) : Host.Outcome State Fault Refusal :=
  .next (s.onModule fun m => coverAfter (boostEnd k reached mj rail m))

/-- PEAK_END (R184). The peak phase ends and the channel passes to HOLD. -/
def execPeakEnd (k : Fin 128) (reached : Bool) (s : State) : Host.Outcome State Fault Refusal :=
  .next (s.onModule fun m => coverAfter (peakEnd k reached m))

/-- DECAY_END (R184). The current falls below 2 % of HOLD_I and the channel is IDLE. -/
def execDecayEnd (k : Fin 128) (retMj : Nat) (clampMj : Nat) (s : State) : Host.Outcome State Fault Refusal :=
  .next (s.onModule fun m => coverAfter (decayEnd k retMj clampMj m))

/-- BOOST_START (R189). A waiting channel starts its boost when the bank and the rail allow. -/
def execBoostStart (b : Fin 16) (rail : Nat) (s : State) : Host.Outcome State Fault Refusal :=
  .next (s.onModule fun m => coverAfter (boostStart b rail m))

/-- BOOST_WAIT_MAX (R189). A channel has waited BOOST_WAIT_MAX and skips or rejects by BUSY_ACT. -/
def execBoostWaitMax (k : Fin 128) (s : State) : Host.Outcome State Fault Refusal :=
  .next (s.onModule fun m => coverAfter (boostWaitMax k m))

/-- MINIMUM_GAP_END (R187). A switch-on waiting for the 50 µs gap or the end of DECAY starts its drive. -/
def execMinimumGapEnd (k : Fin 128) (s : State) : Host.Outcome State Fault Refusal :=
  .next (s.onModule fun m => coverAfter (minimumGapEnd k m))

/-- PWM_PULSE_START (R191). A nozzle PWM pulse starts at a phase-grid instant. -/
def execPwmPulseStart (k : Fin 128) (s : State) : Host.Outcome State Fault Refusal :=
  .next (s.onModule fun m => coverAfter (pwmPulseStart k m))

/-- PWM_PULSE_END (R191). A nozzle PWM pulse's on-time ends and the channel decays. -/
def execPwmPulseEnd (k : Fin 128) (s : State) : Host.Outcome State Fault Refusal :=
  .next (s.onModule fun m => coverAfter (pwmPulseEnd k m))

/-- HOLD_FACTOR_RAISE (R196). Every 10 µs the Damper raises the hold factor by 1 % while the load fits. -/
def execHoldFactorRaise (i : Fin 2) (ma : Nat) (s : State) : Host.Outcome State Fault Refusal :=
  .next (s.onModule (holdFactorRaise i ma))

/-- DUTY_CUT (R197). A channel's duty accumulator reaches its cap and the channel is switched off. -/
def execDutyCut (k : Fin 128) (s : State) : Host.Outcome State Fault Refusal := .next (s.onModule fun m => coverAfter (dutyCut k m))

/-- DUTY_CUT_RELEASE (R197). The duty accumulator falls to half the cap and switch-ons are allowed again. -/
def execDutyCutRelease (k : Fin 128) (s : State) : Host.Outcome State Fault Refusal :=
  .next (s.onModule fun m => coverAfter (dutyCutRelease k m))

/-- SUP_WARN (R198). VSOL falls below VSOL_WARN and the supply warning begins. -/
def execSupWarn (i : Fin 2) (mv : Nat) (s : State) : Host.Outcome State Fault Refusal := .next (s.onModule (supWarn i mv))

/-- VSOL_WARNING_END (R198). VSOL reaches VSOL_WARN + 0.5 V and the warning clears. -/
def execVsolWarningEnd (i : Fin 2) (mv : Nat) (s : State) : Host.Outcome State Fault Refusal :=
  .next (s.onModule (vsolWarningEnd i mv))

/-- REDUCED_BUDGET_END (R199). The supply has stood above threshold for 1 ms and the full budget returns. -/
def execReducedBudgetEnd (i : Fin 2) (s : State) : Host.Outcome State Fault Refusal := .next (s.onModule (reducedBudgetEnd i))

/-- VALVE_OPEN_FAULT (R200). Current below 20 mA 200 µs after switch-on latches the channel OPEN. -/
def execValveOpenFault (k : Fin 128) (s : State) : Host.Outcome State Fault Refusal :=
  .next (s.onModule fun m => coverAfter (valveOpenFault k m))

/-- VALVE_SHORT (R200). Channel current above 6.0 A or desaturation latches the channel SHORT. -/
def execValveShort (k : Fin 128) (s : State) : Host.Outcome State Fault Refusal :=
  .next (s.onModule fun m => coverAfter (valveShort k m))

/-- DRIVE_OVERTEMP (R200). A power die reaches 170 °C and its channels and converter stop. -/
def execDriveOvertemp (i : Fin 2) (s : State) : Host.Outcome State Fault Refusal :=
  .next (s.onModule fun m => coverAfter (driveOvertemp i m))

/-- INPUT_OC (R200). VSOL input current above 44.0 A for 50 µs latches the half off. -/
def execInputOc (i : Fin 2) (s : State) : Host.Outcome State Fault Refusal := .next (s.onModule fun m => coverAfter (inputOc i m))

/-- BANK_SW (R200). A bank rail differing from its source latches the bank off. -/
def execBankSw (b : Fin 16) (s : State) : Host.Outcome State Fault Refusal := .next (s.onModule fun m => coverAfter (bankSw b m))

/-- VSOL_UV (R200). VSOL below 6.0 V switches the half off. -/
def execVsolUv (i : Fin 2) (mv : Nat) (s : State) : Host.Outcome State Fault Refusal :=
  .next (s.onModule fun m => coverAfter (vsolUv i mv m))

/-- VSOL_UV_RELEASE (R200). VSOL at 7.0 V for 1 ms clears VSOL_UV. -/
def execVsolUvRelease (i : Fin 2) (mv : Nat) (s : State) : Host.Outcome State Fault Refusal :=
  .next (s.onModule fun m => coverAfter (vsolUvRelease i mv m))

/-- BW_OV (R200). The Bellows rail above 69.0 V stops the converter and forces the clamp. -/
def execBwOv (i : Fin 2) (mv : Nat) (s : State) : Host.Outcome State Fault Refusal := .next (s.onModule (bwOv i mv))

/-- BW_LOW (R200). The Bellows rail below VMIN_BOOST for 20 ms raises BW_LOW. -/
def execBwLow (i : Fin 2) (mv : Nat) (s : State) : Host.Outcome State Fault Refusal := .next (s.onModule (bwLow i mv))

/-- VDRV_FAULT_CLEAR (R200). W1C of a latched valve fault bit releases the channel when no fault remains. -/
def execVdrvFaultClear (k : Fin 128) (mask : Word) (s : State) : Host.Outcome State Fault Refusal :=
  .next (s.onModule fun m => coverAfter (vdrvFaultWrite k mask m))

/-- BELLOWS_FULL (R192). The Bellows rail reaches VSET + 3.0 V and becomes FULL. -/
def execBellowsFull (i : Fin 2) (mv : Nat) (s : State) : Host.Outcome State Fault Refusal := .next (s.onModule (bellowsFull i mv))

/-- BELLOWS_CONVERTER_START (R193). A Bellows converter starts when enabled, supplied and permitted by the structure. -/
def execBellowsConverterStart (i : Fin 2) (vsol : Nat) (rail : Nat) (s : State) : Host.Outcome State Fault Refusal :=
  .next (s.onModule (converterStart i vsol rail))

/-- RESETPOL_WRITE (R202). A write to a RESETPOL register is ignored if locked or retained at the next boundary. -/
def execResetpolWrite (c : Nat) (w : Word) (s : State) : Host.Outcome State Fault Refusal := .next (s.onModule (resetPolWrite c w))

/-- HOLD_MS_EXPIRY (R203). HOLD_MS after a reset onset a held output switches off. -/
def execHoldMsExpiry (c : Nat) (s : State) : Host.Outcome State Fault Refusal :=
  .next (s.onModule fun m => coverAfter (holdMsExpiry c m))

/-- FULL_END (R192). The Bellows rail falls below VSET + 2.0 V, leaves FULL and clears BW_OV, so later decays return into the rail
again. -/
def execFullEnd (i : Fin 2) (mv : Nat) (s : State) : Host.Outcome State Fault Refusal := .next (s.onModule (fullEnd i mv))

/-- CONVERTER_STOP (R193). A Bellows converter stops when its VSOL input falls to 8.0 V or its run conditions no longer hold. -/
def execConverterStop (i : Fin 2) (vsol : Nat) (s : State) : Host.Outcome State Fault Refusal :=
  .next (s.onModule (converterStop i vsol))

/-- DIE_OT_END (R200). A power-die or field-output junction falls below 150 °C, which ends DIE_OT and lets a W1C of OVERTEMP
release the latch. -/
def execDieOtEnd (d : DieSite) (s : State) : Host.Outcome State Fault Refusal := .next (s.onModule (dieOtEnd d))

end Sys2Proof.Machine
end

