-- ==== Sys2Proof/Machine/Dispatch.lean ====
section
/-! DEFINITION. The dispatch: one arm to a command, each one direct call of its meaning. -/

namespace Sys2Proof.Machine

def exec (i : Instr) (s : State) : Host.Outcome State Fault Refusal :=
  match i with
  | .mantelCycleBoundary corrected => Sys2Proof.Machine.execMantelCycleBoundary corrected s
  | .apply u => Sys2Proof.Machine.execApply u s
  | .pendingStageTaken u => Sys2Proof.Machine.execPendingStageTaken u s
  | .registerWrite who b => Sys2Proof.Machine.execRegisterWrite who b s
  | .snapshotLatchRead who b => Sys2Proof.Machine.execSnapshotLatchRead who b s
  | .tunnelSequenceRead c off => Sys2Proof.Machine.execTunnelSequenceRead c off s
  | .imageLoad slot sigOk readbackOk => Sys2Proof.Machine.execImageLoad slot sigOk readbackOk s
  | .structureSwap => Sys2Proof.Machine.execStructureSwap s
  | .check => Sys2Proof.Machine.execCheck s
  | .candDone sigOk => Sys2Proof.Machine.execCandDone sigOk s
  | .uncorrectableError site => Sys2Proof.Machine.execUncorrectableError site s
  | .pd2ResetRelease sigOk readbackOk => Sys2Proof.Machine.execPd2ResetRelease sigOk readbackOk s
  | .mtimecmpInterrupt h => Sys2Proof.Machine.execMtimecmpInterrupt h s
  | .claim ctx => Sys2Proof.Machine.execClaim ctx s
  | .complete ctx src => Sys2Proof.Machine.execComplete ctx src s
  | .ecall h r => Sys2Proof.Machine.execEcall h r s
  | .msip who h v => Sys2Proof.Machine.execMsip who h v s
  | .sessionOpenRequest t peer => Sys2Proof.Machine.execSessionOpenRequest t peer s
  | .challengeResponse n key sigOk => Sys2Proof.Machine.execChallengeResponse n key sigOk s
  | .challengeTimeout n => Sys2Proof.Machine.execChallengeTimeout n s
  | .read n r => Sys2Proof.Machine.execRead n r s
  | .write n r => Sys2Proof.Machine.execWrite n r s
  | .modify n r => Sys2Proof.Machine.execModify n r s
  | .sessionClose n => Sys2Proof.Machine.execSessionClose n s
  | .sessionInactivityTimeout n => Sys2Proof.Machine.execSessionInactivityTimeout n s
  | .sourceUpdate n t meas => Sys2Proof.Machine.execSourceUpdate n t meas s
  | .srcFault n c => Sys2Proof.Machine.execSrcFault n c s
  | .sourceFaultCleared n => Sys2Proof.Machine.execSourceFaultCleared n s
  | .gnssGap n => Sys2Proof.Machine.execGnssGap n s
  | .coastTimeExpiry n => Sys2Proof.Machine.execCoastTimeExpiry n s
  | .coastDistReached n => Sys2Proof.Machine.execCoastDistReached n s
  | .rangeExceeded n => Sys2Proof.Machine.execRangeExceeded n s
  | .still n => Sys2Proof.Machine.execStill n s
  | .index n => Sys2Proof.Machine.execIndex n s
  | .restart n => Sys2Proof.Machine.execRestart n s
  | .saveOffset n => Sys2Proof.Machine.execSaveOffset n s
  | .clearCounts n => Sys2Proof.Machine.execClearCounts n s
  | .axisFrameSend n => Sys2Proof.Machine.execAxisFrameSend n s
  | .batch p f => Sys2Proof.Machine.execBatch p f s
  | .fire => Sys2Proof.Machine.execFire s
  | .openEv => Sys2Proof.Machine.execOpenEv s
  | .closeEv => Sys2Proof.Machine.execCloseEv s
  | .level => Sys2Proof.Machine.execLevel s
  | .setpt => Sys2Proof.Machine.execSetpt s
  | .mark => Sys2Proof.Machine.execMark s
  | .cancel => Sys2Proof.Machine.execCancel s
  | .replace => Sys2Proof.Machine.execReplace s
  | .fence => Sys2Proof.Machine.execFence s
  | .eventFiling => Sys2Proof.Machine.execEventFiling s
  | .notificationFrame ring => Sys2Proof.Machine.execNotificationFrame ring s
  | .noteRetx ring => Sys2Proof.Machine.execNoteRetx ring s
  | .update => Sys2Proof.Machine.execUpdate s
  | .ringClose ring => Sys2Proof.Machine.execRingClose ring s
  | .discardNotes ring => Sys2Proof.Machine.execDiscardNotes ring s
  | .neighbourSolicitation p mac ip target => Sys2Proof.Machine.execNeighbourSolicitation p mac ip target s
  | .echoRequest p mac ip dst body => Sys2Proof.Machine.execEchoRequest p mac ip dst body s
  | .frameDrop p f => Sys2Proof.Machine.execFrameDrop p f s
  | .portLinkUp p => Sys2Proof.Machine.execPortLinkUp p s
  | .portLinkDown p present los txFault => Sys2Proof.Machine.execPortLinkDown p present los txFault s
  | .pagerVisit axis => Sys2Proof.Machine.execPagerVisit axis s
  | .farChainSweep axis => Sys2Proof.Machine.execFarChainSweep axis s
  | .commit => Sys2Proof.Machine.execCommit s
  | .edgeExecution => Sys2Proof.Machine.execEdgeExecution s
  | .markInstant => Sys2Proof.Machine.execMarkInstant s
  | .openingMeasurement k o => Sys2Proof.Machine.execOpeningMeasurement k o s
  | .closingMeasurement k o => Sys2Proof.Machine.execClosingMeasurement k o s
  | .fingerprint k f => Sys2Proof.Machine.execFingerprint k f s
  | .probe b res => Sys2Proof.Machine.execProbe b res s
  | .delayTableSave => Sys2Proof.Machine.execDelayTableSave s
  | .forget k => Sys2Proof.Machine.execForget k s
  | .load k => Sys2Proof.Machine.execLoad k s
  | .boostEnd k reached mj rail => Sys2Proof.Machine.execBoostEnd k reached mj rail s
  | .peakEnd k reached => Sys2Proof.Machine.execPeakEnd k reached s
  | .decayEnd k retMj clampMj => Sys2Proof.Machine.execDecayEnd k retMj clampMj s
  | .boostStart b rail => Sys2Proof.Machine.execBoostStart b rail s
  | .boostWaitMax k => Sys2Proof.Machine.execBoostWaitMax k s
  | .minimumGapEnd k => Sys2Proof.Machine.execMinimumGapEnd k s
  | .pwmPulseStart k => Sys2Proof.Machine.execPwmPulseStart k s
  | .pwmPulseEnd k => Sys2Proof.Machine.execPwmPulseEnd k s
  | .holdFactorRaise who ma => Sys2Proof.Machine.execHoldFactorRaise who ma s
  | .dutyCut k => Sys2Proof.Machine.execDutyCut k s
  | .dutyCutRelease k => Sys2Proof.Machine.execDutyCutRelease k s
  | .supWarn who mv => Sys2Proof.Machine.execSupWarn who mv s
  | .vsolWarningEnd who mv => Sys2Proof.Machine.execVsolWarningEnd who mv s
  | .reducedBudgetEnd who => Sys2Proof.Machine.execReducedBudgetEnd who s
  | .valveOpenFault k => Sys2Proof.Machine.execValveOpenFault k s
  | .valveShort k => Sys2Proof.Machine.execValveShort k s
  | .driveOvertemp who => Sys2Proof.Machine.execDriveOvertemp who s
  | .inputOc who => Sys2Proof.Machine.execInputOc who s
  | .bankSw b => Sys2Proof.Machine.execBankSw b s
  | .vsolUv who mv => Sys2Proof.Machine.execVsolUv who mv s
  | .vsolUvRelease who mv => Sys2Proof.Machine.execVsolUvRelease who mv s
  | .bwOv who mv => Sys2Proof.Machine.execBwOv who mv s
  | .bwLow who mv => Sys2Proof.Machine.execBwLow who mv s
  | .vdrvFaultClear k mask => Sys2Proof.Machine.execVdrvFaultClear k mask s
  | .bellowsFull who mv => Sys2Proof.Machine.execBellowsFull who mv s
  | .bellowsConverterStart who vsol rail => Sys2Proof.Machine.execBellowsConverterStart who vsol rail s
  | .resetpolWrite c w => Sys2Proof.Machine.execResetpolWrite c w s
  | .holdMsExpiry c => Sys2Proof.Machine.execHoldMsExpiry c s
  | .coverageEvaluation => Sys2Proof.Machine.execCoverageEvaluation s
  | .tileFetch => Sys2Proof.Machine.execTileFetch s
  | .tileWriteBack => Sys2Proof.Machine.execTileWriteBack s
  | .tileLoad layer => Sys2Proof.Machine.execTileLoad layer s
  | .tileExport layer => Sys2Proof.Machine.execTileExport layer s
  | .tileDelete layer => Sys2Proof.Machine.execTileDelete layer s
  | .newJob => Sys2Proof.Machine.execNewJob s
  | .jobConfirm => Sys2Proof.Machine.execJobConfirm s
  | .closeJob => Sys2Proof.Machine.execCloseJob s
  | .archive => Sys2Proof.Machine.execArchive s
  | .periodicArchive => Sys2Proof.Machine.execPeriodicArchive s
  | .restore => Sys2Proof.Machine.execRestore s
  | .archDone => Sys2Proof.Machine.execArchDone s
  | .loopSample => Sys2Proof.Machine.execLoopSample s
  | .spValue n w => Sys2Proof.Machine.execSpValue n w s
  | .fbSwValue n w => Sys2Proof.Machine.execFbSwValue n w s
  | .traceStart => Sys2Proof.Machine.execTraceStart s
  | .traceStop => Sys2Proof.Machine.execTraceStop s
  | .injStart => Sys2Proof.Machine.execInjStart s
  | .injStop => Sys2Proof.Machine.execInjStop s
  | .saveBanks n => Sys2Proof.Machine.execSaveBanks n s
  | .acquisitionPass p => Sys2Proof.Machine.execAcquisitionPass p s
  | .correlatorDump c d => Sys2Proof.Machine.execCorrelatorDump c d s
  | .navFifoRead c => Sys2Proof.Machine.execNavFifoRead c s
  | .channelStart c w => Sys2Proof.Machine.execChannelStart c w s
  | .observableEpoch recs => Sys2Proof.Machine.execObservableEpoch recs s
  | .pvtSolution sol => Sys2Proof.Machine.execPvtSolution sol s
  | .antennaOpen ma => Sys2Proof.Machine.execAntennaOpen ma s
  | .antennaShort ma => Sys2Proof.Machine.execAntennaShort ma s
  | .antennaOk ma => Sys2Proof.Machine.execAntennaOk ma s
  | .antennaBiasRetry => Sys2Proof.Machine.execAntennaBiasRetry s
  | .rtcmWord w => Sys2Proof.Machine.execRtcmWord w s
  | .rtcmByte b => Sys2Proof.Machine.execRtcmByte b s
  | .timeHoldover => Sys2Proof.Machine.execTimeHoldover s
  | .timeFree => Sys2Proof.Machine.execTimeFree s
  | .slewDone => Sys2Proof.Machine.execSlewDone s
  | .timePulse => Sys2Proof.Machine.execTimePulse s
  | .burstStart => Sys2Proof.Machine.execBurstStart s
  | .burstEnd => Sys2Proof.Machine.execBurstEnd s
  | .gnssRestart => Sys2Proof.Machine.execGnssRestart s
  | .clearNav => Sys2Proof.Machine.execClearNav s
  | .saveNav => Sys2Proof.Machine.execSaveNav s
  | .navPeriodicSave => Sys2Proof.Machine.execNavPeriodicSave s
  | .linkFrame q f => Sys2Proof.Machine.execLinkFrame q f s
  | .linkFrameSend q => Sys2Proof.Machine.execLinkFrameSend q s
  | .timeFrame q f => Sys2Proof.Machine.execTimeFrame q f s
  | .timeFrameSend => Sys2Proof.Machine.execTimeFrameSend s
  | .presence q f => Sys2Proof.Machine.execPresence q f s
  | .presenceSend topology => Sys2Proof.Machine.execPresenceSend topology s
  | .dupIdClear => Sys2Proof.Machine.execDupIdClear s
  | .routeExpiry => Sys2Proof.Machine.execRouteExpiry s
  | .fluePortUp q closes => Sys2Proof.Machine.execFluePortUp q closes s
  | .fluePortDown q => Sys2Proof.Machine.execFluePortDown q s
  | .gapPlacement => Sys2Proof.Machine.execGapPlacement s
  | .placeGap => Sys2Proof.Machine.execPlaceGap s
  | .masterLost => Sys2Proof.Machine.execMasterLost s
  | .masterTakeover => Sys2Proof.Machine.execMasterTakeover s
  | .positionEnumeration => Sys2Proof.Machine.execPositionEnumeration s
  | .renumber => Sys2Proof.Machine.execRenumber s
  | .axisFrame q f => Sys2Proof.Machine.execAxisFrame q f s
  | .batchFrame q f => Sys2Proof.Machine.execBatchFrame q f s
  | .returnFrame q f => Sys2Proof.Machine.execReturnFrame q f s
  | .mgmtFrame q f msg => Sys2Proof.Machine.execMgmtFrame q f msg s
  | .mgmtRelayDatagram p mac ip payload msg => Sys2Proof.Machine.execMgmtRelayDatagram p mac ip payload msg s
  | .imageFrame q f writeOk => Sys2Proof.Machine.execImageFrame q f writeOk s
  | .tpin rising => Sys2Proof.Machine.execTpin rising s
  | .upstreamFrame frame => Sys2Proof.Machine.execUpstreamFrame frame s
  | .downstreamFrame arrives => Sys2Proof.Machine.execDownstreamFrame arrives s
  | .fieldBarrierFault => Sys2Proof.Machine.execFieldBarrierFault s
  | .logicBarrierFault => Sys2Proof.Machine.execLogicBarrierFault s
  | .barrierRelease side => Sys2Proof.Machine.execBarrierRelease side s
  | .fiEdge n level slot => Sys2Proof.Machine.execFiEdge n level slot s
  | .foOvercurrent n => Sys2Proof.Machine.execFoOvercurrent n s
  | .foShort n => Sys2Proof.Machine.execFoShort n s
  | .foOpen n present => Sys2Proof.Machine.execFoOpen n present s
  | .foOvertemp n => Sys2Proof.Machine.execFoOvertemp n s
  | .foFaultClear n mask => Sys2Proof.Machine.execFoFaultClear n mask s
  | .vfWarn mv => Sys2Proof.Machine.execVfWarn mv s
  | .vfieldNormal mv => Sys2Proof.Machine.execVfieldNormal mv s
  | .vfCut mv => Sys2Proof.Machine.execVfCut mv s
  | .vfieldRestore mv => Sys2Proof.Machine.execVfieldRestore mv s
  | .foReleased => Sys2Proof.Machine.execFoReleased s
  | .ackRelease => Sys2Proof.Machine.execAckRelease s
  | .vfOver mv => Sys2Proof.Machine.execVfOver mv s
  | .aiConversion codes => Sys2Proof.Machine.execAiConversion codes s
  | .aiFlag n c => Sys2Proof.Machine.execAiFlag n c s
  | .aiFlagClear n c => Sys2Proof.Machine.execAiFlagClear n c s
  | .burdenOpen n => Sys2Proof.Machine.execBurdenOpen n s
  | .burdenReconnect n => Sys2Proof.Machine.execBurdenReconnect n s
  | .ssOc n => Sys2Proof.Machine.execSsOc n s
  | .sensorSupplyControl w => Sys2Proof.Machine.execSensorSupplyControl w s
  | .lsShort n => Sys2Proof.Machine.execLsShort n s
  | .overload n => Sys2Proof.Machine.execOverload n s
  | .lsOvertemp n => Sys2Proof.Machine.execLsOvertemp n s
  | .lsOpen n present => Sys2Proof.Machine.execLsOpen n present s
  | .vlsUv => Sys2Proof.Machine.execVlsUv s
  | .vlsUvRelease => Sys2Proof.Machine.execVlsUvRelease s
  | .vlsOc => Sys2Proof.Machine.execVlsOc s
  | .retryWaitEnd n => Sys2Proof.Machine.execRetryWaitEnd n s
  | .retryCounterReset n => Sys2Proof.Machine.execRetryCounterReset n s
  | .thermalRelease n => Sys2Proof.Machine.execThermalRelease n s
  | .lswFaultClear n mask => Sys2Proof.Machine.execLswFaultClear n mask s
  | .limpEntry inputs => Sys2Proof.Machine.execLimpEntry inputs s
  | .limpInputChange inputs => Sys2Proof.Machine.execLimpInputChange inputs s
  | .limpExit => Sys2Proof.Machine.execLimpExit s
  | .controllerEnable c w => Sys2Proof.Machine.execControllerEnable c w s
  | .controllerDisable c w => Sys2Proof.Machine.execControllerDisable c w s
  | .busIntegration c => Sys2Proof.Machine.execBusIntegration c s
  | .frameReceived c f => Sys2Proof.Machine.execFrameReceived c f s
  | .txReq c who => Sys2Proof.Machine.execTxReq c who s
  | .txAbort c who own => Sys2Proof.Machine.execTxAbort c who own s
  | .transmissionDone c => Sys2Proof.Machine.execTransmissionDone c s
  | .failedAttempt c k => Sys2Proof.Machine.execFailedAttempt c k s
  | .recover c => Sys2Proof.Machine.execRecover c s
  | .recoveryDone c => Sys2Proof.Machine.execRecoveryDone c s
  | .tunnelRead c => Sys2Proof.Machine.execTunnelRead c s
  | .tunnelWrite c => Sys2Proof.Machine.execTunnelWrite c s
  | .tunnelEnable c w => Sys2Proof.Machine.execTunnelEnable c w s
  | .ashRead who seq => Sys2Proof.Machine.execAshRead who seq s
  | .applicationPost who code => Sys2Proof.Machine.execApplicationPost who code s
  | .ashClear who key => Sys2Proof.Machine.execAshClear who key s
  | .clearing => Sys2Proof.Machine.execClearing s
  | .lifecycle n r => Sys2Proof.Machine.execLifecycle n r s
  | .keyEnrolment n r => Sys2Proof.Machine.execKeyEnrolment n r s
  | .keyRevocation n r => Sys2Proof.Machine.execKeyRevocation n r s
  | .begin_ n bs => Sys2Proof.Machine.execBegin n bs s
  | .block n off bs writeOk => Sys2Proof.Machine.execBlock n off bs writeOk s
  | .end_ n => Sys2Proof.Machine.execEnd n s
  | .abort n => Sys2Proof.Machine.execAbort n s
  | .activate who force disarm sigOk readbackOk => Sys2Proof.Machine.execActivate who force disarm sigOk readbackOk s
  | .activationPause fwSame => Sys2Proof.Machine.execActivationPause fwSame s
  | .warmRestart => Sys2Proof.Machine.execWarmRestart s
  | .confirm who => Sys2Proof.Machine.execConfirm who s
  | .rollback who => Sys2Proof.Machine.execRollback who s
  | .kindlingBoot v => Sys2Proof.Machine.execKindlingBoot v s
  | .bootWatchdog => Sys2Proof.Machine.execBootWatchdog s
  | .vbatValid mv v => Sys2Proof.Machine.execVbatValid mv v s
  | .settingsRestore => Sys2Proof.Machine.execSettingsRestore s
  | .arm who => Sys2Proof.Machine.execArm who s
  | .disarm who => Sys2Proof.Machine.execDisarm who s
  | .armWdKick => Sys2Proof.Machine.execArmWdKick s
  | .wdDisarm => Sys2Proof.Machine.execWdDisarm s
  | .vbatWarn mv => Sys2Proof.Machine.execVbatWarn mv s
  | .vbatOk mv => Sys2Proof.Machine.execVbatOk mv s
  | .vbatLow mv => Sys2Proof.Machine.execVbatLow mv s
  | .vbatOv mv => Sys2Proof.Machine.execVbatOv mv s
  | .reset who => Sys2Proof.Machine.execReset who s
  | .firmwareWatchdog => Sys2Proof.Machine.execFirmwareWatchdog s
  | .debugReset => Sys2Proof.Machine.execDebugReset s
  | .dieHot temp => Sys2Proof.Machine.execDieHot temp s
  | .thermal temp => Sys2Proof.Machine.execThermal temp s
  | .resetRelease v => Sys2Proof.Machine.execResetRelease v s
  | .sleep who => Sys2Proof.Machine.execSleep who s
  | .wakeFollowSleep => Sys2Proof.Machine.execWakeFollowSleep s
  | .wake src v => Sys2Proof.Machine.execWake src v s
  | .nandRefresh p => Sys2Proof.Machine.execNandRefresh p s
  | .dramScrub dram sram => Sys2Proof.Machine.execDramScrub dram sram s
  | .powerOn => Sys2Proof.Machine.execPowerOn s
  | .pd0Lost => Sys2Proof.Machine.execPd0Lost s
  | .flueFrameDiscard q k => Sys2Proof.Machine.execFlueFrameDiscard q k s
  | .errorFrame c primary => Sys2Proof.Machine.execErrorFrame c primary s
  | .vlsOcClear mask => Sys2Proof.Machine.execVlsOcClear mask s
  | .ssOcClear mask => Sys2Proof.Machine.execSsOcClear mask s
  | .debugConnectionReset => Sys2Proof.Machine.execDebugConnectionReset s
  | .fullEnd who mv => Sys2Proof.Machine.execFullEnd who mv s
  | .converterStop who vsol => Sys2Proof.Machine.execConverterStop who vsol s
  | .dieOtEnd d => Sys2Proof.Machine.execDieOtEnd d s

end Sys2Proof.Machine
end

