-- ==== Sys2Proof/Machine/Step.lean ====
section
/-! DEFINITION. One step: the command in front of the queue is taken and carried out with the queue's rest; on an empty queue one
DCLK tick passes (log entry 6). -/

namespace Sys2Proof.Machine

/-- Nothing is commanded: one tick passes. -/
def idle (s : State) : State := s.onModule Module.tick

def step (s : State) : Host.Outcome State Fault Refusal :=
  match s.pending with
  | [] => .next (idle s)
  | c :: rest => exec c { s with pending := rest }

/-- The state with the command that a word spells in front of its queue; no row of the table has bits, so it is the state itself. -/
def State.withFetchWord (s : State) (nbits w : Nat) : State :=
  match Sys2Proof.decodeTableWord nbits w with
  | some c => { s with pending := c :: s.pending }
  | none => s

end Sys2Proof.Machine
end

