-- ==== Sys2Proof/Safety.lean ====
section
/-! DEFINITION. The terms that claims use: what an answered command leaves, frames, and the invariants of a run. -/

namespace Sys2Proof.Machine

/-- Command `c` answers a next state at `s`, and `P` holds of it. -/
def Answers (c : Instr) (s : State) (P : State → Prop) : Prop := ∃ t, exec c s = .next t ∧ P t

/-- Every byte of memory reads as before. -/
def sameMemory (s t : State) : Prop := ∀ a, t.mem.rd a = s.mem.rd a

/-- The queue of waiting commands is as before. -/
def sameQueue (s t : State) : Prop := t.pending = s.pending

/-- Every register of the store but those that `but` names holds what it held. -/
def sameStore (m m' : Module) (but : Nat → Bool) : Prop := ∀ off, but off = false → m'.rd off = m.rd off

/-- A register that neither the events in the store nor the coverage engine flag or count in when they react to a command. -/
def besideEvents (off : Nat) : Prop := off / 0x100000 ≠ 3 ∧ off / 0x100000 ≠ 7 ∧ off ≠ Reg.INGEST_INT_STATUS

/-- Register `off` of row `d`, reached through a view, is one that a write acts on by its access codes alone (R8), at a state that lets the
write through. -/
def plainReg (m : Module) (priv : Bool) (off : Nat) (d : RegDef) (ix : List Nat) : Prop :=
  regAt off = some (d, ix) ∧ off < viewLen ∧ off % 4 = 0 ∧ absent m off = false ∧ restoringAt m off = false ∧
  w32 (d.acc.writable priv) ≠ 0 ∧ d.base ≠ Reg.COVER_TILE_CMD ∧ d.base ≠ Reg.SEC_DEL_CMD ∧ besideEvents off ∧
  ∀ who w, writeSpecial ⟨who, priv, off, d, ix, w⟩ = none

/-- The value such a register takes when `w` is written over `old` (R8 to R10): RW bits, and RWP and PO bits in the privileged view, take the
written value, a 1 in a W1S bit sets it, a 1 in a W1C bit clears it, and every other bit stands. -/
def plainValue (d : RegDef) (priv : Bool) (old w : Word) : Word :=
  let set := w32 (d.acc.rw ||| (if priv then d.acc.rwp ||| d.acc.po else 0))
  (((old &&& ~~~ set) ||| (w &&& set)) ||| (w &&& w32 d.acc.w1s)) &&& ~~~ (w &&& w32 d.acc.w1c)

/-- Request `r` of session `n` is a new one: the session is ACTIVE, has not answered its SEQ and has executed no higher one (R66). -/
def newRequest (m : Module) (n : Fin 8) (r : SessReq) : Prop :=
  sessActive m n = true ∧ (Arr.at' m.sess n).replies.find? (·.1 == r.seq) = none ∧
  ∀ k, (Arr.at' m.sess n).maxSeq = some k → k < r.seq

/-- Address `a` lies outside the tile buffer that a write request of session `n` would export to (R212): the buffer at COVER_TILE_ADDR as
the words before the one for COVER_TILE_CMD leave it. -/
def requestSpares (n : Fin 8) (r : SessReq) (s : State) (a : Nat) : Prop :=
  ∀ k < r.count, r.offset + 4 * k = Reg.COVER_TILE_CMD →
    let x := tileAddr (reqWrite (.session n) r.view r.offset (r.data.take k) (s.onModule (heard · n))).m
    a < x ∨ x + 8192 ≤ a

/-- The commands through which bytes of memory may be stored: those that write registers on behalf of an initiator (COVER_TILE_CMD
exports to memory) or store themselves. -/
def mayStore : Instr → Bool
  | .registerWrite _ _ | .ecall _ _ | .write _ _ | .modify _ _ | .tunnelWrite _ | .tileExport _ => true
  | .mgmtFrame _ _ (some (.request _ r)) | .mgmtRelayDatagram _ _ _ _ (some (.request _ r)) => r.op == 2 || r.op == 3
  | _ => false

/-- What a judged measurement `mm` of one side of learning channel `h` does (R166 to R168), with the settings `c` kept for it and profile `p`:
it is counted once, as valid or as rejected; below 16 valid ones the estimate is their mean; from then on it moves by the
filter's share of the difference, limited in step and held in the bounds; a rejected one leaves it. -/
def measureTaken (m m' : Module) (h : Nat) (opening : Bool) (c : Sparse Word) (p mm : Nat) : Prop :=
  let x := (learnCh m h).side opening
  let y := (learnCh m' h).side opening
  let f := keptCfg c (Reg.LEARN_PF_FILTER p)
  let lim : Int := (fld f 23 16 * 40 : Nat)
  y.lastM = mm ∧
  m'.rd Reg.LEARN_PUB_VALID = (if y.lastCode = 0 then m.rd Reg.LEARN_PUB_VALID + 1 else m.rd Reg.LEARN_PUB_VALID) ∧
  m'.rd Reg.LEARN_PUB_REJECT = (if y.lastCode = 0 then m.rd Reg.LEARN_PUB_REJECT else m.rd Reg.LEARN_PUB_REJECT + 1) ∧
  (y.lastCode ≠ 0 → y.lastCode ≠ 16 → y.est = x.est ∧ y.n = x.n) ∧
  (y.lastCode = 0 → ((learnCh m h).phase = .cold ∨ (learnCh m h).phase = .warm) → m.cb (Reg.LEARN_CH_CFG h) 8 = false →
    (x.n < 16 → y.n = x.n + 1 ∧ y.sum = x.sum + mm ∧ y.est = (rdiv (y.sum : Nat) y.n).toNat) ∧
    (16 ≤ x.n → y.n = satU 8 (x.n + 1) ∧
      y.est = (clampI (boundsOf c p opening).1 (boundsOf c p opening).2
        ((x.est : Int) + clampI (-lim) lim (rdiv ((mm : Int) - x.est) (2 ^ fld f 27 24)))).toNat))

/-- The families of commands, after the sections of the spec that give them (03 and 02, 04, 05 to 07, 08 to 19). -/
inductive Family where
  | mantel | events | power | axes | learning | valves | coverage | loops | gnss | flue | security | field | switches | can | ash
  deriving DecidableEq, Repr

/-- The family of a command. -/
def familyOf : Instr → Family
  | .mantelCycleBoundary .. | .apply .. | .pendingStageTaken .. | .registerWrite .. | .snapshotLatchRead .. | .tunnelSequenceRead ..
  | .imageLoad .. | .structureSwap | .check | .candDone .. | .mtimecmpInterrupt .. | .claim .. | .complete .. | .ecall .. | .msip ..
  | .sessionOpenRequest .. | .challengeResponse .. | .challengeTimeout .. | .read .. | .write .. | .modify .. | .sessionClose ..
  | .sessionInactivityTimeout .. | .powerOn | .debugConnectionReset => .mantel
  | .uncorrectableError .. | .batch .. | .fire | .openEv | .closeEv | .level | .setpt | .mark | .cancel | .replace | .fence
  | .eventFiling | .notificationFrame .. | .noteRetx .. | .update | .ringClose .. | .discardNotes .. | .neighbourSolicitation ..
  | .echoRequest .. | .frameDrop .. | .portLinkUp .. | .portLinkDown .. | .pagerVisit .. | .farChainSweep .. | .commit
  | .edgeExecution | .markInstant => .events
  | .pd2ResetRelease .. | .vbatValid .. | .settingsRestore | .arm .. | .disarm .. | .armWdKick | .wdDisarm | .vbatWarn .. | .vbatOk ..
  | .vbatLow .. | .vbatOv .. | .reset .. | .firmwareWatchdog | .debugReset | .dieHot .. | .thermal .. | .resetRelease .. | .sleep ..
  | .wakeFollowSleep | .wake .. | .nandRefresh .. | .dramScrub .. | .pd0Lost => .power
  | .sourceUpdate .. | .srcFault .. | .sourceFaultCleared .. | .gnssGap .. | .coastTimeExpiry .. | .coastDistReached ..
  | .rangeExceeded .. | .still .. | .index .. | .restart .. | .saveOffset .. | .clearCounts .. | .axisFrameSend .. => .axes
  | .openingMeasurement .. | .closingMeasurement .. | .fingerprint .. | .probe .. | .delayTableSave | .forget .. | .load .. => .learning
  | .boostEnd .. | .peakEnd .. | .decayEnd .. | .boostStart .. | .boostWaitMax .. | .minimumGapEnd .. | .pwmPulseStart ..
  | .pwmPulseEnd .. | .holdFactorRaise .. | .dutyCut .. | .dutyCutRelease .. | .supWarn .. | .vsolWarningEnd .. | .reducedBudgetEnd ..
  | .valveOpenFault .. | .valveShort .. | .driveOvertemp .. | .inputOc .. | .bankSw .. | .vsolUv .. | .vsolUvRelease .. | .bwOv ..
  | .bwLow .. | .vdrvFaultClear .. | .bellowsFull .. | .bellowsConverterStart .. | .resetpolWrite .. | .holdMsExpiry .. | .fullEnd ..
  | .converterStop .. | .dieOtEnd .. => .valves
  | .coverageEvaluation | .tileFetch | .tileWriteBack | .tileLoad .. | .tileExport .. | .tileDelete .. | .newJob | .jobConfirm
  | .closeJob | .archive | .periodicArchive | .restore | .archDone => .coverage
  | .loopSample | .spValue .. | .fbSwValue .. | .traceStart | .traceStop | .injStart | .injStop | .saveBanks .. => .loops
  | .acquisitionPass .. | .correlatorDump .. | .navFifoRead .. | .channelStart .. | .observableEpoch .. | .pvtSolution ..
  | .antennaOpen .. | .antennaShort .. | .antennaOk .. | .antennaBiasRetry | .rtcmWord .. | .rtcmByte .. | .timeHoldover | .timeFree
  | .slewDone | .timePulse | .burstStart | .burstEnd | .gnssRestart | .clearNav | .saveNav | .navPeriodicSave => .gnss
  | .linkFrame .. | .linkFrameSend .. | .timeFrame .. | .timeFrameSend | .presence .. | .presenceSend .. | .dupIdClear | .routeExpiry
  | .fluePortUp .. | .fluePortDown .. | .gapPlacement | .placeGap | .masterLost | .masterTakeover | .positionEnumeration | .renumber
  | .axisFrame .. | .batchFrame .. | .returnFrame .. | .mgmtFrame .. | .mgmtRelayDatagram .. | .tpin .. | .flueFrameDiscard .. => .flue
  | .imageFrame .. | .lifecycle .. | .keyEnrolment .. | .keyRevocation .. | .begin_ .. | .block .. | .end_ .. | .abort ..
  | .activate .. | .activationPause .. | .warmRestart | .confirm .. | .rollback .. | .kindlingBoot .. | .bootWatchdog => .security
  | .upstreamFrame .. | .downstreamFrame .. | .fieldBarrierFault | .logicBarrierFault | .barrierRelease .. | .fiEdge ..
  | .foOvercurrent .. | .foShort .. | .foOpen .. | .foOvertemp .. | .foFaultClear .. | .vfWarn .. | .vfieldNormal .. | .vfCut ..
  | .vfieldRestore .. | .foReleased | .ackRelease | .vfOver .. | .aiConversion .. | .aiFlag .. | .aiFlagClear .. | .burdenOpen ..
  | .burdenReconnect .. | .ssOc .. | .sensorSupplyControl .. | .ssOcClear .. => .field
  | .lsShort .. | .overload .. | .lsOvertemp .. | .lsOpen .. | .vlsUv | .vlsUvRelease | .vlsOc | .retryWaitEnd ..
  | .retryCounterReset .. | .thermalRelease .. | .lswFaultClear .. | .limpEntry .. | .limpInputChange .. | .limpExit | .vlsOcClear .. =>
    .switches
  | .controllerEnable .. | .controllerDisable .. | .busIntegration .. | .frameReceived .. | .txReq .. | .txAbort ..
  | .transmissionDone .. | .failedAttempt .. | .recover .. | .recoveryDone .. | .tunnelRead .. | .tunnelWrite .. | .tunnelEnable ..
  | .errorFrame .. => .can
  | .ashRead .. | .applicationPost .. | .ashClear .. | .clearing => .ash

/-- The parts of the module: its units' states, module time, what has been sent, the free values handed out, and of the registers
the values in force, the pending stages, the published sets and the holding registers. -/
inductive Part where
  | time | core | plic | sess | grate | axes | hob | ingest | learn | vdrv | cover | loops | gnss
  | flue | can | lsw | fio | ash | sec | pwr | sent | free | inForce | stages | published | holding
  deriving DecidableEq, Repr

/-- A part is the same in two modules. -/
def Part.same (m m' : Module) : Part → Prop
  | .time => m'.time = m.time
  | .core => m'.core = m.core
  | .plic => m'.plic = m.plic
  | .sess => m'.sess = m.sess
  | .grate => m'.grate = m.grate
  | .axes => m'.axes = m.axes
  | .hob => m'.hob = m.hob
  | .ingest => m'.ingest = m.ingest
  | .learn => m'.learn = m.learn
  | .vdrv => m'.vdrv = m.vdrv
  | .cover => m'.cover = m.cover
  | .loops => m'.loops = m.loops
  | .gnss => m'.gnss = m.gnss
  | .flue => m'.flue = m.flue
  | .can => m'.can = m.can
  | .lsw => m'.lsw = m.lsw
  | .fio => m'.fio = m.fio
  | .ash => m'.ash = m.ash
  | .sec => m'.sec = m.sec
  | .pwr => m'.pwr = m.pwr
  | .sent => m'.out = m.out
  | .free => m'.freeCtr = m.freeCtr
  | .inForce => m'.regs.act = m.regs.act
  | .stages => m'.regs.pend = m.regs.pend
  | .published => m'.regs.pub = m.regs.pub ∧ m'.regs.pubBack = m.regs.pubBack
  | .holding => m'.regs.hold = m.regs.hold

/-- The parts that a command may write. -/
def touches : Instr → List Part
  | .mantelCycleBoundary .. => [.time, .sess, .grate, .axes, .hob, .ingest, .vdrv, .cover, .fio, .ash, .sec, .inForce, .stages, .published]
  | .apply .. => [.stages]
  | .pendingStageTaken .. => [.time, .axes, .hob, .ingest, .fio, .sec, .inForce, .stages]
  | .registerWrite .. | .tunnelRead .. | .tunnelWrite .. | .sleep .. | .wakeFollowSleep =>
    [.time, .core, .plic, .sess, .grate, .axes, .hob, .ingest, .learn, .vdrv, .cover, .loops, .gnss, .flue, .can, .lsw, .fio, .ash, .sec, .pwr, .free, .inForce, .stages, .published, .holding]
  | .snapshotLatchRead .. => [.core, .plic, .gnss, .sent, .free, .holding]
  | .tunnelSequenceRead .. => [.gnss, .free, .holding]
  | .imageLoad .. | .candDone .. | .activate .. => [.grate, .ash, .sec]
  | .structureSwap =>
    [.time, .sess, .grate, .axes, .hob, .ingest, .learn, .vdrv, .cover, .loops, .can, .lsw, .fio, .ash, .sec, .inForce, .stages, .holding]
  | .check => [.grate]
  | .uncorrectableError .. =>
    [.time, .grate, .axes, .hob, .ingest, .learn, .vdrv, .cover, .loops, .flue, .lsw, .fio, .ash, .sec, .pwr, .inForce, .stages, .published]
  | .pd2ResetRelease .. => [.time, .grate, .learn, .vdrv, .lsw, .fio, .ash, .pwr]
  | .mtimecmpInterrupt .. => [.time, .core]
  | .claim .. => [.plic, .sent]
  | .complete .. => [.plic]
  | .ecall .. | .read .. | .write .. | .modify .. | .mgmtFrame .. | .mgmtRelayDatagram .. | .lifecycle .. =>
    [.time, .core, .plic, .sess, .grate, .axes, .hob, .ingest, .learn, .vdrv, .cover, .loops, .gnss, .flue, .can, .lsw, .fio, .ash, .sec, .pwr, .sent, .free, .inForce, .stages, .published, .holding]
  | .msip .. => [.core]
  | .sessionOpenRequest .. => [.sess, .flue, .sent, .free]
  | .challengeResponse .. => [.sess, .flue, .ash, .sent, .holding]
  | .challengeTimeout .. => [.time, .sess, .flue, .ash, .sent, .free, .holding]
  | .sessionClose .. => [.sess, .ash, .holding]
  | .sessionInactivityTimeout .. => [.time, .sess, .ash, .holding]
  | .sourceUpdate .. => [.time, .axes, .hob, .ingest, .cover, .sec, .free, .inForce, .stages]
  | .srcFault .. | .coastTimeExpiry .. | .coastDistReached .. | .rangeExceeded .. | .restart .. | .pagerVisit .. =>
    [.time, .axes, .hob, .ingest, .vdrv, .cover]
  | .sourceFaultCleared .. | .gnssGap .. => [.time, .axes]
  | .still .. | .index .. => [.time, .axes, .hob]
  | .saveOffset .. => [.axes]
  | .clearCounts .. | .frameDrop .. | .sensorSupplyControl .. => []
  | .axisFrameSend .. => [.time, .axes, .flue, .sent]
  | .batch .. | .batchFrame .. => [.hob, .ingest, .flue, .sent]
  | .fire | .openEv | .closeEv | .level | .setpt | .mark | .cancel | .replace | .fence => [.time, .hob, .ingest, .cover]
  | .eventFiling | .commit | .markInstant | .dutyCutRelease .. => [.time, .hob, .ingest, .vdrv, .cover]
  | .notificationFrame .. | .noteRetx .. | .update => [.time, .ingest, .flue, .sent]
  | .ringClose .. | .discardNotes .. | .portLinkUp .. | .portLinkDown .. => [.ingest]
  | .neighbourSolicitation .. | .echoRequest .. => [.sent]
  | .farChainSweep .. => [.time, .axes, .hob, .ingest]
  | .edgeExecution | .holdMsExpiry .. => [.time, .hob, .ingest, .learn, .vdrv, .cover, .lsw, .fio]
  | .openingMeasurement .. | .closingMeasurement .. => [.time, .hob, .learn, .cover]
  | .fingerprint .. => [.hob, .learn, .free]
  | .probe .. => [.time, .hob, .learn, .pwr, .free]
  | .delayTableSave => [.time, .learn]
  | .forget .. | .load .. => [.hob, .learn]
  | .boostEnd .. | .peakEnd .. | .decayEnd .. | .boostStart .. | .boostWaitMax .. | .minimumGapEnd .. | .pwmPulseStart ..
  | .pwmPulseEnd .. | .dutyCut .. | .vsolUv .. => [.time, .hob, .ingest, .learn, .vdrv, .cover]
  | .holdFactorRaise .. | .reducedBudgetEnd .. | .bwOv .. | .bellowsFull .. => [.time, .vdrv]
  | .supWarn .. => [.hob, .ingest, .learn, .vdrv, .cover, .ash]
  | .vsolWarningEnd .. => [.vdrv, .ash]
  | .valveOpenFault .. | .valveShort .. | .driveOvertemp .. | .inputOc .. | .bankSw .. => [.time, .hob, .ingest, .learn, .vdrv, .cover, .ash]
  | .vsolUvRelease .. => [.hob, .ingest, .vdrv, .cover]
  | .bwLow .. | .bellowsConverterStart .. | .resetpolWrite .. | .fullEnd .. | .converterStop .. => [.vdrv]
  | .vdrvFaultClear .. | .limpInputChange .. | .limpExit => [.hob, .ingest, .learn, .vdrv, .cover, .lsw, .fio]
  | .coverageEvaluation => [.time, .hob, .ingest, .vdrv, .cover, .sec, .free, .inForce, .stages]
  | .tileFetch | .tileWriteBack | .tileLoad .. | .tileExport .. | .tileDelete .. => [.cover]
  | .newJob | .jobConfirm | .closeJob | .archive | .restore => [.time, .hob, .ingest, .cover, .free]
  | .periodicArchive => [.time, .cover]
  | .archDone => [.cover, .free, .inForce]
  | .loopSample => [.time, .hob, .ingest, .learn, .vdrv, .cover, .loops, .can, .lsw, .fio, .sec, .inForce, .stages]
  | .spValue .. | .fbSwValue .. | .traceStart | .traceStop | .injStart | .injStop | .saveBanks .. => [.loops]
  | .acquisitionPass .. | .correlatorDump .. | .channelStart .. | .antennaOpen .. | .antennaShort .. | .antennaOk .. | .rtcmWord ..
  | .rtcmByte .. | .gnssRestart | .clearNav | .saveNav => [.gnss]
  | .navFifoRead .. => [.gnss, .sent]
  | .observableEpoch .. => [.time, .gnss, .sec, .inForce, .stages]
  | .pvtSolution .. => [.time, .axes, .hob, .ingest, .cover, .gnss, .sec, .free, .inForce, .stages]
  | .antennaBiasRetry | .timeHoldover | .timeFree | .slewDone | .burstStart | .burstEnd | .navPeriodicSave => [.time, .gnss]
  | .timePulse => [.time, .gnss, .sent]
  | .linkFrame .. | .fluePortUp .. | .gapPlacement | .placeGap | .renumber | .tpin .. => [.flue]
  | .linkFrameSend .. | .timeFrameSend | .presenceSend .. | .fluePortDown .. | .flueFrameDiscard .. => [.time, .flue, .sent]
  | .timeFrame .. => [.time, .axes, .hob, .ingest, .vdrv, .loops, .gnss, .flue, .ash, .pwr, .sent]
  | .presence .. | .returnFrame .. => [.flue, .sent]
  | .dupIdClear | .routeExpiry | .masterLost | .positionEnumeration => [.time, .flue]
  | .masterTakeover => [.time, .gnss, .flue]
  | .axisFrame .. => [.time, .axes, .hob, .ingest, .vdrv, .cover, .flue, .sec, .sent, .inForce, .stages]
  | .imageFrame .. => [.flue, .ash, .sec, .sent]
  | .upstreamFrame .. => [.time, .axes, .hob, .ingest, .vdrv, .cover, .loops, .fio, .ash, .free]
  | .downstreamFrame .. => [.time, .hob, .ingest, .vdrv, .cover, .fio, .ash, .sent]
  | .fieldBarrierFault => [.hob, .ingest, .vdrv, .cover, .fio, .ash]
  | .foFaultClear .. => [.hob, .ingest, .vdrv, .cover, .fio]
  | .logicBarrierFault | .vfCut .. => [.time, .axes, .hob, .ingest, .vdrv, .cover, .fio, .ash]
  | .barrierRelease .. | .foOpen .. | .vfieldRestore .. | .vfOver .. | .aiFlag .. | .aiFlagClear .. | .burdenOpen .. | .ssOc ..
  | .ssOcClear .. => [.fio]
  | .fiEdge .. => [.loops, .fio]
  | .foOvercurrent .. | .foShort .. | .foOvertemp .. => [.time, .hob, .ingest, .vdrv, .cover, .fio, .ash]
  | .vfWarn .. => [.time, .axes, .hob, .ingest, .cover, .fio, .ash]
  | .vfieldNormal .. => [.axes, .fio]
  | .foReleased => [.time, .axes, .hob, .ingest, .vdrv, .cover, .fio]
  | .ackRelease => [.axes, .hob, .ingest, .vdrv, .cover, .fio]
  | .aiConversion .. => [.time, .loops, .fio]
  | .burdenReconnect .. => [.time, .fio]
  | .lsShort .. | .overload .. | .lsOvertemp .. | .vlsUv | .vlsOc | .thermalRelease .. => [.time, .hob, .ingest, .vdrv, .cover, .lsw, .ash]
  | .lsOpen .. => [.lsw]
  | .vlsUvRelease | .lswFaultClear .. | .vlsOcClear .. => [.hob, .ingest, .vdrv, .cover, .lsw]
  | .retryWaitEnd .. => [.time, .hob, .ingest, .vdrv, .cover, .lsw]
  | .retryCounterReset .. => [.time, .lsw]
  | .limpEntry .. => [.time, .hob, .ingest, .learn, .vdrv, .cover, .lsw, .fio, .ash]
  | .controllerEnable .. | .controllerDisable .. | .tunnelEnable .. => [.can, .ash, .holding]
  | .busIntegration .. | .txReq .. | .txAbort .. | .failedAttempt .. | .recover .. | .recoveryDone .. | .errorFrame .. => [.can]
  | .frameReceived .. => [.loops, .can, .free]
  | .transmissionDone .. => [.can, .sent]
  | .ashRead .. | .applicationPost .. | .ashClear .. | .clearing => [.ash]
  | .keyEnrolment .. | .keyRevocation .. => [.sess, .sec]
  | .begin_ .. | .block .. | .abort .. => [.sess, .flue, .sec, .sent]
  | .end_ .. => [.sess, .flue, .ash, .sec, .sent]
  | .activationPause .. => [.time, .grate, .hob, .ingest, .learn, .vdrv, .cover, .gnss, .lsw, .fio, .ash, .sec, .pwr]
  | .warmRestart => [.core, .plic, .sess, .ash, .sec, .pwr, .holding]
  | .confirm .. => [.ash, .sec]
  | .rollback .. => [.sec]
  | .kindlingBoot .. => [.grate, .ash, .sec, .pwr, .free, .stages]
  | .bootWatchdog => [.time, .sec]
  | .vbatValid .. | .resetRelease .. => [.time, .grate, .learn, .vdrv, .lsw, .fio, .ash, .sec, .pwr, .free, .stages]
  | .settingsRestore => [.grate, .hob, .learn, .cover, .gnss, .sec, .stages]
  | .arm .. => [.time, .pwr]
  | .disarm .. | .wdDisarm => [.time, .hob, .ingest, .learn, .vdrv, .cover, .gnss, .lsw, .fio, .pwr]
  | .armWdKick | .vbatOv .. | .dieHot .. | .dramScrub .. => [.pwr]
  | .vbatWarn .. => [.hob, .ingest, .learn, .vdrv, .cover, .ash, .pwr]
  | .vbatOk .. => [.vdrv, .ash, .pwr]
  | .vbatLow .. | .reset .. | .firmwareWatchdog | .debugReset | .thermal .. | .powerOn | .pd0Lost =>
    [.time, .core, .plic, .sess, .grate, .axes, .hob, .ingest, .learn, .vdrv, .cover, .loops, .gnss, .flue, .can, .lsw, .fio, .ash, .sec, .pwr, .inForce, .stages, .published, .holding]
  | .wake .. => [.time, .grate, .learn, .vdrv, .lsw, .fio, .ash, .sec, .pwr, .free, .inForce, .stages]
  | .nandRefresh .. => [.sec, .pwr]
  | .debugConnectionReset => [.ash, .holding]
  | .dieOtEnd .. => [.vdrv, .fio]

/-- The block windows (R11) in which a command may change stored registers; `none` for the commands that write on an initiator's behalf,
reset or restore: they may change any. -/
def windows : Instr → Option (List Nat)
  | .mantelCycleBoundary .. => some [0, 1, 2, 3, 4, 5, 6, 7, 8, 9, 10, 11, 12, 14, 16]
  | .apply .. | .tunnelSequenceRead .. | .mtimecmpInterrupt .. | .claim .. | .complete .. | .msip .. | .sessionClose ..
  | .sessionInactivityTimeout .. | .sourceFaultCleared .. | .saveOffset .. | .ringClose .. | .neighbourSolicitation ..
  | .echoRequest .. | .delayTableSave | .holdFactorRaise .. | .reducedBudgetEnd .. | .bellowsConverterStart .. | .tileFetch
  | .tileWriteBack | .periodicArchive | .traceStart | .traceStop | .injStart | .injStop | .saveBanks .. | .acquisitionPass ..
  | .correlatorDump .. | .navFifoRead .. | .antennaBiasRetry | .slewDone | .burstStart | .burstEnd | .clearNav | .saveNav
  | .navPeriodicSave | .dupIdClear | .routeExpiry | .positionEnumeration | .renumber | .barrierRelease ..
  | .vfieldNormal .. | .vfieldRestore .. | .vfOver .. | .aiConversion .. | .aiFlagClear .. | .burdenReconnect ..
  | .retryCounterReset .. | .busIntegration .. | .recover .. | .ashRead .. | .ashClear .. | .keyEnrolment .. | .keyRevocation ..
  | .warmRestart | .rollback .. | .bootWatchdog | .armWdKick | .debugConnectionReset | .fullEnd .. | .converterStop .. | .dieOtEnd .. =>
    some []
  | .pendingStageTaken .. => some [2, 3, 4, 5, 6, 7, 8, 9, 10, 11, 12, 16]
  | .registerWrite .. | .structureSwap | .uncorrectableError .. | .ecall .. | .read .. | .write .. | .modify .. | .mgmtFrame ..
  | .mgmtRelayDatagram .. | .tunnelRead .. | .tunnelWrite .. | .lifecycle .. | .kindlingBoot .. | .vbatValid .. | .settingsRestore
  | .vbatLow .. | .reset .. | .firmwareWatchdog | .debugReset | .thermal .. | .resetRelease .. | .sleep .. | .wakeFollowSleep
  | .wake .. | .powerOn | .pd0Lost => none
  | .snapshotLatchRead .. => some [0]
  | .imageLoad .. | .candDone .. => some [1, 14]
  | .check => some [1]
  | .pd2ResetRelease .. => some [1, 5, 12, 14]
  | .sessionOpenRequest .. | .axisFrameSend .. | .linkFrame .. | .linkFrameSend .. | .timeFrameSend | .presence .. | .presenceSend ..
  | .fluePortUp .. | .fluePortDown .. | .gapPlacement | .placeGap | .masterLost | .masterTakeover | .tpin .. | .flueFrameDiscard .. =>
    some [10]
  | .challengeResponse .. | .challengeTimeout .. => some [0, 10, 14]
  | .sourceUpdate .. | .srcFault .. | .coastTimeExpiry .. | .coastDistReached .. | .rangeExceeded .. | .restart .. => some [2, 3, 4, 7]
  | .gnssGap .. | .clearCounts .. => some [2]
  | .still .. | .index .. => some [2, 3]
  | .batch .. | .batchFrame .. => some [3, 4, 10]
  | .fire | .openEv | .closeEv | .level | .setpt | .mark | .cancel | .replace | .fence | .eventFiling | .pagerVisit .. | .commit
  | .markInstant | .dutyCutRelease .. | .vsolUvRelease .. | .coverageEvaluation | .newJob | .jobConfirm | .closeJob | .archive
  | .restore | .vlsUvRelease => some [3, 4, 7]
  | .downstreamFrame .. | .fieldBarrierFault => some [3, 4, 7, 14]
  | .notificationFrame .. | .noteRetx .. | .update | .returnFrame .. => some [4, 10]
  | .discardNotes .. | .frameDrop .. | .portLinkUp .. | .portLinkDown .. => some [4]
  | .farChainSweep .. => some [3, 4]
  | .edgeExecution | .vdrvFaultClear .. | .holdMsExpiry .. | .limpInputChange .. | .limpExit | .disarm .. => some [3, 4, 5, 7, 12]
  | .openingMeasurement .. | .closingMeasurement .. => some [6, 7]
  | .fingerprint .. | .forget .. | .load .. => some [6]
  | .probe .. => some [6, 16]
  | .boostEnd .. | .peakEnd .. | .decayEnd .. | .boostStart .. | .boostWaitMax .. | .minimumGapEnd .. | .pwmPulseStart ..
  | .pwmPulseEnd .. | .dutyCut .. | .vsolUv .. => some [3, 4, 5, 7]
  | .supWarn .. => some [3, 5, 7, 14]
  | .vsolWarningEnd .. | .applicationPost .. | .clearing => some [14]
  | .valveOpenFault .. | .valveShort .. | .driveOvertemp .. | .inputOc .. | .bankSw .. => some [3, 4, 5, 7, 14]
  | .bwOv .. | .bwLow .. | .bellowsFull .. => some [5]
  | .resetpolWrite .. => some [5, 11, 12]
  | .tileLoad .. | .tileExport .. | .tileDelete .. | .archDone => some [7]
  | .loopSample => some [3, 4, 5, 7, 8, 12, 13]
  | .spValue .. | .fbSwValue .. => some [8]
  | .channelStart .. | .observableEpoch .. | .antennaOpen .. | .antennaShort .. | .antennaOk .. | .rtcmWord .. | .rtcmByte ..
  | .timeHoldover | .timeFree | .timePulse | .gnssRestart => some [9]
  | .pvtSolution .. => some [2, 3, 4, 7, 9]
  | .timeFrame .. => some [2, 3, 4, 10, 14]
  | .axisFrame .. => some [2, 3, 4, 7, 10]
  | .imageFrame .. | .end_ .. => some [10, 14, 15]
  | .upstreamFrame .. | .logicBarrierFault | .vfWarn .. | .vfCut .. => some [2, 3, 4, 7, 11, 14]
  | .fiEdge .. | .foOpen .. | .aiFlag .. | .burdenOpen .. | .ssOc .. | .sensorSupplyControl .. | .ssOcClear .. => some [11]
  | .foOvercurrent .. | .foShort .. | .foOvertemp .. => some [3, 4, 7, 11, 14]
  | .foFaultClear .. | .foReleased | .ackRelease => some [3, 4, 7, 11]
  | .lsShort .. | .overload .. | .lsOvertemp .. | .vlsUv | .vlsOc | .thermalRelease .. => some [3, 4, 7, 12, 14]
  | .lsOpen .. => some [12]
  | .retryWaitEnd .. | .lswFaultClear .. | .vlsOcClear .. => some [3, 4, 7, 12]
  | .limpEntry .. => some [3, 4, 5, 7, 12, 14]
  | .controllerEnable .. | .controllerDisable .. | .frameReceived .. | .txReq .. | .txAbort .. | .transmissionDone ..
  | .failedAttempt .. | .recoveryDone .. | .tunnelEnable .. | .errorFrame .. => some [13]
  | .begin_ .. | .block .. | .abort .. => some [10, 15]
  | .activate .. => some [1, 14, 15]
  | .activationPause .. => some [3, 4, 5, 7, 12, 14, 15]
  | .confirm .. => some [14, 15]
  | .arm .. | .vbatOv .. | .dieHot .. | .nandRefresh .. | .dramScrub .. => some [16]
  | .wdDisarm => some [3, 4, 5, 7, 12, 16]
  | .vbatWarn .. => some [3, 5, 7, 14, 16]
  | .vbatOk .. => some [14, 16]

/-- The very registers that a command may change, where they are few; `none` where only its windows say. -/
def written : Instr → Option (List Nat)
  | .mantelCycleBoundary .. | .pendingStageTaken .. | .registerWrite .. | .structureSwap | .uncorrectableError ..
  | .pd2ResetRelease .. | .ecall .. | .read .. | .write .. | .modify .. | .sourceUpdate .. | .srcFault .. | .coastTimeExpiry ..
  | .coastDistReached .. | .rangeExceeded .. | .index .. | .restart .. | .batch .. | .fire | .openEv | .closeEv | .level | .setpt
  | .mark | .cancel | .replace | .fence | .eventFiling | .notificationFrame .. | .noteRetx .. | .update | .pagerVisit .. | .commit
  | .edgeExecution | .markInstant | .boostEnd .. | .peakEnd .. | .decayEnd .. | .boostStart .. | .boostWaitMax .. | .minimumGapEnd ..
  | .pwmPulseStart .. | .pwmPulseEnd .. | .dutyCut .. | .dutyCutRelease .. | .supWarn .. | .valveOpenFault .. | .valveShort ..
  | .driveOvertemp .. | .inputOc .. | .bankSw .. | .vsolUv .. | .vsolUvRelease .. | .vdrvFaultClear .. | .holdMsExpiry ..
  | .coverageEvaluation | .newJob | .jobConfirm | .closeJob | .archive | .restore | .loopSample | .observableEpoch ..
  | .pvtSolution .. | .gnssRestart | .timeFrame .. | .presence .. | .axisFrame .. | .batchFrame .. | .returnFrame .. | .mgmtFrame ..
  | .mgmtRelayDatagram .. | .imageFrame .. | .upstreamFrame .. | .downstreamFrame .. | .fieldBarrierFault | .logicBarrierFault
  | .foOvercurrent ..
  | .foShort .. | .foOvertemp .. | .foFaultClear .. | .vfWarn .. | .vfCut .. | .foReleased | .ackRelease | .lsShort .. | .overload ..
  | .lsOvertemp .. | .vlsUv | .vlsUvRelease | .vlsOc | .retryWaitEnd .. | .thermalRelease .. | .lswFaultClear .. | .limpEntry ..
  | .limpInputChange .. | .limpExit | .frameReceived .. | .failedAttempt .. | .tunnelRead .. | .tunnelWrite .. | .lifecycle ..
  | .activationPause .. | .kindlingBoot .. | .vbatValid .. | .settingsRestore | .disarm .. | .wdDisarm | .vbatWarn .. | .vbatLow ..
  | .reset .. | .firmwareWatchdog | .debugReset | .thermal .. | .resetRelease .. | .sleep .. | .wakeFollowSleep | .wake .. | .powerOn
  | .pd0Lost | .flueFrameDiscard .. | .vlsOcClear .. => none
  | .apply .. | .tunnelSequenceRead .. | .mtimecmpInterrupt .. | .claim .. | .complete .. | .msip .. | .sessionClose ..
  | .sessionInactivityTimeout .. | .sourceFaultCleared .. | .saveOffset .. | .ringClose .. | .neighbourSolicitation ..
  | .echoRequest .. | .delayTableSave | .holdFactorRaise .. | .reducedBudgetEnd .. | .bellowsConverterStart .. | .tileFetch
  | .tileWriteBack | .periodicArchive | .traceStart | .traceStop | .injStart | .injStop | .saveBanks .. | .acquisitionPass ..
  | .correlatorDump .. | .navFifoRead .. | .antennaBiasRetry | .slewDone | .burstStart | .burstEnd | .clearNav | .saveNav
  | .navPeriodicSave | .dupIdClear | .routeExpiry | .positionEnumeration | .renumber | .barrierRelease ..
  | .vfieldNormal .. | .vfieldRestore .. | .vfOver .. | .aiConversion .. | .aiFlagClear .. | .burdenReconnect ..
  | .retryCounterReset .. | .busIntegration .. | .recover .. | .ashRead .. | .ashClear .. | .keyEnrolment .. | .keyRevocation ..
  | .warmRestart | .rollback .. | .bootWatchdog | .armWdKick | .debugConnectionReset | .fullEnd .. | .converterStop .. | .dieOtEnd .. =>
    some []
  | .snapshotLatchRead .. => some [Reg.SYS_BUSERR_ADDR, Reg.SYS_BUSERR_INFO, Reg.SYS_INT_STATUS]
  | .imageLoad .. => some [Reg.ASH_INT_STATUS, Reg.GRATE_INT_STATUS]
  | .check => some [Reg.GRATE_CAND_RESULT, Reg.GRATE_INT_STATUS]
  | .candDone .. => some [Reg.ASH_INT_STATUS, Reg.GRATE_CAND_RESULT, Reg.GRATE_INT_STATUS]
  | .sessionOpenRequest .. | .axisFrameSend .. | .timeFrameSend | .presenceSend .. =>
    some [Reg.FLUE_PORT_TX_FRAMES 0, Reg.FLUE_PORT_TX_FRAMES 1]
  | .challengeResponse .. | .challengeTimeout .. =>
    some [Reg.SYS_INT_STATUS, Reg.ASH_INT_STATUS, Reg.FLUE_PORT_TX_FRAMES 0, Reg.FLUE_PORT_TX_FRAMES 1]
  | .gnssGap n => some [Reg.AXIS_AX_EVT n.val]
  | .still n => some [Reg.AXIS_AX_EVT n.val, Reg.HOB_INT_STATUS]
  | .clearCounts n => some [Reg.AXIS_AX_ERRCNT n.val]
  | .discardNotes .. | .portLinkUp .. | .portLinkDown .. => some [Reg.INGEST_INT_STATUS]
  | .frameDrop p _ => some [Reg.INGEST_PORT_RX_DROP p.val]
  | .farChainSweep .. => some [Reg.HOB_INT_STATUS, Reg.INGEST_INT_STATUS]
  | .openingMeasurement .. | .closingMeasurement .. =>
    some [Reg.COVER_INT_STATUS, Reg.COVER_PUB_MARK_LOST, Reg.LEARN_INT_STATUS, Reg.LEARN_PUB_REJECT, Reg.LEARN_PUB_VALID]
  | .fingerprint .. | .forget .. | .load .. => some [Reg.LEARN_INT_STATUS]
  | .probe .. => some [Reg.LEARN_INT_STATUS, Reg.PWR_INT_STATUS]
  | .vsolWarningEnd .. | .applicationPost .. | .clearing => some [Reg.ASH_INT_STATUS]
  | .bwOv .. | .bwLow .. | .bellowsFull .. => some [Reg.VDRV_INT_STATUS]
  | .resetpolWrite .. => some [Reg.VDRV_INT_STATUS, Reg.LSW_INT_STATUS, Reg.FIO_INT_STATUS]
  | .tileLoad .. | .tileExport .. | .tileDelete .. => some [Reg.COVER_INT_STATUS]
  | .archDone => some [Reg.COVER_CELL, Reg.COVER_INT_STATUS, Reg.COVER_ORIGIN_LAT, Reg.COVER_ORIGIN_LON]
  | .spValue n _ => some [Reg.LOOP_LP_SP_VALUE n.val, Reg.LOOP_LP_EVT n.val]
  | .fbSwValue n _ => some [Reg.LOOP_LP_FB_SW_VALUE n.val]
  | .channelStart c _ => some [Reg.GNSS_GC_CFG c.val]
  | .antennaOpen .. | .antennaShort .. | .antennaOk .. | .timeHoldover | .timeFree | .timePulse => some [Reg.GNSS_INT_STATUS]
  | .rtcmWord .. | .rtcmByte .. => some [Reg.GNSS_INT_STATUS, Reg.GNSS_RTCM_COUNT]
  | .linkFrame q _ => some [Reg.FLUE_PORT_RX_FRAMES q.val]
  | .linkFrameSend q => some [Reg.FLUE_PORT_TX_FRAMES q.val]
  | .fluePortUp .. | .gapPlacement | .placeGap | .masterLost | .masterTakeover | .tpin .. => some [Reg.FLUE_INT_STATUS]
  | .fluePortDown .. => some [Reg.FLUE_INT_STATUS, Reg.FLUE_PORT_TX_FRAMES 0, Reg.FLUE_PORT_TX_FRAMES 1]
  | .fiEdge n _ _ => some [Reg.FIO_FI_PERIOD n.val, Reg.FIO_FI_COUNT n.val]
  | .foOpen n _ => some [Reg.FIO_FO_FAULT n.val, Reg.FIO_INT_STATUS]
  | .aiFlag n _ => some [Reg.FIO_AI_FLAGS n.val, Reg.FIO_INT_STATUS]
  | .burdenOpen n => some [Reg.FIO_AI_FLAGS n.val, Reg.FIO_INT_STATUS]
  | .ssOc .. => some [Reg.FIO_INT_STATUS, Reg.FIO_SS_FAULT]
  | .sensorSupplyControl .. => some [Reg.FIO_SS_CTL]
  | .lsOpen n _ => some [Reg.LSW_CH_FAULT n.val, Reg.LSW_INT_STATUS]
  | .controllerEnable c _ => some [Reg.CAN_CN_CFG c.val, Reg.CAN_CN_INT_STATUS c.val]
  | .controllerDisable c _ => some [Reg.CAN_CN_CFG c.val, Reg.CAN_CN_INT_STATUS c.val]
  | .txReq c i => some [Reg.CAN_OBJ_FLAGS c.val i.val]
  | .txAbort c i _ => some [Reg.CAN_OBJ_FLAGS c.val i.val]
  | .transmissionDone c => some [Reg.CAN_CN_INT_STATUS c.val]
  | .recoveryDone c => some [Reg.CAN_CN_INT_STATUS c.val]
  | .tunnelEnable c _ => some [Reg.CAN_CN_TUN_REQ c.val, Reg.CAN_CN_INT_STATUS c.val]
  | .begin_ .. | .block .. | .abort .. => some [Reg.SEC_INT_STATUS, Reg.FLUE_PORT_TX_FRAMES 0, Reg.FLUE_PORT_TX_FRAMES 1]
  | .end_ .. => some [Reg.SEC_INT_STATUS, Reg.ASH_INT_STATUS, Reg.FLUE_PORT_TX_FRAMES 0, Reg.FLUE_PORT_TX_FRAMES 1]
  | .activate .. => some [Reg.ASH_INT_STATUS, Reg.GRATE_INT_STATUS, Reg.SEC_INT_STATUS]
  | .confirm .. => some [Reg.ASH_INT_STATUS, Reg.SEC_INT_STATUS]
  | .arm .. | .vbatOv .. | .dieHot .. | .nandRefresh .. | .dramScrub .. => some [Reg.PWR_INT_STATUS]
  | .vbatOk .. => some [Reg.ASH_INT_STATUS, Reg.PWR_INT_STATUS]
  | .errorFrame c _ => some [Reg.CAN_CN_INT_STATUS c.val, Reg.CAN_CN_COUNT c.val]
  | .ssOcClear .. => some [Reg.FIO_SS_FAULT]

/-- The frame of command `c` from `s` to `t`: the module's parts it does not touch, its variant and serial, every register outside its
windows and, where it is named, every register but those it may change are as before. -/
def Framed (c : Instr) (s t : State) : Prop :=
  t.m.variant = s.m.variant ∧ t.m.serial = s.m.serial ∧ (∀ p, p ∉ touches c → p.same s.m t.m) ∧
  (∀ ws, windows c = some ws → ∀ off, off / 0x100000 ∉ ws → t.m.rd off = s.m.rd off) ∧
  ∀ rs, written c = some rs → ∀ off, off ∉ rs → t.m.rd off = s.m.rd off

/-- The invariant of a run: memory is in canonical form. -/
def State.memCanonical (s : State) : Prop := s.mem.wf = true

end Sys2Proof.Machine
end

