-- ==== Sys2Proof/Certificates/Slice0/Obligations.lean ====
section
/-! DEFINITION. The statements for the provers, in the terms of Safety.lean. A docstring names the rules a statement is drawn from; only those with
basis 'stated' in OBLIGATIONS.json state a rule whole. -/

open Sys2Proof Sys2Proof.Machine

/-- The command in front of the queue is carried out with the queue's rest. -/
def Obligations.FrontCommandRuns : Prop :=
  ∀ (c : Instr) (rest : List Instr) (s : State), step { s with pending := c :: rest } = exec c { s with pending := rest }

/-- An empty queue lets one DCLK tick pass, and nothing but module time changes (the model's choice, log entry 6). -/
def Obligations.EmptyQueueTicks : Prop :=
  ∀ s : State, s.pending = [] → s.m.mt + 1 < 2 ^ 64 →
    ∃ t, step s = .next t ∧ t.m.mt = s.m.mt + 1 ∧ t.mem = s.mem ∧ t.pending = [] ∧ { t.m with time := s.m.time } = s.m

/-- From R12: after a power-on reset every register holds the value of the Reset column, in its store and in force; no stage is pending,
nothing is published or latched, no command waits, no byte of memory is listed. -/
def Obligations.ResetRegisters : Prop :=
  (∀ off, State.reset.m.rd off = resetOf off ∧ State.reset.m.cfg off = resetOf off) ∧
  (∀ u, applyPending State.reset.m u = false) ∧
  State.reset.m.regs.pub = [] ∧ State.reset.m.regs.hold = [] ∧ State.reset.pending = [] ∧ State.reset.mem = []

/-- The memory after reset is in canonical form. -/
def Obligations.ResetMemoryCanonical : Prop :=
  State.reset.memCanonical

/-- Memory keeps its canonical form through every step, from any state that has it. -/
def Obligations.StepKeepsMemoryCanonical : Prop :=
  ∀ s t : State, s.memCanonical → step s = .next t → t.memCanonical

/-- From R24: no register write, management command or event changes the active structure; only the swap of a staged one does. Any other
step leaves it, or ends with none active (a reset). -/
def Obligations.StructureFixed : Prop :=
  ∀ (c : Instr) (s t : State), c ≠ .structureSwap → exec c s = .next t →
    t.m.grate.active = s.m.grate.active ∨ t.m.grate.active = none

/-- No command changes the queue of the commands that wait behind it. Every byte of memory reads as before after every command but those
through which an initiator may store: a register write of an initiator, an ecall, a session's write or modify, a management message, a
tunnel write, and the export of a tile. -/
def Obligations.CommandsKeepQueueAndMemory : Prop :=
  (∀ (c : Instr) (s : State), Answers c s fun t => t.pending = s.pending) ∧
  (∀ (c : Instr) (s : State), mayStore c = false → Answers c s (sameMemory s))

/-- From R212: through a register view bytes reach memory only as an exported tile: a register write into a view, an ecall, a tunnel's
write and the export command leave every byte outside the 8,192 at COVER_TILE_ADDR as it was. From R65, R212: a session's write, modify or
management message stores to no byte outside the tile buffer that its word for COVER_TILE_CMD, if it has one, exports to. -/
def Obligations.ExportsReachTheTileBufferOnly : Prop :=
  (∀ (c : Instr) (s : State) (a : Nat),
    ((∃ i b v, c = .registerWrite i b ∧ viewAt b.addr = some v) ∨ (∃ h r, c = .ecall h r) ∨ (∃ k, c = .tunnelWrite k) ∨
      ∃ l, c = .tileExport l) →
    (a < tileAddr s.m ∨ tileAddr s.m + 8192 ≤ a) → Answers c s fun t => t.mem.rd a = s.mem.rd a) ∧
  (∀ (n : Fin 8) (r : SessReq) (s : State) (a : Nat),
    (requestSpares n { r with op := 2 } s a → Answers (.write n r) s fun t => t.mem.rd a = s.mem.rd a) ∧
    (requestSpares n { r with op := 3 } s a → Answers (.modify n r) s fun t => t.mem.rd a = s.mem.rd a)) ∧
  (∀ (q : Fin 2) (f : FlueFrameIn) (n : Fin 8) (r : SessReq) (s : State) (a : Nat),
    requestSpares n r (s.onModule fun m => unicastIn m q ftMgmt f id) a →
    Answers (.mgmtFrame q f (some (.request n r))) s fun t => t.mem.rd a = s.mem.rd a) ∧
  (∀ (p : Fin 4) (mac : Nat) (ip : IpInfo) (bs : List Byte) (n : Fin 8) (r : SessReq) (s : State) (a : Nat),
    requestSpares n r s a → Answers (.mgmtRelayDatagram p mac ip bs (some (.request n r))) s fun t => t.mem.rd a = s.mem.rd a)

/-- The frames of the commands of the Mantel, the Ash log, the security unit and the power unit: the parts, the register windows and the
registers that none of them writes are as before. -/
def Obligations.FramesOfControl : Prop :=
  ∀ (c : Instr) (s t : State), familyOf c ∈ [Family.mantel, .ash, .security, .power] → exec c s = .next t → Framed c s t

/-- The frames of the commands of the axes, the event store and its rings, learning, the valve drive, the loops and the coverage engine.
-/
def Obligations.FramesOfEvents : Prop :=
  ∀ (c : Instr) (s t : State), familyOf c ∈ [Family.axes, .events, .learning, .valves, .loops, .coverage] → exec c s = .next t →
    Framed c s t

/-- The frames of the commands of the GNSS receiver, the Flue chain, the field side, the load switches and the CAN controllers. -/
def Obligations.FramesOfField : Prop :=
  ∀ (c : Instr) (s t : State), familyOf c ∈ [Family.gnss, .flue, .field, .switches, .can] → exec c s = .next t → Framed c s t

/-- R1: on the P variant every register of the GNSS block reads as 0 in both views, and a write to one changes nothing and raises no
error. The same holds of an offset in a block window that no register occupies (R11), outside the writes that RESTORING holds off (R58).
-/
def Obligations.AbsentRegistersReadZero : Prop :=
  ∀ (i : Initiator) (priv : Bool) (off value : Nat) (s : State),
    (s.m.variant = .p ∧ off / 0x100000 = 9) ∨ (regAt off = none ∧ off < viewLen ∧ (restoringAt s.m off = true → heldOff i = false)) →
    regRead (Initiator.idx i) priv off s.m = (0, s.m) ∧ (∀ w, regWrite i priv off w s = s) ∧
    (off % 4 = 0 → present s.m i = true → granted s.m i priv = true →
      (Answers (.snapshotLatchRead i ⟨viewAddr priv off, 4⟩) s fun t =>
        t.m = { s.m with out := ⟨answerTo i, s.m.mt, leBytes 4 0⟩ :: s.m.out } ∧ t.mem = s.mem) ∧
      (Answers (.registerWrite i ⟨viewAddr priv off, 4, value⟩) s fun t => t = s))

/-- From R8, R10, R51: a store of an initiator through its view to a register without behaviour of its own writes each bit by its access
code and no other register; a store of a core to plain memory writes its bytes, least significant first, and no other byte. -/
def Obligations.RegisterWriteEffect : Prop :=
  (∀ (i : Initiator) (priv : Bool) (off value : Nat) (d : RegDef) (ix : List Nat) (s : State),
    present s.m i = true → granted s.m i priv = true → plainReg s.m priv off d ix →
    Answers (.registerWrite i ⟨viewAddr priv off, 4, value⟩) s fun t =>
      t.m.rd off = plainValue d priv (s.m.rd off) (w32 value) ∧ t.mem = s.mem ∧
      ∀ o, besideEvents o → o ≠ off → t.m.rd o = s.m.rd o) ∧
  (∀ (h : Fin 4) (mode : Mode) (a n v : Nat) (s : State), plainOk h mode a n = true →
    Answers (.registerWrite (.core h mode) ⟨a, n, v⟩) s fun t =>
      t.m = s.m ∧ (∀ k < n, t.mem.rd (a + k) = BitVec.ofNat 8 (v / 256 ^ k)) ∧
      ∀ x, x < a ∨ a + n ≤ x → t.mem.rd x = s.mem.rd x)

/-- From R16, R20: a read of SYS_MT_LO answers its initiator the low word of module time and latches the high word for that initiator; a
tunnel's read of a publication sequence register copies the set's other words into that tunnel's holding registers. -/
def Obligations.SnapshotReads : Prop :=
  (∀ (i : Initiator) (priv : Bool) (s : State), present s.m i = true → granted s.m i priv = true →
    Answers (.snapshotLatchRead i ⟨viewAddr priv Reg.SYS_MT_LO, 4⟩) s fun t =>
      t.m.out = ⟨answerTo i, s.m.mt, leBytes 4 (s.m.mt % 2 ^ 32)⟩ :: s.m.out ∧
      heldValue t.m (Initiator.idx i) Reg.SYS_MT_HI = w32 (s.m.mt / 2 ^ 32) ∧
      ∀ j : Initiator, Initiator.idx j ≠ Initiator.idx i → ∀ off < 2 ^ 26, heldValue t.m (Initiator.idx j) off = heldValue s.m (Initiator.idx j) off) ∧
  (∀ (c : Fin 4) (p : PubSet) (s : State), p ∈ pubSets → tunEn s.m c = true → (s.m.variant = .g ∨ p.seq < Reg.GNSS_STATUS) →
    Answers (.tunnelSequenceRead c p.seq) s fun t => ∀ o ∈ p.words, heldValue t.m (12 + c.val) o = shownValue s.m (12 + c.val) o)

/-- From R13, R17, R19: the boundary of a Mantel cycle falls on a whole multiple of 1,000,000 ticks and is numbered, MANTEL_CYCLE is
flagged, the published halves swap with every sequence number one higher; APPLY copies a unit's whole shadow set with the MT of its write
in place of a stage not yet taken; and at its boundary a due stage is pending no more. From R17: a stage of the power, load-switch or
valve settings that passes its validation is in force as a whole after its boundary; one that fails leaves every setting in force as it
was and sets SETTING_ERR. -/
def Obligations.CyclesAndStages : Prop :=
  (∀ (e : Nat) (s : State), comingBoundary s.m * 1000000 < 2 ^ 64 →
    Answers (.mantelCycleBoundary e) s fun t =>
      t.m.mt = comingBoundary s.m * 1000000 ∧ s.m.mt ≤ t.m.mt ∧ t.m.time.boundary = comingBoundary s.m ∧
      t.m.regs.pubBack = s.m.regs.pub ∧ bit (t.m.rd Reg.SYS_INT_STATUS) 4 = true ∧
      ∀ p ∈ pubSets, p.pair = true → Sparse.get resetOf t.m.regs.pub p.seq = Sparse.get resetOf s.m.regs.pub p.seq + 1) ∧
  (∀ (u : ApplyUnit) (s : State), Answers (.apply u) s fun t =>
    stageOf t.m u = some ⟨u, s.m.mt, s.m.regs.rw.filter fun e => unitOf e.1 == some u⟩ ∧
    (∀ v, v ≠ u → stageOf t.m v = stageOf s.m v) ∧ ∀ off, t.m.rd off = s.m.rd off ∧ t.m.cfg off = s.m.cfg off) ∧
  (∀ (u : ApplyUnit) (st : Stage) (s : State), u ∈ [ApplyUnit.hob, .ingest, .learn, .vdrv, .flue, .fio, .lsw, .pwr] →
    stageOf s.m u = some st → boundaryAfter s.m st.mt < 2 ^ 64 →
    Answers (.pendingStageTaken u) s fun t => applyPending t.m u = false ∧ st.mt < t.m.mt ∧ t.m.mt % 1000000 = 0) ∧
  (∀ (u : ApplyUnit) (ok : Stage → Bool) (r b : Nat) (st : Stage) (s : State),
    (u, ok, r, b) ∈ [(ApplyUnit.vdrv, vdrvStageOk, Reg.VDRV_INT_STATUS, 10), (.lsw, lswStageOk, Reg.LSW_INT_STATUS, 9),
      (.pwr, pwrStageOk, Reg.PWR_INT_STATUS, 9)] →
    stageOf s.m u = some st → Sparse.wf resetOf st.regs = true → (∀ e ∈ st.regs, unitOf e.1 = some u) →
    boundaryAfter s.m st.mt < 2 ^ 64 →
    Answers (.pendingStageTaken u) s fun t =>
      (ok st = true → ∀ off, t.m.cfg off = if unitOf off = some u then st.val off else s.m.cfg off) ∧
      (ok st = false → (∀ off, t.m.cfg off = s.m.cfg off) ∧ bit (t.m.rd r) b = true))

/-- From R41, R48: an image that passes every check becomes the staging copy and waits for its swap; CHECK starts a candidate check, and
its end gives its result with CAND_DONE and touches neither copy. -/
def Obligations.ImageLoadsAndChecks : Prop :=
  (∀ (slot : Slot) (l : Loaded) (s : State), s.m.grate.loader = .idle → s.m.grate.candRunning = false →
    checkImage (imageEnv s.m true) slot (slotOf s.m slot).image = .ok l →
    Answers (.imageLoad slot true true) s fun t =>
      t.m.grate = { s.m.grate with staging := some l, loader := .swapPending, loadErr := .none } ∧ t.m.regs = s.m.regs ∧
      t.m.sec = s.m.sec) ∧
  (∀ s : State, s.m.grate.loader = .idle → s.m.grate.candRunning = false →
    Answers .check s fun t => t.m.grate = { s.m.grate with candRunning := true } ∧ bit (t.m.rd Reg.GRATE_CAND_RESULT) 31 = false) ∧
  (∀ (sig : Bool) (s : State), s.m.grate.candRunning = true → s.m.grate.waiting = none →
    Answers (.candDone sig) s fun t => t.m.grate = { s.m.grate with candRunning := false } ∧
      bit (t.m.rd Reg.GRATE_INT_STATUS) 2 = true ∧
      t.m.rd Reg.GRATE_CAND_RESULT = match checkImage (imageEnv s.m sig) .a (s.mem.rdN (candSpan s.m).1 (candSpan s.m).2) with
        | .ok _ => w32 (2 ^ 31)
        | .error f => w32 (2 ^ 31 + f.err.code * 65536 + f.record))

/-- R43: a load that fails (another runs, a check of the image fails, or its read-back) leaves the active copy, the previous structure and
the persistent items as they were, shows why in GRATE_STATUS.LOAD_ERR and GRATE_ERR_LOC, raises LOAD_FAIL and writes a record to the Ash
log: it is staged, unless the staging is full (R354). -/
def Obligations.FailedLoadLeavesStructure : Prop :=
  ∀ (slot : Slot) (sig rb : Bool) (f : LoadFail) (s : State),
    (s.m.grate.loader ≠ .idle ∧ f = ⟨.busy, hdrRec, 0⟩) ∨
      (s.m.grate.loader = .idle ∧ s.m.grate.candRunning = false ∧
        (checkImage (imageEnv s.m sig) slot (slotOf s.m slot).image = .error f ∨
          ∃ l, checkImage (imageEnv s.m sig) slot (slotOf s.m slot).image = .ok l ∧ rb = false ∧ f = ⟨.readback, hdrRec, 0⟩)) →
    Answers (.imageLoad slot sig rb) s fun t =>
      t.m.grate = { s.m.grate with loadErr := f.err, errRecord := f.record, errByte := f.byte } ∧
      t.m.axes = s.m.axes ∧ t.m.learn = s.m.learn ∧ t.m.gnss = s.m.gnss ∧ t.m.cover = s.m.cover ∧ t.m.loops = s.m.loops ∧
      fld (liveValue t.m Reg.GRATE_STATUS) 23 16 = f.err.code ∧
      liveValue t.m Reg.GRATE_ERR_LOC = w32 (f.record * 65536 + f.byte) ∧ bit (t.m.rd Reg.GRATE_INT_STATUS) 1 = true ∧
      ((∃ r ∈ t.m.ash.staged, r.code = 0x0010) ∨ ashStaging ≤ s.m.ash.staged.length + 1)

/-- From R42: at a boundary that finds the outputs disarmed the staged structure becomes the active one and the old one the staging copy,
every event in the store has ended, RESTORING begins, pending stages are gone, and a setting of the nine blocks is at its Reset value. -/
def Obligations.StructureSwaps : Prop :=
  ∀ (l : Loaded) (s : State), s.m.grate.loader = .swapPending → s.m.grate.staging = some l → s.m.pwr.arm = .disarmed →
    (s.m.sec.act = .idle ∨ (s.m.sec.act = .pause ∧ s.m.sec.swapReady = true ∧ s.m.sec.b0 % 1000000 = 0)) → swapBoundary s.m < 2 ^ 64 →
    Answers .structureSwap s fun t =>
      t.m.grate.active = some l ∧ t.m.grate.staging = s.m.grate.active ∧ t.m.grate.loader = .idle ∧ t.m.grate.restoring = true ∧
      t.m.grate.swapCount = s.m.grate.swapCount + 1 ∧ t.m.mt % 1000000 = 0 ∧ t.m.regs.pend = [] ∧ t.m.hob.committed = [] ∧
      (∀ off, inSwapBlock off = true → t.m.cfg off = resetOf off) ∧ bit (t.m.rd Reg.GRATE_INT_STATUS) 0 = true

/-- From R50, R59, R61: the timer interrupt, claims and completions of interrupt sources, and the software interrupt. From R49, R61: the
resident monitor of MC1 to MC3 answers an application's request with status and word: an unprivileged read, the priority of a source that
firmware does not keep, and a signal to another core. A privileged request is refused DENIED, and the view violation is flagged. From R16
and R356: when the debug connection is reset, the debug access's holding registers and read port are at 0, and no other initiator's
change. -/
def Obligations.CoresAndDebugPort : Prop :=
  (∀ (h : Fin 4) (s : State), Answers (.mtimecmpInterrupt h) s fun t =>
    (Arr.at' t.m.core h).mtip = true ∧ (Arr.at' s.m.core h).mtimecmp.toNat ≤ t.m.mt ∧
    (s.m.mt ≤ (Arr.at' s.m.core h).mtimecmp.toNat → t.m.mt = (Arr.at' s.m.core h).mtimecmp.toNat) ∧
    ∀ j, j ≠ h → Arr.at' t.m.core j = Arr.at' s.m.core j) ∧
  (∀ (ctx : Fin 8) (s : State), Answers (.claim ctx) s fun t =>
    t.m.out = ⟨.core ⟨ctx.val / 2, by omega⟩, s.m.mt, leBytes 4 (claimPick s.m ctx)⟩ :: s.m.out ∧
    (∀ src, src < 32 → bit t.m.plic.claimed src = (bit s.m.plic.claimed src || (claimPick s.m ctx != 0 && src == claimPick s.m ctx))) ∧
    (claimPick s.m ctx ≠ 0 → claimable s.m ctx (claimPick s.m ctx) = true ∧
      ∀ src < 32, claimable s.m ctx src = true → prioOf s.m src ≤ prioOf s.m (claimPick s.m ctx))) ∧
  (∀ (ctx : Fin 8) (src : Fin 32) (s : State), bit (Arr.at' s.m.plic.enable ctx) src.val = true →
    Answers (.complete ctx src) s fun t => bit t.m.plic.claimed src.val = false ∧
      ∀ k < 32, k ≠ src.val → bit t.m.plic.claimed k = bit s.m.plic.claimed k) ∧
  (∀ (g h : Fin 4) (v : Bool) (s : State), Answers (.msip (.core g .machine) h v) s fun t =>
    (Arr.at' t.m.core h).msip = v ∧ ∀ j, j ≠ h → Arr.at' t.m.core j = Arr.at' s.m.core j) ∧
  (∀ (h : Fin 4) (off : Nat) (s : State), h.val ≠ 0 → off % 4 = 0 → off < viewLen →
    Answers (.ecall h (.read off false)) s fun t =>
      t.m.out = ⟨.core h, s.m.mt, leBytes 1 0 ++ leBytes 4 (regRead h.val false off s.m).1.toNat⟩ :: s.m.out) ∧
  (∀ (h : Fin 4) (off : Nat) (s : State), h.val ≠ 0 →
    Answers (.ecall h (.read off true)) s fun t =>
      t.m.out = ⟨.core h, s.m.mt, leBytes 1 1 ++ leBytes 4 0⟩ :: s.m.out ∧ bit (t.m.rd Reg.SYS_INT_STATUS) 1 = true) ∧
  (∀ (h : Fin 4) (src : Fin 32) (prio : Fin 8) (s : State), h.val ≠ 0 → src.val ≠ 0 → firmwareSource src.val = false →
    Answers (.ecall h (.plicPriority src prio)) s fun t => prioOf t.m src.val = prio.val) ∧
  (∀ (h k : Fin 4) (s : State), h.val ≠ 0 → Answers (.ecall h (.signal k)) s fun t => (Arr.at' t.m.core k).msip = true) ∧
  (∀ s : State, Answers .debugConnectionReset s fun t =>
    (∀ off < 2 ^ 26, heldValue t.m 16 off = 0) ∧ ashPortOf t.m 16 = AshPort.zero ∧ t.m.regs.rw = s.m.regs.rw ∧
    ∀ who, who ≠ 16 → ashPortOf t.m who = ashPortOf s.m who ∧ ∀ off < 2 ^ 26, heldValue t.m who off = heldValue s.m who off)

/-- From R62 to R64, R16: a request to open a session takes the lowest idle one, sends it a challenge and starts its 2 s; a signed answer
with a key that opens sessions makes it ACTIVE with the grant of its credential; a challenge unanswered for 2 s, a close and 4,000 cycles
without a request leave it IDLE, and its holding registers at 0. From R63, R64, R67: an opening is answered BUSY while no session is idle;
an answer with no key that opens sessions, or whose signature fails, is refused and the session is IDLE again. -/
def Obligations.SessionLife : Prop :=
  (∀ (tr : Transport) (peer : Nat) (n : Fin 8) (s : State), served s.m tr = true → idleSession s.m = some n →
    Answers (.sessionOpenRequest tr peer) s fun t =>
      (Arr.at' t.m.sess n).phase = .challenged ∧ (Arr.at' t.m.sess n).transport = tr ∧ (Arr.at' t.m.sess n).since = s.m.mt ∧
      (Arr.at' t.m.sess n).challenge.length = 32 ∧ (∀ k, k ≠ n → Arr.at' t.m.sess k = Arr.at' s.m.sess k) ∧
      (tr ≠ .flue → t.m.out = ⟨.session n, s.m.mt, leBytes 1 n.val ++ (Arr.at' t.m.sess n).challenge⟩ :: s.m.out)) ∧
  (∀ (n : Fin 8) (key : Nat) (priv : Bool) (s : State), (Arr.at' s.m.sess n).phase = .challenged → credential s.m key = some priv →
    Answers (.challengeResponse n key true) s fun t =>
      sessActive t.m n = true ∧ (Arr.at' t.m.sess n).priv = priv ∧ (Arr.at' t.m.sess n).cred = key ∧
      bit (t.m.rd Reg.SYS_INT_STATUS) 0 = true ∧ ∀ k, k ≠ n → Arr.at' t.m.sess k = Arr.at' s.m.sess k) ∧
  (∀ (n : Fin 8) (s : State), (Arr.at' s.m.sess n).phase = .challenged →
    cdiv ((Arr.at' s.m.sess n).since + 800000000) 1000000 * 1000000 < 2 ^ 64 →
    Answers (.challengeTimeout n) s fun t => (Arr.at' t.m.sess n).phase = .idle ∧
      (Arr.at' s.m.sess n).since + 800000000 ≤ t.m.mt ∧ bit (t.m.rd Reg.SYS_INT_STATUS) 1 = true) ∧
  (∀ (c : Fin 8 → Instr) (n : Fin 8) (s : State), c = .sessionClose ∨ c = .sessionInactivityTimeout → sessActive s.m n = true →
    Answers (c n) s fun t => (Arr.at' t.m.sess n).phase = .idle ∧ (∀ k, k ≠ n → Arr.at' t.m.sess k = Arr.at' s.m.sess k) ∧
      ∀ off < 2 ^ 26, heldValue t.m (4 + n.val) off = 0) ∧
  (∀ (tr : Transport) (peer : Nat) (s : State), tr ≠ .flue → served s.m tr = true → idleSession s.m = none →
    Answers (.sessionOpenRequest tr peer) s fun t => t.m.sess = s.m.sess ∧ t.m.out = ⟨.host, s.m.mt, leBytes 1 5⟩ :: s.m.out) ∧
  (∀ (n : Fin 8) (key : Nat) (sig : Bool) (s : State), (Arr.at' s.m.sess n).phase = .challenged →
    credential s.m key = none ∨ sig = false →
    Answers (.challengeResponse n key sig) s fun t => (Arr.at' t.m.sess n).phase = .idle ∧ bit (t.m.rd Reg.SYS_INT_STATUS) 1 = true)

/-- From R65, R66: a new READ of a session is answered with its words in ascending order; a new WRITE or MODIFY of one plain register
leaves it with the written bits, or the masked ones, by its access codes, and MODIFY answers the old word; each is executed once. -/
def Obligations.RequestsExecuted : Prop :=
  (∀ (n : Fin 8) (r : SessReq) (s : State), r.op = 1 → newRequest s.m n r → reqStatus s.m n r = .ok →
    (Arr.at' s.m.sess n).transport ≠ .flue →
    Answers (.read n r) s fun t => (Arr.at' t.m.sess n).maxSeq = some r.seq ∧ ∃ ws, ws.length = r.count ∧
      ws = (reqRead (4 + n.val) r.view r.offset r.count (heard s.m n)).1 ∧
      t.m.out = ⟨.session n, s.m.mt, respBytes r .ok s.m.mt ws⟩ :: s.m.out) ∧
  (∀ (n : Fin 8) (r : SessReq) (w : Word) (d : RegDef) (ix : List Nat) (s : State), r.op = 2 → r.data = [w] → newRequest s.m n r →
    reqStatus s.m n r = .ok → plainReg s.m r.view r.offset d ix →
    Answers (.write n r) s fun t => (Arr.at' t.m.sess n).maxSeq = some r.seq ∧
      ((Arr.at' s.m.sess n).transport ≠ .flue → t.m.rd r.offset = plainValue d r.view (s.m.rd r.offset) w ∧
        t.m.out = ⟨.session n, s.m.mt, respBytes r .ok s.m.mt []⟩ :: s.m.out)) ∧
  (∀ (n : Fin 8) (r : SessReq) (mask v old : Word) (d : RegDef) (ix : List Nat) (s : State), r.op = 3 → r.data = [mask, v] →
    newRequest s.m n r → reqStatus s.m n r = .ok → plainReg s.m r.view r.offset d ix →
    old = (regRead (4 + n.val) r.view r.offset (heard s.m n)).1 → (Arr.at' s.m.sess n).transport ≠ .flue →
    Answers (.modify n r) s fun t => (Arr.at' t.m.sess n).maxSeq = some r.seq ∧
      t.m.rd r.offset = plainValue d r.view (s.m.rd r.offset) ((old &&& ~~~ mask) ||| (v &&& mask)) ∧
      t.m.out = ⟨.session n, s.m.mt, respBytes r .ok s.m.mt [old]⟩ :: s.m.out) ∧
  (∀ (n : Fin 8) (r : SessReq) (x : Nat × List Byte) (s : State), r.op = 2 → sessActive s.m n = true →
    (Arr.at' s.m.sess n).replies.find? (·.1 == r.seq) = some x → (Arr.at' s.m.sess n).transport ≠ .flue →
    Answers (.write n r) s fun t => t.m.out = ⟨.session n, s.m.mt, x.2⟩ :: s.m.out ∧ t.m.regs = s.m.regs ∧ t.mem = s.mem)

/-- From R70, R75, R78, R79: a pulse moves the running sum by one scaled step, against the count on an inverted axis. In LOCKED the
coordinate so measured, within GATE, corrects the prediction by residual / 2^POS_SHIFT and the velocity by residual over time /
2^VEL_SHIFT; in ACQUIRE it is the coordinate, and the fourth such measurement locks the axis at the mean velocity since the first. -/
def Obligations.AxisTakesUpdates : Prop :=
  ∀ (n : Fin 15) (ts : Nat) (down : Bool) (rec : AxisRec) (s : State), axisRec s.m n.val = some rec →
    rec.source ∈ [AxisSource.enPulse, .enGate, .fiPulse] → stageOf s.m (.axis n) = none → (axisAt s.m n).fault = false →
    s.m.mt < ts → ts < 2 ^ 64 → (axisAt s.m n).mtk < ts →
    let x := axisAt s.m n
    let d : Int := if rec.invert then -scaleQ (s.m.cfg (Reg.AXIS_AX_SCALE n.val)) else scaleQ (s.m.cfg (Reg.AXIS_AX_SCALE n.val))
    let y := axisOffset s.m n.val + (x.sum + d)
    let q := predictBy x.p x.v x.a (ts - x.mtk)
    outOfRange (axisWrap s.m n.val) y = false →
    (x.phase = .locked → x.resync = .none → (gateOf s.m n = 0 ∨ (absN (y - q) : Int) ≤ gateOf s.m n) →
      outOfRange (axisWrap s.m n.val) (q + rdiv (y - q) (2 ^ posShift s.m n)) = false →
      Answers (.sourceUpdate n ts (.edge down)) s fun t =>
        (axisAt t.m n).phase = .locked ∧ (axisAt t.m n).sum = x.sum + d ∧ (axisAt t.m n).mtk = ts ∧ t.m.mt = ts ∧
        (axisAt t.m n).p = q + rdiv (y - q) (2 ^ posShift s.m n) ∧
        (axisAt t.m n).v = velBy x.v x.a (y - q) (ts - x.mtk) (velShift s.m n) ∧ (axisAt t.m n).accepted = x.accepted + 1) ∧
    (x.phase = .acquire → x.acq < 3 →
      Answers (.sourceUpdate n ts (.edge down)) s fun t =>
        (axisAt t.m n).phase = .acquire ∧ (axisAt t.m n).sum = x.sum + d ∧ (axisAt t.m n).p = y ∧ (axisAt t.m n).acq = x.acq + 1) ∧
    (x.phase = .acquire → x.acq = 3 → x.acqFirst.1 < ts →
      Answers (.sourceUpdate n ts (.edge down)) s fun t =>
        (axisAt t.m n).phase = .locked ∧ (axisAt t.m n).p = y ∧
        (axisAt t.m n).v = rdiv ((y - x.acqFirst.2) * 400000000) (ts - x.acqFirst.1) ∧ bit (t.m.rd (Reg.AXIS_AX_EVT n.val)) 1 = true)

/-- From R83, R84, R87: a source fault in LOCKED is flagged and takes the axis to COAST while COAST_TIME is not 0, and to DOWN when it is
0 or when the chain's publisher is DOWN; its end clears it; a gap of a blended axis is flagged; COAST ends in DOWN by time, by distance,
and a linear coordinate out of range goes DOWN; RESTART enters ACQUIRE. From R80, R84, R88, R89, R92: an axis without an update for
STILL_MS stands still; an index edge captures coordinate and MT; SAVE_OFFSET keeps the offset in force; CLEAR_COUNTS clears the error
counters; a published axis is sent with its newest state. -/
def Obligations.AxisStatesAndServices : Prop :=
  (∀ (n : Fin 15) (c : FaultCause) (src : AxisSource) (s : State), axisSrc s.m n.val = src →
    (c, src) ∈ [(FaultCause.receiver, AxisSource.enQuad), (.receiver, .enPulse), (.receiver, .enGate), (.phase, .enQuad), (.phase, .fiQuad),
      (.barrier, .fiQuad), (.barrier, .fiPulse), (.epochs, .gnssPath), (.chainLost, .chain)] →
    (axisAt s.m n).fault = false → (axisAt s.m n).phase = .locked →
    Answers (.srcFault n c) s fun t => (axisAt t.m n).fault = true ∧ (axisAt t.m n).faultCause = some c ∧
      bit (t.m.rd (Reg.AXIS_AX_EVT n.val)) 9 = true ∧
      (axisAt t.m n).phase = if s.m.cf (Reg.AXIS_AX_COAST n.val) 31 16 = 0 then .down else .coast) ∧
  (∀ (n : Fin 15) (s : State), axisSrc s.m n.val = .chain → (axisAt s.m n).phase ≠ .down →
    Answers (.srcFault n .chainDown) s fun t => (axisAt t.m n).phase = .down ∧ (axisAt t.m n).reason = .chainDown) ∧
  (∀ (n : Fin 15) (s : State), (axisAt s.m n).fault = true → (axisAt s.m n).selfClearing = false →
    Answers (.sourceFaultCleared n) s fun t => (axisAt t.m n).fault = false ∧ (axisAt t.m n).phase = (axisAt s.m n).phase) ∧
  (∀ (n : Fin 15) (s : State), axisSrc s.m n.val = .blended → (axisAt s.m n).phase = .locked → (axisAt s.m n).gnssGap = false →
    Answers (.gnssGap n) s fun t => (axisAt t.m n).gnssGap = true ∧ (axisAt t.m n).gapMt = t.m.mt ∧
      bit (t.m.rd (Reg.AXIS_AX_EVT n.val)) 12 = true) ∧
  (∀ (n : Fin 15) (s : State), (axisAt s.m n).phase = .coast →
    (axisAt s.m n).coastMt + s.m.cf (Reg.AXIS_AX_COAST n.val) 31 16 * 40000 < 2 ^ 64 →
    Answers (.coastTimeExpiry n) s fun t => (axisAt t.m n).phase = .down ∧ (axisAt t.m n).reason = .coastTime ∧
      bit (t.m.rd (Reg.AXIS_AX_EVT n.val)) 3 = true) ∧
  (∀ (n : Fin 15) (s : State), (axisAt s.m n).phase = .coast → s.m.cfg (Reg.AXIS_AX_COAST_DIST n.val) ≠ 0 →
    ((s.m.cfg (Reg.AXIS_AX_COAST_DIST n.val)).toNat : Int) * qOne ≤
      absN ((predOf s.m n.val (axisAt s.m n)).atMt s.m.mt - (axisAt s.m n).coastP) →
    Answers (.coastDistReached n) s fun t => (axisAt t.m n).phase = .down ∧ (axisAt t.m n).reason = .coastDist) ∧
  (∀ (n : Fin 15) (s : State), axisWrap s.m n.val = 0 → ((axisAt s.m n).phase = .locked ∨ (axisAt s.m n).phase = .coast) →
    outOfRange 0 (axisNow s.m n.val) = true →
    Answers (.rangeExceeded n) s fun t => (axisAt t.m n).phase = .down ∧ (axisAt t.m n).reason = .range) ∧
  (∀ (n : Fin 15) (s : State), ((axisAt s.m n).phase ≠ .down ∨ axisSrc s.m n.val ≠ .none) →
    Answers (.restart n) s fun t => (axisAt t.m n).phase = .acquire ∧ (axisAt t.m n).history = [] ∧ (axisAt t.m n).acq = 0 ∧
      (axisAt t.m n).sum = (axisAt s.m n).sum ∧ bit (t.m.rd (Reg.AXIS_AX_EVT n.val)) 0 = true) ∧
  (∀ (n : Fin 15) (s : State), (axisAt s.m n).phase = .locked → (axisAt s.m n).still = false → s.m.cf (Reg.AXIS_AX_CFG n.val) 15 8 ≠ 0 →
    Answers (.still n) s fun t => (axisAt t.m n).still = true ∧ (axisAt t.m n).v = 0 ∧ (axisAt t.m n).a = 0 ∧
      (axisAt t.m n).p = (axisAt s.m n).p ∧ bit (t.m.rd (Reg.AXIS_AX_EVT n.val)) 4 = true) ∧
  (∀ (n : Fin 15) (s : State), axisSrc s.m n.val ∈ [AxisSource.enQuad, .enPulse] → s.m.cf (Reg.AXIS_AX_INDEX_CFG n.val) 31 30 = 1 →
    (axisAt s.m n).phase ≠ .down →
    Answers (.index n) s fun t => t.m.rd (Reg.AXIS_AX_IDX_MT_LO n.val) = w32 t.m.mt ∧
      t.m.rd (Reg.AXIS_AX_IDX_MT_HI n.val) = w32 (t.m.mt / 2 ^ 32) ∧ bit (t.m.rd (Reg.AXIS_AX_EVT n.val)) 6 = true ∧ t.m.axes = s.m.axes) ∧
  (∀ (n : Fin 15) (s : State), Answers (.saveOffset n) s fun t =>
    (∃ g, Arr.at' t.m.axes.stored n = some ⟨s.m.serial, s.m.structId, g, axisOffset s.m n.val⟩) ∧ t.m.axes.ax = s.m.axes.ax) ∧
  (∀ (n : Fin 15) (s : State), Answers (.clearCounts n) s fun t => t.m.rd (Reg.AXIS_AX_ERRCNT n.val) = 0 ∧
    ∀ off, off ≠ Reg.AXIS_AX_ERRCNT n.val → t.m.rd off = s.m.rd off) ∧
  (∀ (n : Fin 15) (r : AxisRec) (s : State), axisRec s.m n.val = some r → r.publish = true → yieldsId s.m = false →
    carries s.m 0 = true → carries s.m 1 = false →
    Answers (.axisFrameSend n) s fun t => (axisAt t.m n).pubMt = t.m.mt ∧
      ∃ seq, t.m.out = ⟨.flue 0, t.m.mt, flueFrame ftAxis (nodeId s.m) 0 0 seq (axisPayload s.m n)⟩ :: s.m.out)

/-- From R145, R120: a batch in order on an open ring, within its credit and with room in the store, is accepted whole: the ring's
acknowledged batch and event counts move on by it, its events wait to be checked in their order, and no other ring changes. -/
def Obligations.BatchAccepted : Prop :=
  ∀ (p : Fin 4) (f : EthFrame) (e : Encap) (rec : RingRec) (s : State), batchEncap s.m p f = some e →
    bufferFull s.m p.val f.payload.length = false →
    let a := senderOf p e f
    let h := batchHdr f.payload
    let r := s.m.ringAt h.ring
    formatOk s.m a f.payload = true → h.ring < 64 → ringRec s.m h.ring = some rec → tb rec.ports p.val = true →
    s.m.sec.act ≠ .pause → (h.fwd = true → h.dest = nodeId s.m) → r.phase = .open → r.epoch = h.epoch → h.count ≠ 0 →
    h.bseq = r.ackBseq + 1 → h.firstEv = r.ackEv → after (h.firstEv + w32 h.count) r.evLimit = false →
    claimOk s.m h.ring h.count = true →
    Answers (.batch p f) s fun t =>
      (t.m.ringAt h.ring).ackBseq = h.bseq ∧ (t.m.ringAt h.ring).ackEv = r.ackEv + w32 h.count ∧
      (t.m.ringAt h.ring).unchecked = r.unchecked ++ uncheckedOf f.payload p.val h ∧
      t.m.rd Reg.INGEST_PUB_EVENTS = s.m.rd Reg.INGEST_PUB_EVENTS + w32 h.count ∧
      ∀ j < 64, j ≠ h.ring → t.m.ringAt j = s.m.ringAt j

/-- From R104, R118, R129: the next waiting event, when it has the command's opcode and passes the acceptance checks, leaves the receive
buffer and takes the next acceptance number; on an axis that offers no coordinate a timed event is held as it was sent. One that fails a
check is REJECTED with the reason and takes no number. From R106, R107, R113: a CANCEL that passes the checks takes every pending event it
reaches out of the store; a REPLACE gives its pending match the new axis, target and argument; a FENCE waits for the ring's earlier events
on its channel, or is FIRED at once. -/
def Obligations.EventsTakenInTurn : Prop :=
  (∀ (c : Instr) (code : Nat) (op : EvOp) (n : Fin 64) (u : Unchecked) (rest : List Unchecked) (s : State),
    (c, code, op) ∈ [(Instr.fire, 0x10, EvOp.fire), (.openEv, 0x11, .open), (.closeEv, 0x12, .close), (.level, 0x20, .level),
      (.setpt, 0x21, .setpt), (.mark, 0x30, .mark)] →
    noteRoom s.m = true → nextRing s.m = some n → (s.m.ringAt n.val).unchecked = u :: rest → byteAt u.bytes 0 = code →
    fifoFill s.m < fifoSlots →
    (checkFault s.m n.val (rawOf u.bytes) = none → Answers c s fun t =>
      t.m.hob.nextAcc = s.m.hob.nextAcc + 1 ∧ (t.m.ringAt n.val).unchecked = rest ∧
      (axisReady s.m (rawOf u.bytes).axis = false → ∃ e ∈ t.m.hob.events, e.acc = s.m.hob.nextAcc ∧ e.op = op ∧
        e.chan = (rawOf u.bytes).chan ∧ e.tag = (rawOf u.bytes).tag ∧ e.target = (rawOf u.bytes).target ∧
        e.arg = (rawOf u.bytes).arg ∧ e.axis = (rawOf u.bytes).axis ∧ e.producer = n.val ∧ e.place = .fifo)) ∧
    (∀ r, checkFault s.m n.val (rawOf u.bytes) = some r → Answers c s fun t =>
      t.m.hob.nextAcc = s.m.hob.nextAcc ∧ t.m.hob.events = s.m.hob.events ∧ (t.m.ringAt n.val).unchecked = rest ∧
      ∃ x, (t.m.ringAt n.val).notes = (s.m.ringAt n.val).notes ++ [x] ∧ x.note.kind = kRejected ∧ x.note.reason = r ∧
        x.note.tag = (rawOf u.bytes).tag)) ∧
  (∀ (n : Fin 64) (u : Unchecked) (rest : List Unchecked) (s : State),
    noteRoom s.m = true → nextRing s.m = some n → (s.m.ringAt n.val).unchecked = u :: rest → fifoFill s.m < fifoSlots →
    checkFault s.m n.val (rawOf u.bytes) = none →
    (byteAt u.bytes 0 = 0x40 → Answers .cancel s fun t =>
      t.m.hob.nextAcc = s.m.hob.nextAcc + 1 ∧ (t.m.ringAt n.val).unchecked = rest ∧
      ∀ p, Match.pending p ∈ cancelReach s.m n.val (rawOf u.bytes) → ∀ e ∈ t.m.hob.events, e.acc ≠ p.acc) ∧
    (∀ x, byteAt u.bytes 0 = 0x41 → replaceMatch s.m n.val (rawOf u.bytes) = some (.pending x) →
      axisReady s.m (rawOf u.bytes).axis = false → Answers .replace s fun t =>
        t.m.hob.nextAcc = s.m.hob.nextAcc + 1 ∧ ∃ e ∈ t.m.hob.events, e.acc = x.acc ∧ e.op = x.op ∧ e.chan = x.chan ∧
          e.axis = (rawOf u.bytes).axis ∧ e.target = (rawOf u.bytes).target ∧ e.arg = (rawOf u.bytes).arg ∧ e.replaced = true) ∧
    (byteAt u.bytes 0 = 0x50 → fenceFull s.m n.val (rawOf u.bytes) = false → Answers .fence s fun t =>
      let waits := (matches_ s.m n.val fun x => (rawOf u.bytes).chan == 0xFFFF || x.chan == (rawOf u.bytes).chan).map fun x => x.ev.acc
      t.m.hob.events = s.m.hob.events ∧
      (waits ≠ [] → (t.m.ringAt n.val).fences =
        (s.m.ringAt n.val).fences ++ [⟨(rawOf u.bytes).chan, (rawOf u.bytes).tag, waits⟩]) ∧
      (waits = [] → ∃ x, (t.m.ringAt n.val).notes = (s.m.ringAt n.val).notes ++ [x] ∧ x.note.kind = kFired ∧
        x.note.tag = (rawOf u.bytes).tag)))

/-- From R125, R127, R132, R160: the oldest event of the filing FIFO leaves it for its page, the far chain or the Hob; the pager visits a
ready axis up to its coordinate; the far chain gives up every event whose bucket has come within the span of the wheel; and an event at
its commit instant that passes the checks leaves the store with its first edge in its target's queue. From R101, R112: the edges of the
earliest MT among the outputs execute at that MT and leave their target's queue, and so do the marks of the earliest MT at which one is
due. -/
def Obligations.EventsReachTheirEdges : Prop :=
  (∀ (e : EvRec) (s : State), s.m.hob.events.find? (·.place == .fifo) = some e → (∀ x ∈ s.m.hob.events, x.acc < s.m.hob.nextAcc) →
    Answers .eventFiling s fun t => ∀ x ∈ t.m.hob.events, x.acc = e.acc → x.place ≠ .fifo) ∧
  (∀ (n : Fin 15) (s : State), axisReady s.m n.val = true →
    Answers (.pagerVisit ⟨n.val, by omega⟩) s fun t => (axisAt t.m n).visitP = axisNow t.m n.val) ∧
  (∀ s : State, Answers (.pagerVisit 15) s fun t => t.m.axes.axtVisit = t.m.mt) ∧
  (∀ (n : Fin 15) (s : State), 128 ≤ absN (bucketAt s.m n.val (axisNow s.m n.val) - (axisAt s.m n).sweepBucket) →
    Answers (.farChainSweep ⟨n.val, by omega⟩) s fun t =>
      (axisAt t.m n).sweepBucket = bucketAt s.m n.val (axisNow s.m n.val) ∧
      ∀ x ∈ t.m.hob.events, x.axis = n.val → x.place = .far → inSpan t.m n.val (bucketOf t.m x) = false) ∧
  (∀ (t0 : Nat) (e : EvRec) (τ : Int) (k : Fin 256) (s : State), nextCommitMt s.m = some t0 →
    let m := (s.m.advanceTo t0).enterPhase 5
    m.time.commits < 2 → nextCommit m = some e → timeOf m e = some τ → targetIx e.chan = some k →
    let e1 := τ - ((firstDelay m e).1 : Int)
    let dist := e.op == .fire && tb e.arg 31
    commitFault m e e1 (if dist then (timeOfDistance m e).isSome else true) = none →
    (∀ x ∈ s.m.hob.events, x.acc < s.m.hob.nextAcc) →
    Answers .commit s fun t => (∀ x ∈ t.m.hob.events, x.acc ≠ e.acc) ∧
      ∃ x ∈ queueOf t.m k, x.mt = e1.toNat ∧ x.acc = e.acc ∧ x.act = e.firstAct) ∧
  (∀ (k : Fin 256) (τ : Nat) (s : State), firstEdge s.m 0 160 = some (k.val, τ) → s.m.mt < τ → τ < 2 ^ 64 →
    Answers .edgeExecution s fun t => t.m.mt = τ ∧ ∀ x ∈ queueOf t.m k, x.mt ≠ τ) ∧
  (∀ (k : Fin 256) (τ : Nat) (s : State), firstEdge s.m 192 64 = some (k.val, τ) → s.m.mt < τ → τ < 2 ^ 64 →
    Answers .markInstant s fun t => t.m.mt = τ ∧ ∀ x ∈ queueOf t.m k, x.mt ≠ τ)

/-- From R144, R147, R155, R156, R158: a ring's stream is sent to its producer and marked sent; unreleased notifications are sent again;
the UPDATE round restarts its period; a close makes an open ring idle; a discard empties the stream and flags it. From R140, R141, R154: a
port answers a neighbour solicitation and an echo request for an address of its own, counts a frame that is no batch, and flags its link's
coming up and going down. -/
def Obligations.RingsAndPorts : Prop :=
  (∀ (n : Fin 64) (a : NoteAddr) (p : Fin 4) (x : StreamNote) (xs : List StreamNote) (s : State), (s.m.ringAt n.val).addr = some a →
    a.port = p.val → ((s.m.ringAt n.val).notes.filter (·.sent.isNone)) = x :: xs →
    Answers (.notificationFrame n) s fun t =>
      (∀ y ∈ (t.m.ringAt n.val).notes, y.nseq = x.nseq → y.sent = some t.m.mt) ∧
      (t.m.ringAt n.val).notes.length = (s.m.ringAt n.val).notes.length ∧
      ∃ bs, t.m.out = ⟨.net p a, t.m.mt, bs⟩ :: s.m.out ∧
        (s.m.cf Reg.INGEST_TIMING 31 24 = 0 → bs = noteFrame s.m n.val [x])) ∧
  (∀ (n : Fin 64) (a : NoteAddr) (s : State), (s.m.ringAt n.val).addr = some a → (s.m.ringAt n.val).notes.any (·.sent.isSome) = true →
    Answers (.noteRetx n) s fun t => (∀ y ∈ (t.m.ringAt n.val).notes, y.sent = some t.m.mt) ∧
      (t.m.ringAt n.val).notes.length = (s.m.ringAt n.val).notes.length) ∧
  (∀ s : State, s.m.ingest.lastUpdate + usT (s.m.cf Reg.INGEST_TIMING 15 0) < 2 ^ 64 →
    Answers .update s fun t => t.m.ingest.lastUpdate = t.m.mt ∧ s.m.ingest.lastUpdate + usT (s.m.cf Reg.INGEST_TIMING 15 0) ≤ t.m.mt) ∧
  (∀ (n : Fin 64) (s : State), (s.m.ringAt n.val).phase = .open →
    Answers (.ringClose n) s fun t => t.m.ringAt n.val = { s.m.ringAt n.val with phase := .idle } ∧
      ∀ j < 64, j ≠ n.val → t.m.ringAt j = s.m.ringAt j) ∧
  (∀ (n : Fin 64) (s : State), (s.m.ringAt n.val).notes ≠ [] →
    Answers (.discardNotes n) s fun t => (t.m.ringAt n.val).notes = [] ∧ bit (t.m.rd Reg.INGEST_INT_STATUS) 7 = true) ∧
  (∀ (p : Fin 4) (mac ip target : Nat) (s : State), s.m.cb (Reg.INGEST_PORT_CFG p.val) 31 = true → ownIp s.m p target = true →
    Answers (.neighbourSolicitation p mac ip target) s fun t =>
      t.m.out = ⟨.net p (ipSender p mac ip), s.m.mt, icmpBytes target ip 136 (beBytes 4 0x60000000 ++ beBytes 16 target ++
        beBytes 1 2 ++ beBytes 1 1 ++ beBytes 6 (netPort s.m p).mac)⟩ :: s.m.out) ∧
  (∀ (p : Fin 4) (mac ip dst : Nat) (body : List Byte) (s : State), s.m.cb (Reg.INGEST_PORT_CFG p.val) 31 = true →
    ownIp s.m p dst = true →
    Answers (.echoRequest p mac ip dst body) s fun t =>
      t.m.out = ⟨.net p (ipSender p mac ip), s.m.mt, icmpBytes dst ip 129 body⟩ :: s.m.out) ∧
  (∀ (p : Fin 4) (f : EthFrame) (s : State), batchEncap s.m p f = none →
    Answers (.frameDrop p f) s fun t => t.m.rf (Reg.INGEST_PORT_RX_DROP p.val) 31 0 =
      satU 32 (s.m.rf (Reg.INGEST_PORT_RX_DROP p.val) 31 0 + 1) ∧ t.m.ingest = s.m.ingest ∧ t.m.out = s.m.out) ∧
  (∀ (p : Fin 4) (s : State), s.m.cb (Reg.INGEST_PORT_CFG p.val) 31 = true → (netPort s.m p).link = false →
    Answers (.portLinkUp p) s fun t => (netPort t.m p).link = true ∧ bit (t.m.rd Reg.INGEST_INT_STATUS) 1 = true ∧
      ∀ q, q ≠ p → netPort t.m q = netPort s.m q) ∧
  (∀ (p : Fin 4) (a b c : Bool) (s : State), (netPort s.m p).link = true →
    Answers (.portLinkDown p a b c) s fun t => (netPort t.m p).link = false ∧ bit (t.m.rd Reg.INGEST_INT_STATUS) 0 = true ∧
      ∀ q, q ≠ p → netPort t.m q = netPort s.m q)

/-- From R164 to R168, R171: the end of a notch search is the opening measurement of its channel, and the end of a back-EMF search the
closing one; without a notch or a seating it is rejected. It is judged once and learned as the rules of the estimate say. -/
def Obligations.MeasurementsLearned : Prop :=
  (∀ (k : Fin 128) (o : OpenSamples) (t0 : Nat) (s : State),
    let h := homeVc s.m k
    let l := learnCh s.m h
    let p := (vc s.m h).prof
    let det := keptCfg l.openCfg (Reg.LEARN_PF_DETECT p)
    let found := notchFind (fld det 23 16) ⟨0, none⟩ (slopes o.current (fld det 31 24 * 10))
    l.openMeas = some t0 → l.phase ≠ .none →
    Answers (.openingMeasurement k o) s fun t => (learnCh t.m h).openMeas = none ∧
      (∀ j i, found = some (j, i) → measureTaken s.m t.m h true l.openCfg p
        (40 * j + 10 * o.quarter.val + fld (keptCfg l.openCfg (Reg.LEARN_PF_EXTRA p)) 15 0 * 4000)) ∧
      (found = none → measureTaken s.m t.m h true l.openCfg p 0 ∧ (learnCh t.m h).open_.lastCode ≠ 0)) ∧
  (∀ (k : Fin 128) (o : CloseSamples) (t0 : Nat) (s : State),
    let h := homeVc s.m k
    let l := learnCh s.m h
    let det := keptCfg l.closeCfg (Reg.LEARN_PF_DETECT l.closeProf)
    let seat := seatFind (fld det 7 0 * 100) false 0 o.voltage
    let at_ := fun i : Nat => o.start + 40 * i - 10 * o.quarter.val
    l.closeMeas = some t0 → l.phase ≠ .none →
    Answers (.closingMeasurement k o) s fun t => (learnCh t.m h).closeMeas = none ∧
      (∀ i, seat = some i → at_ i ≤ fld det 15 8 * 40000 → measureTaken s.m t.m h false l.closeCfg l.closeProf
        (at_ i + fld (keptCfg l.closeCfg (Reg.LEARN_PF_EXTRA l.closeProf)) 31 16 * 4000)) ∧
      ((∀ i, seat = some i → fld det 15 8 * 40000 < at_ i) →
        measureTaken s.m t.m h false l.closeCfg l.closeProf 0 ∧ (learnCh t.m h).close.lastCode ≠ 0))

/-- R170: while FREEZE is 1 a measurement is judged and reported, but EST, N and the outlier run of its side do not change. -/
def Obligations.FrozenLearningOnlyReports : Prop :=
  (∀ (k : Fin 128) (o : OpenSamples) (t0 : Nat) (s : State),
    let h := homeVc s.m k
    (learnCh s.m h).openMeas = some t0 → (learnCh s.m h).phase ≠ .none → s.m.cb (Reg.LEARN_CH_CFG h) 8 = true →
    Answers (.openingMeasurement k o) s fun t =>
      let x := (learnCh s.m h).open_
      let y := (learnCh t.m h).open_
      y.est = x.est ∧ y.n = x.n ∧ y.run = x.run ∧ y.runUp = x.runUp ∧ y.sum = x.sum ∧ (learnCh t.m h).close = (learnCh s.m h).close ∧
      t.m.rd Reg.LEARN_PUB_VALID = s.m.rd Reg.LEARN_PUB_VALID + (if y.lastCode = 0 then 1 else 0) ∧
      t.m.rd Reg.LEARN_PUB_REJECT = s.m.rd Reg.LEARN_PUB_REJECT + (if y.lastCode = 0 then 0 else 1)) ∧
  (∀ (k : Fin 128) (o : CloseSamples) (t0 : Nat) (s : State),
    let h := homeVc s.m k
    (learnCh s.m h).closeMeas = some t0 → (learnCh s.m h).phase ≠ .none → s.m.cb (Reg.LEARN_CH_CFG h) 8 = true →
    Answers (.closingMeasurement k o) s fun t =>
      let x := (learnCh s.m h).close
      let y := (learnCh t.m h).close
      y.est = x.est ∧ y.n = x.n ∧ y.run = x.run ∧ y.runUp = x.runUp ∧ y.sum = x.sum ∧ (learnCh t.m h).open_ = (learnCh s.m h).open_ ∧
      t.m.rd Reg.LEARN_PUB_VALID = s.m.rd Reg.LEARN_PUB_VALID + (if y.lastCode = 0 then 1 else 0) ∧
      t.m.rd Reg.LEARN_PUB_REJECT = s.m.rd Reg.LEARN_PUB_REJECT + (if y.lastCode = 0 then 0 else 1))

/-- From R172 to R174: a fingerprint of a coil is the stored one when none was stored; within its tolerances it makes a PENDING channel
WARM and otherwise draws the stored one a sixteenth nearer; a mismatch counts, and in PENDING, or at the count of FP_CFG, the coil is
taken as swapped and its learning starts again. A probe's end takes its bank from those due, and after the last ARM takes effect. -/
def Obligations.FingerprintsAndProbes : Prop :=
  (∀ (k : Fin 128) (f : CoilRise) (s : State),
    let h := homeVc s.m k
    let l := learnCh s.m h
    let r := (fingerOf s.m h f).1
    let cfg := s.m.cfg Reg.LEARN_FP_CFG
    let near := nearFp r.1 l.fpR (fld cfg 15 8) && nearFp r.2 l.fpL (fld cfg 7 0)
    l.phase ≠ .none → l.phase ≠ .pair →
    Answers (.fingerprint k f) s fun t =>
      (learnCh t.m h).fpRLast = r.1 ∧ (learnCh t.m h).fpLLast = r.2 ∧
      (l.fpR = 0 → l.fpL = 0 → (learnCh t.m h).fpR = r.1 ∧ (learnCh t.m h).fpL = r.2 ∧ (learnCh t.m h).open_ = l.open_ ∧
        (l.phase = .pending → (learnCh t.m h).phase = .warm)) ∧
      (¬(l.fpR = 0 ∧ l.fpL = 0) → near = true → (learnCh t.m h).mismatches = 0 ∧
        (l.phase = .pending → (learnCh t.m h).phase = .warm ∧ (learnCh t.m h).fpR = l.fpR ∧ (learnCh t.m h).fpL = l.fpL) ∧
        (l.phase ≠ .pending → (learnCh t.m h).fpR = driftFp l.fpR r.1 ∧ (learnCh t.m h).fpL = driftFp l.fpL r.2)) ∧
      (¬(l.fpR = 0 ∧ l.fpL = 0) → near = false → (l.phase = .pending ∨ fld cfg 19 16 ≤ l.mismatches + 1) →
        (learnCh t.m h).phase = .cold ∧ (learnCh t.m h).swapped = true ∧ (learnCh t.m h).fpR = r.1 ∧ (learnCh t.m h).open_.n = 0 ∧
        (learnCh t.m h).close.n = 0 ∧ bit (t.m.rd Reg.LEARN_INT_STATUS) 2 = true) ∧
      (¬(l.fpR = 0 ∧ l.fpL = 0) → near = false → l.phase ≠ .pending → l.mismatches + 1 < fld cfg 19 16 →
        (learnCh t.m h).mismatches = l.mismatches + 1 ∧ (learnCh t.m h).fpR = l.fpR ∧ (learnCh t.m h).open_ = l.open_)) ∧
  (∀ (b : Fin 16) (res : List ProbeRise) (s : State), s.m.pwr.arm = .arming → (∃ k ∈ s.m.pwr.probes, k.val / 8 = b.val) →
    Answers (.probe b res) s fun t =>
      t.m.pwr.probes = s.m.pwr.probes.filter (fun k => k.val / 8 != b.val) ∧
      ((∀ k ∈ s.m.pwr.probes, k.val / 8 = b.val) → t.m.pwr.arm = .armed ∧ t.m.pwr.armDone = true ∧ t.m.pwr.armResult = 0) ∧
      ((∃ k ∈ s.m.pwr.probes, k.val / 8 ≠ b.val) → t.m.pwr.arm = .arming) ∧
      ((∃ k ∈ s.m.pwr.probes, k.val / 8 = b.val ∧ res.find? (·.chan == k) = none) → bit (t.m.rd Reg.LEARN_INT_STATUS) 6 = true))

/-- From R172, R175, R176, R178: the delay table is saved SAVE_PERIOD after the last save while something has changed, each changed record
into one of its copies; FORGET clears a channel's learning and its stored records; LOAD makes the manual values its estimates and the
channel WARM. -/
def Obligations.LearningKept : Prop :=
  (∀ s : State, (∃ k < 128, (learnCh s.m k).changed = true ∨ (learnCh s.m k).erase = true) →
    Answers .delayTableSave s fun t => t.m.learn.lastSave = t.m.mt ∧
      (∀ k < 128, (learnCh t.m k).changed = false ∧ (learnCh t.m k).erase = false) ∧
      ∀ k : Fin 128, (learnCh s.m k.val).changed = true → (learnCh s.m k.val).erase = false →
        ∃ g, Arr.at' t.m.learn.table0 k = some (delayRecord s.m k.val g) ∨ Arr.at' t.m.learn.table1 k = some (delayRecord s.m k.val g)) ∧
  (∀ (k : Fin 128) (s : State),
    let h := homeVc s.m k
    (learnCh s.m h).phase ∈ [LearnPhase.cold, .warm, .pending] →
    (Answers (.forget k) s fun t => (learnCh t.m h).phase = .cold ∧ (learnCh t.m h).open_.n = 0 ∧ (learnCh t.m h).close.n = 0 ∧
      (learnCh t.m h).fpR = 0 ∧ (learnCh t.m h).fpL = 0 ∧ Arr.getD t.m.learn.table0 h none = none ∧
      Arr.getD t.m.learn.table1 h none = none) ∧
    (Answers (.load k) s fun t => (learnCh t.m h).phase = .warm ∧ (learnCh t.m h).open_.n = 16 ∧ (learnCh t.m h).close.n = 16 ∧
      (learnCh t.m h).open_.est = s.m.cf (Reg.LEARN_CH_MAN_OPEN h) 26 0 ∧
      (learnCh t.m h).close.est = s.m.cf (Reg.LEARN_CH_MAN_CLOSE h) 26 0))

/-- From R184, R187, R189: BOOST ends in PEAK with its bank back on VSOL; PEAK ends in HOLD, or in DECAY when every claim's switch-off was
held until then; DECAY ends in IDLE; a channel whose boost has waited starts it when its bank and rail allow and the Damper admits it, and
after BOOST_WAIT_MAX goes on without boost or ends; a switch-on that waited for the gap starts. -/
def Obligations.ValvePhases : Prop :=
  (∀ (k : Fin 128) (reached : Bool) (mj rail : Nat) (s : State),
    let h := homeVc s.m k
    let x := vc s.m h
    let until_ := x.boostStart + x.lat.boostT * 200 + usT x.lat.peakT
    x.phase = .boost → x.lat.peakT ≠ 0 → s.m.mt + 1 < until_ →
    Answers (.boostEnd k reached mj rail) s fun t =>
      (vc t.m h).phase = .peak ∧ (vc t.m h).peakEnd = until_ ∧ (vc t.m h).reached = reached ∧ (half t.m (halfOf h)).rail = rail ∧
      ((bankSt s.m (bankOf' h)).owner = fin? 128 h → bankSt t.m (bankOf' h) = ⟨.vsol, none⟩) ∧
      t.m.rd (Reg.VDRV_PUB_BOOST (halfOf h)) = s.m.rd (Reg.VDRV_PUB_BOOST (halfOf h)) + w32 mj) ∧
  (∀ (k : Fin 128) (reached : Bool) (s : State),
    let h := homeVc s.m k
    let x := vc s.m h
    x.phase = .peak →
    Answers (.peakEnd k reached) s fun t =>
      (x.heldOffs = [] → (vc t.m h).phase = .hold ∧ (vc t.m h).claims = x.claims) ∧
      (x.claims ≠ [] → x.level = 0 → (∀ c ∈ x.claims, c.1 ∈ x.heldOffs) →
        (vc t.m h).phase = .decay ∧ (vc t.m h).claims = [] ∧ (vc t.m h).lastOff = some t.m.mt) ∧
      (x.reached = false → reached = false → supplyWarn s.m (halfOf h) = false → x.slowRuns = 3 → x.slowRise = false →
        (vc t.m h).slowRise = true ∧ bit (t.m.rd (Reg.VDRV_CH_FAULT h)) 6 = true)) ∧
  (∀ (k : Fin 128) (ret clamp : Nat) (s : State),
    let h := homeVc s.m k
    (vc s.m h).phase = .decay → (vc s.m h).startWait ≠ .decayFull →
    Answers (.decayEnd k ret clamp) s fun t => (vc t.m h).phase = .idle ∧ (vc t.m h).onClamp = false ∧
      t.m.rd (Reg.VDRV_PUB_RETURN (halfOf h)) = s.m.rd (Reg.VDRV_PUB_RETURN (halfOf h)) + w32 ret) ∧
  (∀ (b : Fin 16) (rail k ma : Nat) (lim : Bool) (s : State), longestWait s.m b.val = some k → (bankSt s.m b.val).owner = none →
    vminBoost s.m (b.val / 8) ≤ rail → supplyWarn s.m (b.val / 8) = false → (takeOn s.m k (vc s.m k).lat).1 = some (ma, lim) →
    Answers (.boostStart b rail) s fun t => (vc t.m k).phase = .boost ∧ (vc t.m k).peakMa = ma ∧ (vc t.m k).boostStart = t.m.mt ∧
      bankSt t.m b.val = ⟨.bellows, fin? 128 k⟩) ∧
  (∀ (k : Fin 128) (s : State),
    let h := homeVc s.m k
    let x := vc s.m h
    x.phase = .wait →
    (x.lat.busyReject = true → x.claims ≠ [] →
      Answers (.boostWaitMax k) s fun t => (vc t.m h).phase = .idle ∧ (vc t.m h).claims = [] ∧
        bit (t.m.rd Reg.VDRV_INT_STATUS) 2 = true) ∧
    (x.lat.busyReject = false → 0 < x.lat.boostT → (takeOn s.m h x.lat).1 ≠ none →
      Answers (.boostWaitMax k) s fun t => (vc t.m h).phase = .peak ∧ (vc t.m h).skipped = true ∧
        bit (t.m.rd Reg.VDRV_INT_STATUS) 1 = true)) ∧
  (∀ (k : Fin 128) (g : Nat) (s : State),
    let h := homeVc s.m k
    let x := vc s.m h
    let p := latchProfile s.m h
    (x.startWait = .gap g → x.phase = .idle → (profOf s.m p).boostT = 0 → (profOf s.m p).peakT ≠ 0 →
      (takeOn s.m h (profOf s.m p)).1 ≠ none →
      Answers (.minimumGapEnd k) s fun t => (vc t.m h).phase = .peak ∧ (vc t.m h).prof = p ∧ (vc t.m h).startWait = .none ∧
        t.m.rd (Reg.VDRV_CH_COUNT h) = s.m.rd (Reg.VDRV_CH_COUNT h) + 1) ∧
    (x.startWait = .reopen g → x.phase = .decay → x.lat.peakT ≠ 0 → (takeOn s.m h x.lat).1 ≠ none →
      Answers (.minimumGapEnd k) s fun t => (vc t.m h).phase = .peak ∧ (vc t.m h).reopened = true))

/-- From R191, R196, R197: a PWM pulse starts at its grid instant, and its successor's is the next of the grid; its end switches the
channel off; a duty cut switches a driving channel off and flags it, and its release allows switch-ons again; the hold factor rises by 1 %
while the load fits the budget. -/
def Obligations.NozzlePwmAndDuty : Prop :=
  (∀ (k : Fin 128) (s : State),
    let h := homeVc s.m k
    let x := vc s.m h
    let p := profOf s.m x.levelProf
    x.pwmRun = true → x.pulse = false → x.claims = [] → p.pwm = true →
    Answers (.pwmPulseStart k) s fun t => (vc t.m h).nextPulse = nextGrid t.m h p ∧
      (x.phase = .idle → x.startWait = .none → x.lastOff = none → blocked s.m h = false → p.boostT = 0 → p.peakT ≠ 0 →
        (takeOn s.m h p).1 ≠ none →
        (vc t.m h).pulse = true ∧ (vc t.m h).pulseStart = t.m.mt ∧ (vc t.m h).phase = .peak ∧ (vc t.m h).prof = x.levelProf)) ∧
  (∀ (k : Fin 128) (s : State),
    let h := homeVc s.m k
    let x := vc s.m h
    x.pulse = true → x.pulseEnd ≠ 0 → x.claims = [] → x.phase.drives = true →
    Answers (.pwmPulseEnd k) s fun t => (vc t.m h).pulse = false ∧ (vc t.m h).phase = .decay ∧ (vc t.m h).lastOff = some t.m.mt) ∧
  (∀ (k : Fin 128) (s : State),
    let h := homeVc s.m k
    (vc s.m h).phase.drives = true → (vc s.m h).lat.dutyMax < 100 →
    Answers (.dutyCut k) s fun t => (vc t.m h).dutyCut = true ∧ (vc t.m h).phase = .decay ∧ (vc t.m h).claims = [] ∧
      bit (t.m.rd (Reg.VDRV_CH_FAULT h)) 7 = true ∧ bit (t.m.rd Reg.VDRV_INT_STATUS) 4 = true) ∧
  (∀ (k : Fin 128) (s : State),
    let h := homeVc s.m k
    (vc s.m h).dutyCut = true → (vc s.m h).phase.drives = false →
    Answers (.dutyCutRelease k) s fun t => (vc t.m h).dutyCut = false ∧ (vc t.m h).phase = (vc s.m h).phase) ∧
  (∀ (i : Fin 2) (ma : Nat) (s : State), (s.m.mt / 4000 + 1) * 4000 < 2 ^ 64 →
    let m := s.m.updHalf i.val fun h => { h with inputMa := ma }
    let f := (half s.m i.val).factor
    Answers (.holdFactorRaise i ma) s fun t => t.m.mt = (s.m.mt / 4000 + 1) * 4000 ∧ (half t.m i.val).inputMa = ma ∧
      (half t.m i.val).factor = if f < 100 ∧ loadOf m i.val (f + 1) ≤ budgetOf m i.val then f + 1 else f)

/-- From R200, R201: an open or a shorted coil latches its channel; a hot die, an input overcurrent and a bank selector's fault latch
every channel of their half or bank, each with its fault bit and without claims; a W1C of the latched bits releases a channel once its die
is cool. -/
def Obligations.ValveFaultsLatch : Prop :=
  (∀ (k : Fin 128) (s : State),
    let h := homeVc s.m k
    ((vc s.m h).phase = .boost ∨ (vc s.m h).phase = .peak ∨ (vc s.m h).phase = .hold) →
    Answers (.valveOpenFault k) s fun t => (vc t.m h).phase = .fault ∧ (vc t.m h).claims = [] ∧
      bit (t.m.rd (Reg.VDRV_CH_FAULT h)) 1 = true ∧ bit (t.m.rd Reg.VDRV_INT_STATUS) 0 = true) ∧
  (∀ (k : Fin 128) (s : State),
    let h := homeVc s.m k
    (vc s.m h).phase ≠ .fault →
    Answers (.valveShort k) s fun t => (vc t.m h).phase = .fault ∧ (vc t.m h).claims = [] ∧
      bit (t.m.rd (Reg.VDRV_CH_FAULT h)) 2 = true ∧ bit (t.m.rd Reg.VDRV_INT_STATUS) 0 = true) ∧
  (∀ (i : Fin 2) (s : State), (half s.m i.val).dieOt = false →
    Answers (.driveOvertemp i) s fun t => (half t.m i.val).dieOt = true ∧ (half t.m i.val).run = false ∧
      bit (t.m.rd Reg.VDRV_INT_STATUS) 9 = true ∧
      ∀ k ∈ halfChannels s.m i.val, (vc t.m k).phase = .fault ∧ bit (t.m.rd (Reg.VDRV_CH_FAULT k)) 3 = true) ∧
  (∀ (i : Fin 2) (s : State), Answers (.inputOc i) s fun t => (half t.m i.val).run = false ∧
      ∀ k ∈ halfChannels s.m i.val, (vc t.m k).phase = .fault ∧ bit (t.m.rd (Reg.VDRV_CH_FAULT k)) 4 = true) ∧
  (∀ (b : Fin 16) (s : State), Answers (.bankSw b) s fun t => bankSt t.m b.val = ⟨.off, none⟩ ∧
      ∀ k ∈ bankChannels s.m b.val, (vc t.m k).phase = .fault ∧ bit (t.m.rd (Reg.VDRV_CH_FAULT k)) 5 = true) ∧
  (∀ (k : Fin 128) (mask : Word) (s : State),
    let h := homeVc s.m k
    (vc s.m h).phase = .fault →
    ((∀ b, 1 ≤ b → b ≤ 5 → bit mask b = true) → (half s.m (halfOf h)).dieOt = false → limpGoverns s.m h = false →
      Answers (.vdrvFaultClear k mask) s fun t => (vc t.m h).phase = .idle ∧ t.m.rf (Reg.VDRV_CH_FAULT h) 5 1 = 0) ∧
    ((half s.m (halfOf h)).dieOt = true → bit (s.m.rd (Reg.VDRV_CH_FAULT h)) 3 = true →
      Answers (.vdrvFaultClear k mask) s fun t => (vc t.m h).phase = .fault ∧ bit (t.m.rd (Reg.VDRV_CH_FAULT h)) 3 = true)) ∧
  (∀ (i : Fin 2) (s : State), Answers (.dieOtEnd (.valveHalf i)) s fun t => (half t.m i.val).dieOt = false ∧ t.m.vdrv.ch = s.m.vdrv.ch) ∧
  (∀ (n : Fin 16) (s : State), Answers (.dieOtEnd (.fieldOutput n)) s fun t => (fo t.m n.val).hot = false)

/-- From R192, R193, R198 to R200: the warning of a VSOL input begins below VSOL_WARN, with the reduced budget and no channel left waiting
for a boost, and ends 0.5 V above it; VSOL below 6.0 V switches its half off until it has stood at 7.0 V; the Bellows converter runs while
its conditions hold; its rail's FULL, OV and LOW begin and end at their thresholds, and decays go over to the clamp. From R202, R203,
R307, R324: a write of an unlocked reset policy waits for the next boundary, and one of a locked policy is flagged; HOLD_MS after a
reset's onset a held output is switched off. -/
def Obligations.ValveSuppliesAndPolicies : Prop :=
  (∀ (i : Fin 2) (mv : Nat) (s : State), mv < s.m.cf (Reg.VDRV_SUP_WARN i.val) 8 0 * 100 → (half s.m i.val).vsolWarn = false →
    Answers (.supWarn i mv) s fun t => (half t.m i.val).vsolWarn = true ∧ (half t.m i.val).reduced = true ∧
      bit (t.m.rd Reg.VDRV_INT_STATUS) 7 = true ∧ ∀ k ∈ halfChannels s.m i.val, (vc t.m k).phase ≠ .wait) ∧
  (∀ (i : Fin 2) (mv : Nat) (s : State), s.m.cf (Reg.VDRV_SUP_WARN i.val) 8 0 * 100 + 500 ≤ mv → (half s.m i.val).vsolWarn = true →
    Answers (.vsolWarningEnd i mv) s fun t => (half t.m i.val).vsolWarn = false ∧
      (s.m.pwr.vbatWarn = false → (half t.m i.val).okSince = t.m.mt)) ∧
  (∀ (i : Fin 2) (s : State), (half s.m i.val).reduced = true → supplyWarn s.m i.val = false →
    (half s.m i.val).okSince + msTicks < 2 ^ 64 →
    Answers (.reducedBudgetEnd i) s fun t => (half t.m i.val).reduced = false ∧ (half s.m i.val).okSince + msTicks ≤ t.m.mt) ∧
  (∀ (i : Fin 2) (mv : Nat) (s : State), mv < 6000 → (half s.m i.val).uv = false →
    Answers (.vsolUv i mv) s fun t => (half t.m i.val).uv = true ∧ (half t.m i.val).run = false ∧
      bit (t.m.rd Reg.VDRV_INT_STATUS) 8 = true ∧
      ∀ k ∈ halfChannels s.m i.val, (vc t.m k).claims = [] ∧ (vc t.m k).phase.drives = false ∧ (vc t.m k).phase ≠ .wait) ∧
  (∀ (i : Fin 2) (mv : Nat) (s : State), 7000 ≤ mv →
    Answers (.vsolUvRelease i mv) s fun t => (half t.m i.val).uv = false ∧ (half t.m i.val).vsol = mv) ∧
  (∀ (i : Fin 2) (mv : Nat) (s : State), 69000 < mv → (half s.m i.val).ov = false →
    Answers (.bwOv i mv) s fun t => (half t.m i.val).ov = true ∧ (half t.m i.val).run = false ∧
      bit (t.m.rd Reg.VDRV_INT_STATUS) 6 = true ∧
      ∀ k ∈ halfChannels s.m i.val, (vc t.m k).phase = .decay → (vc t.m k).onClamp = true) ∧
  (∀ (i : Fin 2) (mv : Nat) (s : State), mv < vminBoost s.m i.val → (half s.m i.val).run = true → (half s.m i.val).low = false →
    Answers (.bwLow i mv) s fun t => (half t.m i.val).low = true ∧ bit (t.m.rd Reg.VDRV_INT_STATUS) 6 = true) ∧
  (∀ (i : Fin 2) (mv : Nat) (s : State), vset s.m i.val + 3000 ≤ mv →
    Answers (.bellowsFull i mv) s fun t => (half t.m i.val).full = true ∧
      ∀ k ∈ halfChannels s.m i.val, (vc t.m k).phase = .decay → (vc t.m k).onClamp = true) ∧
  (∀ (i : Fin 2) (mv : Nat) (s : State), mv < vset s.m i.val + 2000 →
    Answers (.fullEnd i mv) s fun t => (half t.m i.val).full = false ∧ (half t.m i.val).ov = false) ∧
  (∀ (i : Fin 2) (v rail : Nat) (s : State), bwMayRun (s.m.updHalf i.val fun h => { h with vsol := v }) i.val = true →
    Answers (.bellowsConverterStart i v rail) s fun t => (half t.m i.val).run = true ∧ (half t.m i.val).rail = rail) ∧
  (∀ (i : Fin 2) (v : Nat) (s : State), bwMayRun (s.m.updHalf i.val fun h => { h with vsol := v }) i.val = false →
    Answers (.converterStop i v) s fun t => (half t.m i.val).run = false ∧ (half t.m i.val).inputMa = 0) ∧
  (∀ (c r b : Nat) (w : Word) (s : State), (c ≤ 127 ∧ r = Reg.VDRV_INT_STATUS ∧ b = 11) ∨
      (256 ≤ c ∧ c ≤ 271 ∧ r = Reg.LSW_INT_STATUS ∧ b = 8) ∨ (512 ≤ c ∧ c ≤ 527 ∧ r = Reg.FIO_INT_STATUS ∧ b = 7) →
    ((policyFor s.m c).lock = false → Answers (.resetpolWrite c w) s fun t =>
      t.m.vdrv.polWrites = s.m.vdrv.polWrites.filter (·.1 != c) ++ [(c, w.toNat)] ∧ t.m.regs = s.m.regs ∧ t.m.grate = s.m.grate) ∧
    ((policyFor s.m c).lock = true → Answers (.resetpolWrite c w) s fun t =>
      t.m.vdrv = s.m.vdrv ∧ t.m.grate = s.m.grate ∧ bit (t.m.rd r) b = true)) ∧
  (∀ (c : Nat) (s : State), c ≤ 127 → (vc s.m c).phase = .held →
    Answers (.holdMsExpiry c) s fun t => (vc t.m c).phase = .decay ∧ (vc t.m c).lastOff = some t.m.mt) ∧
  (∀ (n : Fin 16) (u : Nat) (s : State), (ls s.m n).heldUntil = some u →
    Answers (.holdMsExpiry (256 + n.val)) s fun t => (ls t.m n).heldUntil = none ∧ (ls t.m n).level = 0 ∧ (ls t.m n).u = 0) ∧
  (∀ (n : Fin 16) (u : Nat) (s : State), (fo s.m n).heldUntil = some u →
    Answers (.holdMsExpiry (512 + n.val)) s fun t => (fo t.m n).heldUntil = none ∧ (fo t.m n).level = 0)

/-- From R229, R235 to R237: at the next sample instant every due loop is computed, and its output presented 800 ticks later. A loop in
STOP has the output 0; in MANUAL its output is MAN_OUT within the limits of the active bank and the range of its kind of output; in AUTO
its output lies within the same, and its integrator, unless held, within the active bank's limits. From R232, R233, R245 to R247: a
software set-point or feedback is armed for the MT its registers name, of a loop that the structure has, but not where another loop owns
the set-point; a trace starts empty and is discarded by STOP; an injection starts at its first word and STOP aborts it; SAVE_BANKS keeps
both banks and BANK_SEL. -/
def Obligations.LoopsRunAndServe : Prop :=
  (∀ (τ : Nat) (l : LoopRec) (s : State), nextLoopMt s.m = some τ → τ + 800 < 2 ^ 64 → l ∈ dueLoops s.m τ → l.loop < 32 →
    (∀ x ∈ dueLoops s.m τ, x.loop = l.loop → x = l) →
    Answers .loopSample s fun t =>
      let x := lp t.m l.loop
      t.m.mt = τ + 800 ∧ x.sampleMt = τ ∧ x.mode = wantedMode s.m l.loop ∧
      (x.mode = .stop → x.u = 0) ∧
      (x.mode = .manual → x.u = l.outKind.range (clampOut t.m l.loop x.bank (rdI t.m (Reg.LOOP_LP_MAN_OUT l.loop)))) ∧
      (x.mode = .auto → bankOk t.m l.loop x.bank = true →
        (∃ u, bankI t.m l.loop x.bank 7 ≤ u ∧ u ≤ bankI t.m l.loop x.bank 8 ∧ x.u = l.outKind.range u) ∧
        (x.intHeld = false → bankI t.m l.loop x.bank 5 * 65536 ≤ x.i ∧ x.i ≤ bankI t.m l.loop x.bank 6 * 65536))) ∧
  (∀ (n : Fin 32) (w : Word) (s : State), (s.m.recs.loopAt n.val).isSome = true →
    ((feederOf s.m n.val).isNone = true → Answers (.spValue n w) s fun t => t.m.rd (Reg.LOOP_LP_SP_VALUE n.val) = w ∧
      lp t.m n.val = { lp s.m n.val with sp := some (softMt s.m (s.m.rd (Reg.LOOP_LP_SP_MT n.val)), sWord w) }) ∧
    ((feederOf s.m n.val).isSome = true → Answers (.spValue n w) s fun t => t.m.loops = s.m.loops ∧
      t.m.rd (Reg.LOOP_LP_SP_VALUE n.val) = s.m.rd (Reg.LOOP_LP_SP_VALUE n.val) ∧
      bit (t.m.rd (Reg.LOOP_LP_EVT n.val)) 4 = true) ∧
    (Answers (.fbSwValue n w) s fun t => t.m.rd (Reg.LOOP_LP_FB_SW_VALUE n.val) = w ∧
      lp t.m n.val = { lp s.m n.val with fbArm := some (softMt s.m (s.m.rd (Reg.LOOP_LP_FB_SW_MT n.val)), sWord w) })) ∧
  (∀ s : State,
    ((s.m.loops.trace = .idle ∨ s.m.loops.trace = .done) → Answers .traceStart s fun t => t.m.loops.trace = .armed ∧
      (∀ c, trSamples t.m c = []) ∧ t.m.loops.lp = s.m.loops.lp) ∧
    ((s.m.loops.trace = .armed ∨ s.m.loops.trace = .triggered) → Answers .traceStop s fun t => t.m.loops.trace = .idle ∧
      (∀ c, trSamples t.m c = []) ∧ t.m.loops.lp = s.m.loops.lp)) ∧
  (∀ s : State,
    (s.m.loops.inj ≠ .running → 0 < injLength s.m → injLength s.m ≤ 16384 → Answers .injStart s fun t =>
      t.m.loops = { s.m.loops with inj := .running, injIx := 0, cap := [] }) ∧
    (s.m.loops.inj = .running → Answers .injStop s fun t => t.m.loops = { s.m.loops with inj := .aborted })) ∧
  (∀ (n : Fin 32) (s : State), (s.m.recs.loopAt n.val).isSome = true →
    Answers (.saveBanks n) s fun t => ∃ r, Arr.at' t.m.loops.stored n = some r ∧ r.serial = s.m.serial ∧
    r.structId = s.m.structId ∧ r.sel = bit (s.m.rd (Reg.LOOP_LP_MODE n.val)) 4 ∧ r.crcOk = true ∧
    (∀ o ∈ bankOffs n.val, Sparse.get resetOf r.regs o = s.m.rd o) ∧ ∀ j, j ≠ n → Arr.at' t.m.loops.stored j = Arr.at' s.m.loops.stored j)

/-- From R212, R214: LOAD replaces a tile of the store, or ORs it into APPLIED, and makes it when absent; EXPORT copies a tile, or zeros
with ABSENT, to the buffer and writes no other byte; DELETE removes it; each ends with TILE_DONE. A fetch caches the oldest tile
requested, and a write-back puts the tile changed first back into the store. -/
def Obligations.TilesMove : Prop :=
  (∀ (layer : Fin 4) (s : State), (coverRec s.m).isSome = true → layer.val ≠ 3 →
    let key := cmdKey s.m layer.val
    let x := tileAddr s.m
    (s.m.cover.job = .active → tileAddrOk x = true →
      (∀ t0, tileAt s.m key = some t0 → Answers (.tileLoad layer) s fun t => t.mem = s.mem ∧ t.m.cover.tileResult = 0 ∧
        bit (t.m.rd Reg.COVER_INT_STATUS) 7 = true ∧
        (∃ t1, tileAt t.m key = some t1 ∧ t1.slot = t0.slot ∧ t1.changed = true ∧
          t1.data = (if layer.val = 0 then t0.data ||| tileBuffer s else tileBuffer s)) ∧
        ∀ k, k ≠ key → tileAt t.m k = tileAt s.m k) ∧
      (∀ slot, tileAt s.m key = none → freeSlot s.m = some slot → Answers (.tileLoad layer) s fun t => t.mem = s.mem ∧
        t.m.cover.tileResult = 0 ∧ bit (t.m.rd Reg.COVER_INT_STATUS) 7 = true ∧
        tileAt t.m key = some ⟨key, slot, tileBuffer s, true, none⟩ ∧ ∀ k, k ≠ key → tileAt t.m k = tileAt s.m k)) ∧
    (s.m.cover.job ∈ [JobPhase.active, .pending, .stale] → tileAddrOk x = true → Answers (.tileExport layer) s fun t =>
      t.m.cover.tiles = s.m.cover.tiles ∧ bit (t.m.rd Reg.COVER_INT_STATUS) 7 = true ∧
      t.m.cover.tileResult = (if (tileAt s.m key).isSome then 0 else 1) ∧
      (∀ i < 8192, t.mem.rd (x + i) = BitVec.ofNat 8 ((match tileAt s.m key with
        | some t0 => t0.now
        | none => 0) / 256 ^ i)) ∧
      ∀ a, a < x ∨ x + 8192 ≤ a → t.mem.rd a = s.mem.rd a) ∧
    (s.m.cover.job = .active → Answers (.tileDelete layer) s fun t => tileAt t.m key = none ∧ t.m.cover.tileResult = 0 ∧
      bit (t.m.rd Reg.COVER_INT_STATUS) 7 = true ∧ ∀ k, k ≠ key → tileAt t.m k = tileAt s.m k)) ∧
  (∀ (key : TileKey) (rest : List TileKey) (t0 : Tile) (s : State), s.m.cover.fetches = key :: rest → tileAt s.m key = some t0 →
    t0.cache = none → (s.m.cover.tiles.filter (·.cache.isSome)).length < 64 →
    Answers .tileFetch s fun t => key ∉ t.m.cover.fetches ∧
      tileAt t.m key = some { t0 with cache := some ⟨t0.data, none, s.m.mt⟩ } ∧ ∀ k, k ≠ key → tileAt t.m k = tileAt s.m k) ∧
  (∀ (d : Nat) (key : TileKey) (t0 : Tile) (l : CacheLine) (s : State), oldestDirty s.m = some (d, key) → tileAt s.m key = some t0 →
    t0.cache = some l → Answers .tileWriteBack s fun t =>
      tileAt t.m key = some { t0 with data := l.data, cache := some { l with dirty := none } } ∧
      ∀ k, k ≠ key → tileAt t.m k = tileAt s.m k)

/-- From R216, R225, R226: an evaluation falls on the next whole millisecond, and sections are ENABLED after it only under COVER_CTL.EN,
with an ACTIVE job and a fresh pose. NEW_JOB empties the store and is ACTIVE; CONFIRM makes a PENDING job ACTIVE while it is valid;
CLOSE_JOB ends it; ARCHIVE and RESTORE start MC0, whose end writes the other half, or brings back the newer good archive as PENDING. -/
def Obligations.JobsAndEvaluation : Prop :=
  (∀ s : State, (coverRec s.m).isSome = true → nextEval s.m < 2 ^ 64 → Answers .coverageEvaluation s fun t =>
    t.m.mt = nextEval s.m ∧ t.m.cover.lastEval = nextEval s.m ∧ t.m.cover.jobCmd = 0 ∧
    (t.m.cover.enabled = true → coverCtl t.m 0 = true ∧ t.m.cover.job = .active ∧ poseOld t.m = false)) ∧
  (∀ s : State, (coverRec s.m).isSome = true → s.m.cover.arch = .none → nextEval s.m < 2 ^ 64 →
    let m := s.m.advanceTo (nextEval s.m)
    Answers .newJob s (fun t => t.m.mt = nextEval s.m ∧ t.m.cover.job = .active ∧ t.m.cover.jobId = jobReq s.m ∧
      t.m.cover.jobStruct = s.m.structId ∧ t.m.cover.tiles = [] ∧ t.m.cover.cell = s.m.cf Reg.COVER_CELL 9 0 ∧
      t.m.cover.rateCell = s.m.cf Reg.COVER_CELL 25 16 ∧ t.m.cover.jobResult = 0) ∧
    (s.m.cover.job = .pending → jobReq s.m = s.m.cover.jobId →
      (utcNow m = none → Answers .jobConfirm s fun t => t.m.cover.job = .pending ∧ t.m.cover.jobResult = 3) ∧
      ∀ now w, utcNow m = some now → s.m.cover.written = some w → Answers .jobConfirm s fun t =>
        (s.m.cf Reg.COVER_ARCH 31 16 = 0 ∨ now - w ≤ s.m.cf Reg.COVER_ARCH 31 16 * 3600 →
          t.m.cover.job = .active ∧ t.m.cover.jobResult = 0) ∧
        (s.m.cf Reg.COVER_ARCH 31 16 ≠ 0 → s.m.cf Reg.COVER_ARCH 31 16 * 3600 < now - w →
          t.m.cover.job = .stale ∧ t.m.cover.jobResult = 2)) ∧
    (s.m.cover.job = .pending → jobReq s.m ≠ s.m.cover.jobId → Answers .jobConfirm s fun t =>
      t.m.cover.job = .pending ∧ t.m.cover.jobResult = 1) ∧
    (s.m.cover.job ≠ .none → Answers .closeJob s fun t => t.m.cover.job = .none ∧ t.m.cover.enabled = false ∧ t.m.cover.tiles = [] ∧
      t.m.cover.jobResult = 0 ∧ bit (t.m.rd Reg.COVER_INT_STATUS) 8 = true) ∧
    (s.m.cover.job = .active → Answers .archive s fun t => t.m.mt = nextEval s.m ∧
      t.m.cover = { s.m.cover with arch := .archive, jobResult := 0 }) ∧
    (s.m.cover.job = .pending ∨ s.m.cover.job = .stale → Answers .restore s fun t => t.m.mt = nextEval s.m ∧
      t.m.cover = { s.m.cover with arch := .restore, jobResult := 0 })) ∧
  (∀ s : State, (coverRec s.m).isSome = true → s.m.cf Reg.COVER_ARCH 7 0 ≠ 0 → s.m.cover.dirty = true → s.m.cover.job = .active →
    s.m.cover.arch = .none → Answers .periodicArchive s fun t => t.m.cover = { s.m.cover with arch := .archive, jobResult := 0 }) ∧
  (∀ s : State, s.m.cover.arch = .archive → s.m.cover.tiles.length ≤ 6136 → Answers .archDone s fun t =>
    t.m.cover.arch = .none ∧ t.m.cover.jobResult = 0 ∧ t.m.cover.dirty = false ∧ bit (t.m.rd Reg.COVER_INT_STATUS) 9 = true ∧
    ∃ x : Archive, x.jobId = s.m.cover.jobId ∧ x.serial = s.m.serial ∧ x.crcOk = true ∧
      x.tiles = s.m.cover.tiles.map (fun y => (y.key, y.now)) ∧
      (∀ y, bestArchive s.m = some (false, y) → x.gen = y.gen + 1 ∧ t.m.cover.half1 = some x ∧ t.m.cover.half0 = s.m.cover.half0) ∧
      (∀ y, bestArchive s.m = some (true, y) → x.gen = y.gen + 1 ∧ t.m.cover.half0 = some x ∧ t.m.cover.half1 = s.m.cover.half1) ∧
      (bestArchive s.m = none → t.m.cover.half0 = some x ∧ t.m.cover.half1 = s.m.cover.half1)) ∧
  (∀ s : State, s.m.cover.arch = .restore →
    (bestArchive s.m = none → Answers .archDone s fun t => t.m.cover = { s.m.cover with arch := .none, jobResult := 5 } ∧
      bit (t.m.rd Reg.COVER_INT_STATUS) 9 = true) ∧
    ∀ h x, bestArchive s.m = some (h, x) → Answers .archDone s fun t => t.m.cover.arch = .none ∧ t.m.cover.jobResult = 0 ∧
      bit (t.m.rd Reg.COVER_INT_STATUS) 9 = true ∧
      (x.serial = s.m.serial → x.structId = s.m.structId → t.m.cover.job = .pending ∧ t.m.cover.jobId = x.jobId ∧
        t.m.cover.tiles.map (fun y => (y.key, y.now)) = x.tiles ∧ t.m.cover.written = some x.utc ∧
        t.m.cover.half0 = s.m.cover.half0 ∧ t.m.cover.half1 = s.m.cover.half1) ∧
      (¬(x.serial = s.m.serial ∧ x.structId = s.m.structId) → t.m.cover.job = .stale ∧ t.m.cover.tiles = s.m.cover.tiles))

/-- From R251 to R257, R259: setting EN starts a tracking channel at its START with the rates written; a dump takes both rates and
delivers a complete navigation word, whose pieces are read oldest first; a search pass keeps the strongest cell, and a candidate's last
pass above threshold leaves it for a second dwell; an observable epoch latches GC0 to GC31 in one tick; a burst starts and ends; a restart
empties the receiver. -/
def Obligations.GnssTracksAndLatches : Prop :=
  (∀ (c : Fin 96) (w : Word) (s : State), s.m.variant = .g →
    Answers (.channelStart c w) s fun t => t.m.rd (Reg.GNSS_GC_CFG c.val) = w ∧
      (bit w 31 = true → gcEn s.m c.val = false → gc t.m c = { GcSt.reset with
        code := s.m.rd (Reg.GNSS_GC_CODE_RATE c.val), carr := s.m.rd (Reg.GNSS_GC_CARR_RATE c.val),
        started := (s.m.rd (Reg.GNSS_GC_START c.val)).toNat }) ∧
      (bit w 31 = false ∨ gcEn s.m c.val = true → gc t.m c = gc s.m c) ∧ ∀ d, d ≠ c → gc t.m d = gc s.m d) ∧
  (∀ (c : Fin 96) (d : DumpIn) (s : State), s.m.variant = .g → tracked s.m c.val = true →
    Answers (.correlatorDump c d) s fun t => (gc t.m c).acc = d.acc.toList ∧
      (gc t.m c).dumps = ((gc s.m c).dumps + 1) % 65536 ∧ (gc t.m c).overrun = (gc s.m c).unread ∧ (gc t.m c).unread = true ∧
      (gc t.m c).code = s.m.rd (Reg.GNSS_GC_CODE_RATE c.val) ∧ (gc t.m c).carr = s.m.rd (Reg.GNSS_GC_CARR_RATE c.val) ∧
      (d.word = none → (gc t.m c).fifo = (gc s.m c).fifo) ∧
      (∀ x, d.word = some x → (gc t.m c).fifo = (gc s.m c).fifo ++ navPieces x.ok (x.bits.length + 1) true x.bits) ∧
      ∀ j, j ≠ c → gc t.m j = gc s.m j) ∧
  (∀ (c : Fin 96) (w : Word) (ws : List Word) (s : State), (gc s.m c).fifo = w :: ws →
    Answers (.navFifoRead c) s fun t => gc t.m c = { gc s.m c with fifo := ws } ∧ (∀ j, j ≠ c → gc t.m j = gc s.m j) ∧
      t.m.out = ⟨.core 0, s.m.mt, leBytes 4 w.toNat⟩ :: s.m.out) ∧
  (∀ (p : AcqPass) (s : State), s.m.variant = .g → coldPasses p.signal.val ≠ 0 →
    let cell : Cell := ⟨p.signal.val, p.sv, p.phase, p.bin, p.power⟩
    Answers (.acquisitionPass p) s fun t =>
      (∀ x, s.m.gnss.acq.dwell = some x → t.m.gnss.acq.dwell = none ∧
        t.m.gnss.acq.verified = if p.above then some x else s.m.gnss.acq.verified) ∧
      (s.m.gnss.acq.dwell = none → s.m.gnss.acq.passes + 1 < (if p.hot then 1 else coldPasses p.signal.val) →
        t.m.gnss.acq.passes = s.m.gnss.acq.passes + 1 ∧ (s.m.gnss.acq.best = none → t.m.gnss.acq.best = some cell) ∧
        ∀ x, s.m.gnss.acq.best = some x → x.signal = cell.signal → x.sv = cell.sv →
          t.m.gnss.acq.best = some (if cell.power ≤ x.power then x else cell)) ∧
      (s.m.gnss.acq.dwell = none → (if p.hot then 1 else coldPasses p.signal.val) ≤ s.m.gnss.acq.passes + 1 →
        t.m.gnss.acq.passes = 0 ∧ (p.above = false → t.m.gnss.acq.dwell = none) ∧
        (s.m.gnss.acq.best = none → p.above = true → t.m.gnss.acq.dwell = some cell))) ∧
  (∀ (recs : Arr 32 (Option ObsIn)) (s : State), s.m.variant = .g → nextEpoch s.m < 2 ^ 64 →
    Answers (.observableEpoch recs) s fun t => t.m.mt = nextEpoch s.m ∧ t.m.gnss.epoch = some (nextEpoch s.m) ∧
      t.m.rd Reg.GNSS_OBS_SEQ = s.m.rd Reg.GNSS_OBS_SEQ + 1 ∧ bit (t.m.rd Reg.GNSS_EPOCH_STATUS) 0 = true ∧
      t.m.rd Reg.GNSS_OBS_MT_LO = w32 (nextEpoch s.m) ∧ t.m.rd Reg.GNSS_OBS_MT_HI = w32 (nextEpoch s.m / 2 ^ 32) ∧
      ∀ (c : Fin 32) (j : Fin 8),
        (∀ o, Arr.at' recs c = some o → tracked s.m c.val = true →
          t.m.rd (Reg.GNSS_OBS_W c.val j.val) = (obsRecord s.m c.val o).getD j.val 0) ∧
        (Arr.at' recs c = none ∨ tracked s.m c.val = false → t.m.rd (Reg.GNSS_OBS_W c.val j.val) = 0)) ∧
  (∀ s : State, s.m.variant = .g → burstSet s.m = true → s.m.gnss.burst = false → cdiv s.m.mt secTicks * secTicks < 2 ^ 64 →
    Answers .burstStart s fun t => t.m.gnss = { s.m.gnss with burst := true } ∧ t.m.mt = cdiv s.m.mt secTicks * secTicks) ∧
  (∀ s : State, s.m.gnss.burst = true → s.m.mt / secTicks * secTicks + secTicks / 10 < 2 ^ 64 →
    Answers .burstEnd s fun t => t.m.gnss = { s.m.gnss with burst := false } ∧
      t.m.mt = max s.m.mt (s.m.mt / secTicks * secTicks + secTicks / 10)) ∧
  (∀ s : State, s.m.variant = .g →
    Answers .gnssRestart s fun t => (∀ c < 96, gcEn t.m c = false) ∧ (∀ c, gc t.m c = GcSt.reset) ∧ t.m.gnss.fix = 0 ∧
      t.m.gnss.acq = ⟨none, 0, none, none⟩ ∧ t.m.gnss.tstate = s.m.gnss.tstate ∧ t.m.gnss.map = s.m.gnss.map ∧
      (s.m.gnss.fix ≠ 0 → bit (t.m.rd Reg.GNSS_INT_STATUS) 0 = true))

/-- From R260 to R262, R265 to R267, R269: a solution for the last epoch is published when enough signals pass the checks, with the fix
and the epoch's MT; otherwise there is no fix and no publication. The first one sets the mapping and locks time; in LOCKED a solution
within CLK_TOL disciplines it, one outside it does not, and the tenth such ends LOCKED; five agreeing ones end HOLDOVER and FREE. A
correction frame is taken when its CRC is good and discarded otherwise; the stored navigation items are saved and erased. -/
def Obligations.GnssSolves : Prop :=
  (∀ (sol : PvtSol) (e : Nat) (s : State), s.m.variant = .g → s.m.gnss.epoch = some e → s.m.gnss.solved ≠ some e →
    s.m.mt < e + epochPeriod s.m →
    let m0 := s.m.updGnss fun g => { g with solved := some e }
    let m1 := (List.range 4).foldl (fun m i => checkSys m i (Arr.getD sol.isb i none)) (checkRes 4 sol.residuals (sol.devs.foldl checkDev m0))
    let tol := s.m.cf Reg.GNSS_CHECK_CFG 7 0 * 10
    let err := rdiv (sol.gps * nsQ - gpsQ s.m e) nsQ.toNat
    (solvable m1 sol = false → Answers (.pvtSolution sol) s fun t => t.m.gnss.solved = some e ∧ t.m.gnss.fix = 0 ∧
      t.m.rd Reg.GNSS_PVT_SEQ = s.m.rd Reg.GNSS_PVT_SEQ ∧ t.m.gnss.tstate = s.m.gnss.tstate ∧ t.m.gnss.map = s.m.gnss.map) ∧
    (solvable m1 sol = true → Answers (.pvtSolution sol) s fun t => t.m.gnss.solved = some e ∧
      t.m.gnss.fix = fixCode (fixOf m1 sol e) ∧ t.m.rd Reg.GNSS_PVT_SEQ = s.m.rd Reg.GNSS_PVT_SEQ + 1 ∧
      t.m.rd Reg.GNSS_PVT_MT_LO = w32 e ∧ t.m.rd Reg.GNSS_PVT_HEIGHT = wInt sol.height ∧
      bit (t.m.rd Reg.GNSS_INT_STATUS) 9 = true ∧
      (s.m.gnss.tstate = .none → t.m.gnss.tstate = .locked ∧ t.m.gnss.u0 = sol.unc ∧ t.m.gnss.discMt = e ∧
        (ownTime s.m = true → t.m.gnss.map = ⟨e, sol.gps * nsQ, sol.drift⟩)) ∧
      (s.m.gnss.tstate = .locked → s.m.gnss.retDue = false → s.m.gnss.slew = none → s.m.gnss.step = none →
        (absN err ≤ tol → ownTime s.m = true → t.m.gnss.tstate = .locked ∧ t.m.gnss.rejects = 0 ∧
          t.m.gnss.map = ⟨e, sol.gps * nsQ, sol.drift⟩ ∧ t.m.gnss.u0 = sol.unc ∧ t.m.gnss.discMt = e) ∧
        (tol < absN err → t.m.gnss.map = s.m.gnss.map ∧ bit (t.m.rd Reg.GNSS_INT_STATUS) 5 = true ∧
          (s.m.gnss.rejects + 1 < 10 → t.m.gnss.tstate = .locked ∧ t.m.gnss.rejects = s.m.gnss.rejects + 1) ∧
          (10 ≤ s.m.gnss.rejects + 1 → t.m.gnss.tstate = .holdover ∧ t.m.gnss.reason = 2))) ∧
      (s.m.gnss.tstate = .holdover ∨ s.m.gnss.tstate = .free →
        ((agreeing tol err s.m.gnss.agree).length < 5 → t.m.gnss.tstate = s.m.gnss.tstate) ∧
        (5 ≤ (agreeing tol err s.m.gnss.agree).length → t.m.gnss.tstate = .locked)))) ∧
  (∀ (c : Instr) (bs : List Byte) (s : State), s.m.variant = .g →
    ((∃ w : Word, c = .rtcmWord w ∧ bs = leBytes 4 w.toNat) ∨ ∃ x : Byte, c = .rtcmByte x ∧ bs = [x]) →
    let f := s.m.gnss.rtcm ++ bs
    let n := bitsAt f 14 10
    f.head? = some 0xD3#8 →
    (f.length < 3 ∨ f.length < n + 6 → f.length ≤ 4096 → Answers c s fun t => t.m.gnss.rtcm = f ∧
      t.m.rd Reg.GNSS_RTCM_COUNT = s.m.rd Reg.GNSS_RTCM_COUNT) ∧
    (3 ≤ f.length → f.length = n + 6 → crc24q (f.take (n + 3)) = beNat (f.drop (n + 3)) → 19 ≤ n → Answers c s fun t => t.m.gnss.rtcm = [] ∧
      t.m.rf Reg.GNSS_RTCM_COUNT 15 0 = (s.m.rf Reg.GNSS_RTCM_COUNT 15 0 + 1) % 65536) ∧
    (3 ≤ f.length → f.length = n + 6 → crc24q (f.take (n + 3)) ≠ beNat (f.drop (n + 3)) → Answers c s fun t => t.m.gnss.rtcm = [] ∧
      t.m.rf Reg.GNSS_RTCM_COUNT 31 16 = satU 16 (s.m.rf Reg.GNSS_RTCM_COUNT 31 16 + 1) ∧
      bit (t.m.rd Reg.GNSS_INT_STATUS) 6 = true)) ∧
  (∀ (c : Instr) (s : State), s.m.variant = .g → (c = .saveNav ∨ (c = .navPeriodicSave ∧ s.m.gnss.navChanged = true)) →
    Answers c s fun t => t.m.gnss.navChanged = false ∧ t.m.gnss.lastSave = t.m.mt ∧
      ∀ i, ∃ x, Arr.at' t.m.gnss.nav i = some x ∧ x.serial = s.m.serial ∧ x.structId = s.m.structId ∧ x.crcOk = true ∧
        x.ref = Arr.at' s.m.gnss.navRef i) ∧
  (∀ s : State, s.m.variant = .g → Answers .clearNav s fun t => t.m.gnss = { s.m.gnss with nav := Arr.fill 4 none } ∧
    ∀ i, Arr.at' t.m.gnss.nav i = none)

/-- From R250, R268 to R271: the bias current classifies the antenna, and a short takes its bias off until the retry; LOCKED ends 2 s
after the last disciplining solution, HOLDOVER when the uncertainty has grown past its limit; GPS time runs on through the end of a slew;
and the pulse is driven at the tick nearest its second, the announcing one raising TP_STEP. -/
def Obligations.GnssAntennaAndTime : Prop :=
  (∀ (ma : Nat) (s : State), s.m.variant = .g → biasEn s.m = true →
    (ma < 2 → Answers (.antennaOpen ma) s fun t => t.m.gnss = { s.m.gnss with ant := .open_, current := ma } ∧
      (s.m.gnss.ant ≠ .open_ → bit (t.m.rd Reg.GNSS_INT_STATUS) 3 = true)) ∧
    (110 < ma → Answers (.antennaShort ma) s fun t =>
      t.m.gnss = { s.m.gnss with ant := .short, bias := false, antMt := s.m.mt, current := 0 } ∧
      (s.m.gnss.ant ≠ .short → bit (t.m.rd Reg.GNSS_INT_STATUS) 3 = true)) ∧
    (2 ≤ ma → ma ≤ 110 → Answers (.antennaOk ma) s fun t => t.m.gnss = { s.m.gnss with ant := .ok, bias := true, current := ma } ∧
      (s.m.gnss.ant ≠ .ok → bit (t.m.rd Reg.GNSS_INT_STATUS) 3 = true))) ∧
  (∀ s : State, s.m.gnss.ant = .short → biasEn s.m = true → s.m.gnss.bias = false → s.m.gnss.antMt + secTicks < 2 ^ 64 →
    Answers .antennaBiasRetry s fun t => t.m.mt = max s.m.mt (s.m.gnss.antMt + secTicks) ∧
      t.m.gnss = { s.m.gnss with bias := true, antMt := t.m.mt }) ∧
  (∀ s : State, s.m.gnss.tstate = .locked → s.m.gnss.discMt + 2 * secTicks < 2 ^ 64 →
    Answers .timeHoldover s fun t => t.m.mt = max s.m.mt (s.m.gnss.discMt + 2 * secTicks) ∧ t.m.gnss.map = s.m.gnss.map ∧
      t.m.gnss.tstate = .holdover ∧ t.m.gnss.reason = 1 ∧ bit (t.m.rd Reg.GNSS_INT_STATUS) 1 = true) ∧
  (∀ s : State, s.m.gnss.tstate = .holdover →
    s.m.cf Reg.GNSS_HOLD_CFG 31 16 * 1000 * 6400000000000000000000 < uncNum s.m (2 ^ 63) →
    Answers .timeFree s fun t => t.m.gnss.tstate = .free ∧ t.m.gnss.map = s.m.gnss.map ∧
      bit (t.m.rd Reg.GNSS_INT_STATUS) 1 = true) ∧
  (∀ (x : Int × Nat) (s : State), s.m.gnss.slew = some x →
    Answers .slewDone s fun t => t.m.gnss.slew = none ∧ t.m.gnss.map.y = s.m.gnss.map.y ∧ gpsQ t.m t.m.mt = gpsQ s.m t.m.mt) ∧
  (∀ s : State, timeKnown s.m = true →
    let at_ := pulseAt (pulseMap s.m)
    at_.2 < 2 ^ 64 → Answers .timePulse s fun t => t.m.mt = at_.2 ∧
      (pulseOn s.m = true → t.m.out = ⟨.pulse, at_.2, leBytes 8 at_.2⟩ :: s.m.out ∧
        t.m.gnss.pulseMt = at_.2 ∧ t.m.gnss.pulseTow = (at_.1 % 604800).toNat) ∧
      (pulseOn s.m = false → t.m.out = s.m.out ∧ t.m.gnss.pulseMt = s.m.gnss.pulseMt) ∧
      (stepNext s.m = true → bit (t.m.rd Reg.GNSS_INT_STATUS) 2 = true))

/-- From R273, R274, R277 to R281, R284: a LINK frame is heard and one that echoes this module's measures the link; one is sent every
millisecond. A port comes UP once locked and measured, goes DOWN at loss of lock or the eighth bad CRC in a row, and with no port UP the
module is ALONE. A PRESENCE gives the route to its sender and one with this module's own ID a conflict; routes expire 350 ms after their
last; the ID's position is fixed 50 ms after the first port and at RENUMBER; the master of a ring places the gap opposite itself. -/
def Obligations.FlueLinksAndRoutes : Prop :=
  (∀ (q : Fin 2) (f : FlueFrameIn) (s : State),
    let echo := leAt f.payload 16 8
    let held := leAt f.payload 24 8
    let p := fport s.m q
    Answers (.linkFrame q f) s fun t => (fport t.m q).lock = true ∧ (fport t.m q).neighbour = f.src ∧ (fport t.m q).badRun = 0 ∧
      (fport t.m q).heard = some (leAt f.payload 8 8, s.m.mt) ∧ fport t.m (otherPort q) = fport s.m (otherPort q) ∧
      t.m.rd (Reg.FLUE_PORT_RX_FRAMES q.val) = s.m.rd (Reg.FLUE_PORT_RX_FRAMES q.val) + 1 ∧
      (echo ≠ 0 → p.linkSent ≠ none → echo + held ≤ s.m.mt → (fport t.m q).delays = ((s.m.mt - echo - held) :: p.delays).take 16) ∧
      (echo = 0 ∨ p.linkSent = none → (fport t.m q).delays = p.delays)) ∧
  (∀ (q : Fin 2) (s : State), (∀ x, (fport s.m q).linkSent = some x → x + msTicks < 2 ^ 64) →
    Answers (.linkFrameSend q) s fun t => (fport t.m q).linkSent = some t.m.mt ∧
      (∀ x, (fport s.m q).linkSent = some x → t.m.mt = max s.m.mt (x + msTicks)) ∧
      t.m.rd (Reg.FLUE_PORT_TX_FRAMES q.val) = s.m.rd (Reg.FLUE_PORT_TX_FRAMES q.val) + 1 ∧
      ∃ seq echo held, ((fport s.m q).heard = none → echo = 0 ∧ held = 0) ∧
        (∀ x y, (fport s.m q).heard = some (x, y) → echo = x ∧ held = t.m.mt - y) ∧
        t.m.out = ⟨.flue q, t.m.mt, flueFrame ftLink (nodeId s.m) 0 0 seq
          (leBytes 8 s.m.serial.toNat ++ leBytes 8 t.m.mt ++ leBytes 8 echo ++ leBytes 8 held)⟩ :: s.m.out) ∧
  (∀ (q : Fin 2) (closes : Bool) (s : State), (fport s.m q).up = false → (fport s.m q).lock = true → (fport s.m q).delays ≠ [] →
    Answers (.fluePortUp q closes) s fun t => (fport t.m q).up = true ∧ (fport t.m q).gap = closes ∧
      t.m.flue.ring = (s.m.flue.ring || closes) ∧ bit (t.m.rd Reg.FLUE_INT_STATUS) 1 = true ∧
      fport t.m (otherPort q) = fport s.m (otherPort q)) ∧
  (∀ (c : Instr) (q : Fin 2) (s : State), (fport s.m q).up = true →
    (c = .fluePortDown q ∨ (c = .flueFrameDiscard q .crc ∧ 7 ≤ (fport s.m q).badRun)) →
    Answers c s fun t => (fport t.m q).up = false ∧ bit (t.m.rd Reg.FLUE_INT_STATUS) 0 = true ∧
      (fport t.m (otherPort q)).up = (fport s.m (otherPort q)).up ∧
      ((fport s.m (otherPort q)).up = false → t.m.flue.fstate = .alone ∧ t.m.flue.master = none)) ∧
  (∀ (q : Fin 2) (s : State),
    (Answers (.flueFrameDiscard q .type) s fun t =>
      t.m.rf (Reg.FLUE_PORT_DROP q.val) 31 0 = satU 32 (s.m.rf (Reg.FLUE_PORT_DROP q.val) 31 0 + 1)) ∧
    ((fport s.m q).badRun < 7 → Answers (.flueFrameDiscard q .crc) s fun t =>
      t.m.rf (Reg.FLUE_PORT_RX_ERR q.val) 31 0 = satU 32 (s.m.rf (Reg.FLUE_PORT_RX_ERR q.val) 31 0 + 1) ∧
      (fport t.m q).badRun = (fport s.m q).badRun + 1 ∧ (fport t.m q).up = (fport s.m q).up)) ∧
  (∀ (q : Fin 2) (f : FlueFrameIn) (s : State), carries s.m q = true →
    (f.src ≠ nodeId s.m → Answers (.presence q f) s fun t =>
      (∃ r ∈ t.m.flue.routes, r.id = f.src ∧ r.port = q ∧ r.hops = f.hops + 1 ∧ r.seen = s.m.mt) ∧
      (∀ r ∈ s.m.flue.routes, r.id ≠ f.src → r ∈ t.m.flue.routes) ∧ t.m.flue.dup = s.m.flue.dup ∧
      (tb (byteAt f.payload 10) 0 = true → t.m.flue.ring = false ∧ (fport t.m q).gap = false)) ∧
    (f.src = nodeId s.m → leAt f.payload 0 8 ≠ s.m.serial.toNat → Answers (.presence q f) s fun t => t.m.flue.dup = true ∧
      t.m.flue.dupMt = s.m.mt ∧ t.m.flue.dupSerial = leAt f.payload 0 8 ∧ t.m.flue.routes = s.m.flue.routes ∧
      (s.m.flue.dup = false → bit (t.m.rd Reg.FLUE_INT_STATUS) 7 = true))) ∧
  (∀ (topology : Bool) (s : State), (∀ x, s.m.flue.presSent = some x → x + 100 * msTicks < 2 ^ 64) →
    Answers (.presenceSend topology) s fun t => t.m.flue.presSent = some t.m.mt ∧
      (∀ x, s.m.flue.presSent = some x → t.m.mt = if topology then s.m.mt else max s.m.mt (x + 100 * msTicks)) ∧
      ∀ q, carries s.m q = true → ∃ seq, ⟨.flue q, t.m.mt, flueFrame ftPresence (nodeId s.m) 0 0 seq (presencePayload s.m false)⟩ ∈ t.m.out) ∧
  (∀ s : State, s.m.flue.dup = true → s.m.flue.dupMt + secTicks < 2 ^ 64 →
    Answers .dupIdClear s fun t => t.m.flue = { s.m.flue with dup := false } ∧ t.m.mt = max s.m.mt (s.m.flue.dupMt + secTicks)) ∧
  (∀ (x : Nat) (s : State), (s.m.flue.routes.map (·.seen)).min? = some x → x + 350 * msTicks < 2 ^ 64 →
    Answers .routeExpiry s fun t => t.m.mt = max s.m.mt (x + 350 * msTicks) ∧
      t.m.flue = { s.m.flue with routes := s.m.flue.routes.filter fun r => decide (t.m.mt < r.seen + 350 * msTicks) } ∧
      ∀ r ∈ t.m.flue.routes, r.seen ≠ x) ∧
  (∀ (x : Nat) (s : State), s.m.flue.firstUp = some x → s.m.flue.fixed = false → x + 50 * msTicks < 2 ^ 64 →
    Answers .positionEnumeration s fun t => t.m.mt = max s.m.mt (x + 50 * msTicks) ∧
      t.m.flue = { s.m.flue with pos := position s.m, fixed := true }) ∧
  (∀ s : State, anyUp s.m = true → Answers .renumber s fun t => t.m.flue = { s.m.flue with pos := position s.m, fixed := true }) ∧
  (∀ (c : Instr) (x : Nat) (s : State), s.m.flue.master = some x → s.m.flue.ring = true →
    (c = .gapPlacement ∨ (c = .placeGap ∧ s.m.flue.fstate = .master)) →
    let n := chainCount s.m
    let p := placeFrom s.m x
    Answers c s fun t => (fport t.m 0).gap = decide (p = (n / 2 + 1) % n) ∧ (fport t.m 1).gap = decide (p = n / 2) ∧
      (∀ q, (fport t.m q).up = (fport s.m q).up) ∧
      ((fport t.m 0).gap ≠ (fport s.m 0).gap ∨ (fport t.m 1).gap ≠ (fport s.m 1).gap → bit (t.m.rd Reg.FLUE_INT_STATUS) 2 = true))

/-- From R275, R282, R283, R285 to R287: a TIME frame of the master that the module follows gives an offset and the master's state; the
first makes the module ACQUIRE, and an offset below 100 ns brings it to SYNC after 16 frames, or at once from SLEW. The master sends one
every 100 µs. A module without one for 1 ms has lost its master; the best key, or one that has beaten the master's for 1 s, takes over. -/
def Obligations.FlueTime : Prop :=
  (∀ (q : Fin 2) (f : FlueFrameIn) (s : State), carries s.m q = true → follows s.m q f.src = true →
    let e : Int := ((s.m.mt : Int) - (leAt f.payload 0 8 : Nat)) * 2500 * 65536 - (leAt f.payload 8 8 : Nat) * 1000 - delayPs16 (fport s.m q)
    let offs := (e :: s.m.flue.offs).take 16
    let mean := rdiv offs.sum offs.length
    (s.m.flue.fstate ∈ [FState.alone, .holdover, .master] → Answers (.timeFrame q f) s fun t => t.m.flue.fstate = .acquire ∧
      t.m.flue.offs = [e] ∧ t.m.flue.master = some f.src ∧ t.m.flue.timeMt = s.m.mt ∧ t.m.flue.info = masterInfo f.payload) ∧
    (s.m.flue.fstate = .sync → Answers (.timeFrame q f) s fun t => t.m.flue.fstate = .sync ∧ t.m.flue.offs = offs ∧
      t.m.flue.master = some f.src ∧ t.m.flue.timeMt = s.m.mt ∧ t.m.flue.info = masterInfo f.payload ∧ t.m.mt = s.m.mt ∧
      (s.m.time.src = .chain → (masterInfo f.payload).tstate ≠ 0 →
        t.m.gnss.map = ⟨(masterInfo f.payload).m0, (masterInfo f.payload).g0 * nsQ, (masterInfo f.payload).y⟩)) ∧
    (s.m.flue.fstate = .acquire → 15 ≤ s.m.flue.offs.length → absN mean < 100 * 1000 * 65536 →
      Answers (.timeFrame q f) s fun t => t.m.flue.fstate = .sync ∧ t.m.time.src = .chain ∧ t.m.flue.offs = offs) ∧
    (s.m.flue.fstate = .acquire → s.m.flue.offs.length < 15 →
      Answers (.timeFrame q f) s fun t => t.m.flue.fstate = .acquire ∧ t.m.flue.offs = offs ∧ t.m.mt = s.m.mt) ∧
    (s.m.flue.fstate = .slew → Answers (.timeFrame q f) s fun t => t.m.flue.offs = offs ∧
      t.m.flue.fstate = (if absN mean < 100 * 1000 * 65536 then .sync else .slew))) ∧
  (∀ s : State, s.m.flue.fstate = .master → (∀ x, s.m.flue.timeSent = some x → x + 100 * usTicks < 2 ^ 64) →
    Answers .timeFrameSend s fun t => t.m.flue.timeSent = some t.m.mt ∧
      (∀ x, s.m.flue.timeSent = some x → t.m.mt = max s.m.mt (x + 100 * usTicks)) ∧
      ∀ q, carries s.m q = true → ∃ seq, ⟨.flue q, t.m.mt, flueFrame ftTime (nodeId s.m) 0 0 seq (timePayload t.m)⟩ ∈ t.m.out) ∧
  (∀ s : State, s.m.flue.timeMt + msTicks < 2 ^ 64 → s.m.flue.fstate ∈ [FState.sync, .slew, .acquire, .blocked] →
    Answers .masterLost s fun t => t.m.mt = max s.m.mt (s.m.flue.timeMt + msTicks) ∧ t.m.flue.master = none ∧
      (s.m.flue.fstate ∈ [FState.sync, .slew] → t.m.flue.fstate = .holdover ∧ t.m.time.src = .chain ∧
        bit (t.m.rd Reg.FLUE_INT_STATUS) 4 = true) ∧
      (s.m.flue.fstate ∈ [FState.acquire, .blocked] → t.m.flue.fstate = s.m.flue.fstate)) ∧
  (∀ s : State, anyUp s.m = true → (ownKey s.m).prio ≠ 255 → s.m.flue.fstate ≠ .master →
    ((s.m.flue.master = none ∧ ∀ r ∈ s.m.flue.routes, r.key.prio = 255 ∨ r.seen + 350 * msTicks ≤ s.m.mt ∨ (ownKey s.m).beats r.key = true) ∨
      ∃ x, s.m.flue.beats = some x ∧ x + secTicks < 2 ^ 64) →
    Answers .masterTakeover s fun t => t.m.flue.fstate = .master ∧ t.m.flue.master = some (nodeId s.m) ∧ t.m.flue.beats = none ∧
      ∀ x, s.m.flue.beats = some x → x + secTicks < 2 ^ 64 → t.m.mt = max s.m.mt (x + secTicks))

/-- From R88, R276, R280, R291 to R293: a frame for another node goes on out of the port its route names, one hop further; a batch that
ends here is checked as on a port, a return goes to the producer whose batch entered here, and management is handled here or answered to
the host that sent it. A LOCKED chain axis adopts what its publisher sends, but not while the module acquires time. -/
def Obligations.FlueTraffic : Prop :=
  (∀ (c : Instr) (ty : Nat) (q : Fin 2) (f : FlueFrameIn) (msg : Option SessMsg) (r : Route) (s : State),
    (c, ty) ∈ [(Instr.batchFrame q f, ftBatch), (.returnFrame q f, ftReturn), (.mgmtFrame q f msg, ftMgmt)] →
    carries s.m q = true → f.dest ≠ nodeId s.m → routeTo s.m f.dest = some r → r.port ≠ q →
    Answers c s fun t => t.m.out =
        ⟨.flue r.port, s.m.mt, flueFrame ty f.src f.dest ((f.hops + 1) % 65536) f.seq f.payload⟩ :: s.m.out ∧
      t.m.ingest = s.m.ingest ∧ t.m.sess = s.m.sess ∧ t.mem = s.mem) ∧
  (∀ (q : Fin 2) (f : FlueFrameIn) (rec : RingRec) (s : State), carries s.m q = true → f.dest = nodeId s.m → yieldsId s.m = false →
    let a : NoteAddr := ⟨4, .ethertype, 0, 0, 0, none, f.src⟩
    let h := batchHdr f.payload
    let r := s.m.ringAt h.ring
    formatOk s.m a f.payload = true → h.ring < 64 → ringRec s.m h.ring = some rec → tb rec.ports 4 = true →
    s.m.sec.act ≠ .pause → (h.fwd = true → h.dest = nodeId s.m) → r.phase = .open → r.epoch = h.epoch → h.count ≠ 0 →
    h.bseq = r.ackBseq + 1 → h.firstEv = r.ackEv → after (h.firstEv + w32 h.count) r.evLimit = false →
    claimOk s.m h.ring h.count = true →
    Answers (.batchFrame q f) s fun t => (t.m.ringAt h.ring).ackBseq = h.bseq ∧
      (t.m.ringAt h.ring).unchecked = r.unchecked ++ uncheckedOf f.payload 4 h ∧
      ∀ j < 64, j ≠ h.ring → t.m.ringAt j = s.m.ringAt j) ∧
  (∀ (q : Fin 2) (f : FlueFrameIn) (e : FwdEntry) (p : Fin 4) (s : State), endsHere s.m q f = true →
    s.m.flue.fwd.find? (fun x => x.dest == f.src && x.ring == byteAt f.payload 2) = some e → e.addr.port = p.val →
    Answers (.returnFrame q f) s fun t => t.m.out = ⟨.net p e.addr, s.m.mt, f.payload⟩ :: s.m.out ∧ t.m.flue.fwd.head? = some e) ∧
  (∀ (q : Fin 2) (f : FlueFrameIn) (s : State), endsHere s.m q f = true →
    (∀ (e : FwdEntry) (p : Fin 4), s.m.flue.mgmt.find? (·.dest == f.src) = some e → e.addr.port = p.val →
      Answers (.mgmtFrame q f none) s fun t => t.m.out = ⟨.net p e.addr, s.m.mt, f.payload⟩ :: s.m.out ∧ t.m.sess = s.m.sess) ∧
    (∀ n, served s.m .flue = true → idleSession s.m = some n → Answers (.mgmtFrame q f (some .open_)) s fun t =>
      (Arr.at' t.m.sess n).phase = .challenged ∧ (Arr.at' t.m.sess n).transport = .flue ∧ (Arr.at' t.m.sess n).peer = f.src)) ∧
  (∀ (p : Fin 4) (mac : Nat) (ip : IpInfo) (payload : List Byte) (msg : Option SessMsg) (r : Route) (s : State),
    let dest := leAt payload 0 2
    relayTakes s.m ip payload = true → dest ≠ nodeId s.m → routeTo s.m dest = some r → yieldsId s.m = false →
    Answers (.mgmtRelayDatagram p mac ip payload msg) s fun t => t.m.sess = s.m.sess ∧ t.mem = s.mem ∧
      (∃ seq, t.m.out = ⟨.flue r.port, s.m.mt, flueFrame ftMgmt (nodeId s.m) dest 0 seq (payload.drop 4)⟩ :: s.m.out) ∧
      ∃ e, t.m.flue.mgmt.head? = some e ∧ e.dest = dest ∧ e.addr.port = p.val ∧ e.addr.mac = mac ∧ e.addr.udpPort = ip.srcPort) ∧
  (∀ (q : Fin 2) (f : FlueFrameIn) (s : State), carries s.m q = true →
    (s.m.flue.fstate = .acquire ∨ s.m.flue.fstate = .blocked → Answers (.axisFrame q f) s fun t => t.m.axes = s.m.axes) ∧
    ∀ (n : Fin 15) (r : AxisRec), s.m.flue.fstate ≠ .acquire → s.m.flue.fstate ≠ .blocked → axisRec s.m n.val = some r →
      r.source = .chain → r.chainNode = f.src → r.chainAxis = byteAt f.payload 0 → byteAt f.payload 1 % 4 = 2 →
      (axisAt s.m n).phase = .locked → stageOf s.m (.axis n) = none →
      Answers (.axisFrame q f) s fun t => (axisAt t.m n).phase = .locked ∧ (axisAt t.m n).mtk = leAt f.payload 8 8 ∧
        (axisAt t.m n).v = sx 64 (leAt f.payload 24 8) ∧ (axisAt t.m n).a = sx 64 (leAt f.payload 32 8) ∧
        (axisAt t.m n).p = sx 64 (leAt f.payload 16 8) + sx 32 (leAt f.payload 4 4) * ((axisWrap s.m n.val : Int) * qOne) ∧
        (axisAt t.m n).accepted = (axisAt s.m n).accepted + 1)

/-- R290: an edge of the time-pulse input, rising, or falling with POL set, stores its MT in FLUE_TPIN_MT and raises TPIN, and disciplines
nothing; without EN, and at the other edge, nothing happens. -/
def Obligations.TimePulseInputCaptured : Prop :=
  ∀ (rising : Bool) (s : State),
    (s.m.cb Reg.FLUE_TPIN_CFG 31 = true → (rising = !s.m.cb Reg.FLUE_TPIN_CFG 30) → Answers (.tpin rising) s fun t =>
      liveValue t.m Reg.FLUE_TPIN_MT_LO = w32 (s.m.mt % 2 ^ 32) ∧ liveValue t.m Reg.FLUE_TPIN_MT_HI = w32 (s.m.mt / 2 ^ 32) ∧
      bit (t.m.rd Reg.FLUE_INT_STATUS) 8 = true ∧ t.m.flue = { s.m.flue with tpin := s.m.mt } ∧
      { t.m with regs := s.m.regs, flue := s.m.flue } = s.m ∧ ∀ off, off ≠ Reg.FLUE_INT_STATUS → t.m.rd off = s.m.rd off) ∧
    (s.m.cb Reg.FLUE_TPIN_CFG 31 = false ∨ (rising = s.m.cb Reg.FLUE_TPIN_CFG 30) → Answers (.tpin rising) s fun t => t = s)

/-- From R297 to R302: a good upstream frame brings the levels, edges and supply voltage of the field side, counting the rising edges; a
missing one counts, and the third in a row is a fault that latches every output off. A downstream frame leaves at the next frame start and
sets the outputs when it arrives in order; the third bad one latches them on the field side. The latches end at their releases. -/
def Obligations.FieldBarrierAndInputs : Prop :=
  (∀ (bs : List Byte) (s : State),
    let s0 := s.m.mt / frameTicks * frameTicks
    let seq := bits (byteAt bs 0) 7 4
    let lv := leAt bs 1 4
    s0 + frameTicks < 2 ^ 64 → crc8 (bs.take 23) = (byteAt bs 23) → (∀ r, s.m.fio.up.ref = some r → seq = (r + 1) % 16) →
    s.m.fio.up.fault = false →
    Answers (.upstreamFrame (some bs)) s fun t => t.m.fio.up.bad = 0 ∧ t.m.fio.up.ref = some seq ∧ t.m.fio.frameSeq = seq ∧
      t.m.fio.volt = leAt bs 13 2 * 10 ∧
      (∀ n : Fin 32, 8 ≤ n.val → (Arr.at' t.m.fio.fi n).level = tb lv n.val ∧
        t.m.rd (Reg.FIO_FI_COUNT n.val) = (if tb lv n.val = true ∧ (Arr.at' s.m.fio.fi n).level = false
          then s.m.rd (Reg.FIO_FI_COUNT n.val) + 1 else s.m.rd (Reg.FIO_FI_COUNT n.val))) ∧
      ∀ n : Fin 32, n.val < 8 → (Arr.at' t.m.fio.fi n).level =
        (if tb (byteAt bs (5 + n.val)) 7 then !(Arr.at' s.m.fio.fi n).level else tb lv n.val)) ∧
  (∀ s : State, s.m.mt / frameTicks * frameTicks + frameTicks < 2 ^ 64 →
    (s.m.fio.up.bad < 2 → Answers (.upstreamFrame none) s fun t => t.m.mt = s.m.mt / frameTicks * frameTicks + frameTicks ∧
      t.m.fio = { s.m.fio with up := { s.m.fio.up with bad := s.m.fio.up.bad + 1, good := 0 },
                               badFrames := satU 16 (s.m.fio.badFrames + 1) }) ∧
    (2 ≤ s.m.fio.up.bad → s.m.fio.up.fault = false → Answers (.upstreamFrame none) s fun t => t.m.fio.up.fault = true ∧
      t.m.fio.latch = true ∧ t.m.fio.fi = s.m.fio.fi ∧ bit (t.m.rd Reg.FIO_INT_STATUS) 3 = true ∧ ∀ n < 16, foDuty t.m n = 0)) ∧
  (∀ s : State, s.m.fio.up.fault = false → Answers .logicBarrierFault s fun t => t.m.fio.up.fault = true ∧ t.m.fio.latch = true ∧
    t.m.fio.fi = s.m.fio.fi ∧ t.m.fio.vstate = .noData ∧ t.m.fio.faults = satU 8 (s.m.fio.faults + 1) ∧
    bit (t.m.rd Reg.FIO_INT_STATUS) 3 = true ∧ ∀ n < 16, foDuty t.m n = 0) ∧
  (∀ s : State, Answers .fieldBarrierFault s fun t => t.m.fio.fieldLatch = true ∧ t.m.fio.down.fault = true ∧
    (∀ n, (Arr.at' t.m.fio.fo n).rxOn = false) ∧ ∀ n < 16, foDuty t.m n = 0) ∧
  (∀ s : State,
    (s.m.fio.up.fault = true → Answers (.barrierRelease .logic) s fun t =>
      t.m.fio = { s.m.fio with up := { s.m.fio.up with fault := false, bad := 0 }, vstate := .cut, fi := t.m.fio.fi } ∧
      ∀ n, Arr.at' t.m.fio.fi n = { Arr.at' s.m.fio.fi n with level := (Arr.at' s.m.fio.fi n).lost.getD (Arr.at' s.m.fio.fi n).level, lost := none }) ∧
    (s.m.fio.fieldLatch = true → s.m.fio.rel = true → Answers (.barrierRelease .field) s fun t =>
      t.m.fio = { s.m.fio with fieldLatch := false, down := { s.m.fio.down with fault := false, bad := 0 }, rel := false })) ∧
  (∀ (n : Fin 32) (level : Bool) (slot : Fin 80) (s : State), s.m.fio.up.fault = false →
    let x := Arr.at' s.m.fio.fi n
    let st := fiStamp s.m n.val (s.m.mt / frameTicks * frameTicks) slot.val
    Answers (.fiEdge n level slot) s fun t => (Arr.at' t.m.fio.fi n).level = level ∧
      (level = true → x.level = false → (Arr.at' t.m.fio.fi n).lastRise = some st ∧
        t.m.rd (Reg.FIO_FI_COUNT n.val) = s.m.rd (Reg.FIO_FI_COUNT n.val) + 1 ∧
        ∀ t0, x.lastRise = some t0 → t.m.rd (Reg.FIO_FI_PERIOD n.val) = w32 (satU 32 ((st - t0) / 10))) ∧
      (level = false ∨ x.level = true → t.m.regs = s.m.regs) ∧ ∀ j, j ≠ n → Arr.at' t.m.fio.fi j = Arr.at' s.m.fio.fi j) ∧
  (∀ s : State, cdiv s.m.mt frameTicks * frameTicks < 2 ^ 64 →
    let s0 := cdiv s.m.mt frameTicks * frameTicks
    ((∀ r, s.m.fio.down.ref = some r → s0 / frameTicks % 16 = (r + 1) % 16) → Answers (.downstreamFrame true) s fun t => t.m.mt = s0 ∧
      t.m.out = ⟨.field, s0, downFrame (s.m.advanceTo s0) s0⟩ :: s.m.out ∧ t.m.fio.down.bad = 0 ∧
      ∀ n : Fin 16, (Arr.at' t.m.fio.fo n).rxOn = (foDuty s.m n.val != 0 && !s.m.fio.fieldLatch) ∧
        (n.val = dutyTurn s.m → (Arr.at' t.m.fio.fo n).rxDuty = foDuty s.m n.val)) ∧
    (Answers (.downstreamFrame false) s fun t => t.m.mt = s0 ∧
      t.m.out = ⟨.field, s0, downFrame (s.m.advanceTo s0) s0⟩ :: s.m.out ∧ t.m.fio.down.bad = s.m.fio.down.bad + 1 ∧
      (2 ≤ s.m.fio.down.bad → s.m.fio.down.fault = false → t.m.fio.fieldLatch = true) ∧
      (s.m.fio.down.bad < 2 → t.m.fio.fo = s.m.fio.fo ∧ t.m.fio.fieldLatch = s.m.fio.fieldLatch)))

/-- From R305, R306, R308: a field output's own fault latches it off, ends its claim set and sets its bit, and clearing its last latching
bit releases it; VFIELD below 15.0 V cuts every output off, and they are released 10 ms after it is back at 19.0 V, by themselves with
FO_RESTORE at AUTO and otherwise by the command. -/
def Obligations.FieldOutputsAndSupply : Prop :=
  (∀ (c : Instr) (i : Nat) (n : Fin 16) (s : State), (c, i) ∈ [(Instr.foOvercurrent n, 1), (.foShort n, 2), (.foOvertemp n, 3)] →
    Answers c s fun t => (fo t.m n.val).latched = true ∧ (fo t.m n.val).claims = [] ∧ foDuty t.m n.val = 0 ∧
      bit (t.m.rd (Reg.FIO_FO_FAULT n.val)) i = true ∧ bit (t.m.rd Reg.FIO_INT_STATUS) 4 = true ∧
      ∀ j < 16, j ≠ n.val → fo t.m j = fo s.m j) ∧
  (∀ (n : Fin 16) (s : State),
    (s.m.cb (Reg.FIO_FO_CFG n.val) 31 = true → foDuty s.m n.val ≠ 0 → Answers (.foOpen n true) s fun t =>
      (fo t.m n.val).openLoad = true ∧ bit (t.m.rd (Reg.FIO_FO_FAULT n.val)) 0 = true ∧
      bit (t.m.rd Reg.FIO_INT_STATUS) 4 = true ∧ foDuty t.m n.val = foDuty s.m n.val) ∧
    (Answers (.foOpen n false) s fun t => (fo t.m n.val).openLoad = false ∧ bit (t.m.rd (Reg.FIO_FO_FAULT n.val)) 0 = false)) ∧
  (∀ (n : Fin 16) (mask : Word) (s : State),
    let may := 6 + (if (fo s.m n.val).hot then 0 else 8) + (if (fo s.m n.val).openLoad then 0 else 1)
    let w := s.m.rd (Reg.FIO_FO_FAULT n.val) &&& ~~~(mask &&& w32 may)
    Answers (.foFaultClear n mask) s fun t => t.m.rd (Reg.FIO_FO_FAULT n.val) = w ∧
      (fld w 3 1 = 0 → (fo t.m n.val).latched = false) ∧ (fld w 3 1 ≠ 0 → (fo t.m n.val).latched = (fo s.m n.val).latched)) ∧
  (∀ (mv : Nat) (s : State),
    (s.m.fio.vstate = .normal → mv < 18000 → Answers (.vfWarn mv) s fun t => t.m.fio = { s.m.fio with vstate := .warn, volt := mv } ∧
      bit (t.m.rd Reg.FIO_INT_STATUS) 0 = true) ∧
    (s.m.fio.vstate = .warn → 18500 ≤ mv → Answers (.vfieldNormal mv) s fun t =>
      t.m.fio = { s.m.fio with vstate := .normal, volt := mv }) ∧
    (s.m.fio.vstate = .normal ∨ s.m.fio.vstate = .warn → mv < 15000 → Answers (.vfCut mv) s fun t => t.m.fio.vstate = .cut ∧
      t.m.fio.volt = mv ∧ t.m.fio.latch = true ∧ bit (t.m.rd Reg.FIO_INT_STATUS) 1 = true ∧ ∀ n < 16, foDuty t.m n = 0) ∧
    (s.m.fio.vstate = .cut → 19000 ≤ mv → Answers (.vfieldRestore mv) s fun t =>
      t.m.fio = { s.m.fio with vstate := .restore, restoreFrom := s.m.mt, ready := false, volt := mv }) ∧
    (s.m.fio.vstate = .restore → mv < 19000 → Answers (.vfieldRestore mv) s fun t =>
      t.m.fio = { s.m.fio with vstate := .cut, ready := false, volt := mv }) ∧
    (Answers (.vfOver mv) s fun t => t.m.fio = { s.m.fio with vfOver := decide (32000 < mv), volt := mv })) ∧
  (∀ s : State, s.m.fio.vstate = .restore → s.m.fio.ready = false → max s.m.mt (s.m.fio.restoreFrom + 10 * msTicks) + 1 < 2 ^ 64 →
    (s.m.cb Reg.FIO_CFG 8 = true → s.m.fio.up.fault = false → Answers .foReleased s fun t => t.m.fio.vstate = .normal ∧
      t.m.fio.latch = false ∧ s.m.fio.restoreFrom + 10 * msTicks ≤ t.m.mt ∧ bit (t.m.rd Reg.FIO_INT_STATUS) 2 = true) ∧
    (s.m.cb Reg.FIO_CFG 8 = false → Answers .foReleased s fun t => t.m.fio = { s.m.fio with ready := true } ∧
      s.m.fio.restoreFrom + 10 * msTicks ≤ t.m.mt)) ∧
  (∀ s : State, s.m.fio.vstate = .restore → s.m.fio.ready = true → s.m.fio.up.fault = false →
    Answers .ackRelease s fun t => t.m.fio.vstate = .normal ∧ t.m.fio.latch = false ∧ t.m.fio.ready = false ∧
      t.m.fio.rel = s.m.fio.fieldLatch ∧ bit (t.m.rd Reg.FIO_INT_STATUS) 2 = true)

/-- From R309 to R311, R313: each conversion enters the average of its input, the codes of all sixteen together; a condition held 10 ms
stands and is flagged, and its end takes the live condition away; an overloaded current input has its burden open for 100 ms; a sensor
supply at its limit latches off until its bit is cleared; FIO_SS_CTL acts as it is written. -/
def Obligations.AnalogInputsAndSensorSupplies : Prop :=
  (∀ (codes : Arr 16 Nat) (s : State), s.m.mt < s.m.fio.aiMt + 3800 → s.m.fio.aiMt + 2200 < 2 ^ 64 →
    Answers (.aiConversion codes) s fun t => t.m.mt = max s.m.mt (s.m.fio.aiMt + 2200) ∧ t.m.fio.aiMt = s.m.fio.aiMt + 1600 ∧
      t.m.fio.aiSeq = (s.m.fio.aiSeq + 1) % 65536 ∧
      ∀ n, Arr.at' t.m.fio.ai n =
        { Arr.at' s.m.fio.ai n with conv := (min 65535 (Arr.at' codes n) :: (Arr.at' s.m.fio.ai n).conv).take 256 }) ∧
  (∀ (n : Fin 16) (c : AiCond) (s : State),
    (aiKnows (aiMode s.m n.val) c = true → Answers (.aiFlag n c) s fun t => Arr.at' t.m.fio.ai n = (Arr.at' s.m.fio.ai n).put c true ∧
      bit (t.m.rd (Reg.FIO_AI_FLAGS n.val)) (aiBit c) = true ∧ bit (t.m.rd Reg.FIO_INT_STATUS) 5 = true ∧
      ∀ j, j ≠ n → Arr.at' t.m.fio.ai j = Arr.at' s.m.fio.ai j) ∧
    (Answers (.aiFlagClear n c) s fun t => Arr.at' t.m.fio.ai n = (Arr.at' s.m.fio.ai n).put c false ∧ t.m.regs = s.m.regs ∧
      ∀ j, j ≠ n → Arr.at' t.m.fio.ai j = Arr.at' s.m.fio.ai j)) ∧
  (∀ (n : Fin 16) (s : State), aiMode s.m n.val = 1 →
    Answers (.burdenOpen n) s fun t => Arr.at' t.m.fio.ai n = { Arr.at' s.m.fio.ai n with burdenOpen := some s.m.mt } ∧
      bit (t.m.rd (Reg.FIO_AI_FLAGS n.val)) 3 = true ∧ bit (t.m.rd Reg.FIO_INT_STATUS) 5 = true) ∧
  (∀ (n : Fin 16) (x : Nat) (s : State), (Arr.at' s.m.fio.ai n).burdenOpen = some x → x + 100 * msTicks < 2 ^ 64 →
    Answers (.burdenReconnect n) s fun t => Arr.at' t.m.fio.ai n = { Arr.at' s.m.fio.ai n with burdenOpen := none } ∧
      t.m.mt = max s.m.mt (x + 100 * msTicks) ∧ t.m.regs = s.m.regs) ∧
  (∀ (n : Fin 8) (s : State), tb (s.m.rf Reg.FIO_SS_CTL 7 0) n.val = true → tb s.m.fio.ssLatched n.val = false →
    Answers (.ssOc n) s fun t => t.m.fio = { s.m.fio with ssLatched := setBitN s.m.fio.ssLatched n.val } ∧
      tb t.m.fio.ssLatched n.val = true ∧ bit (t.m.rd Reg.FIO_SS_FAULT) n.val = true ∧ bit (t.m.rd Reg.FIO_INT_STATUS) 6 = true) ∧
  (∀ (w : Word) (s : State),
    (Answers (.ssOcClear w) s fun t => t.m.rd Reg.FIO_SS_FAULT = s.m.rd Reg.FIO_SS_FAULT &&& ~~~(w &&& 0xFF) ∧
      t.m.fio.ssLatched = s.m.fio.ssLatched &&& fld (t.m.rd Reg.FIO_SS_FAULT) 7 0) ∧
    (Answers (.sensorSupplyControl w) s fun t => t.m.rd Reg.FIO_SS_CTL = w &&& 0xFF ∧ t.m.fio = s.m.fio ∧
      ∀ off, off ≠ Reg.FIO_SS_CTL → t.m.rd off = s.m.rd off))

/-- From R320 to R323: a SHORT or OVERLOAD of a load switch that is on sets its fault bit and the trip flag, switches it off and starts a
retry wait of 10 ms, doubled with each retry made; a junction at 170 °C switches it off until it has cooled under AUTO_RESTART, and
latches it with an empty claim set without; an undervoltage or an overcurrent of VLS latches every switch. -/
def Obligations.LoadSwitchesTripAndLatch : Prop :=
  (∀ (n : Fin 16) (c : Instr) (b : Nat) (s : State), (c = .lsShort n ∧ b = 2) ∨ (c = .overload n ∧ b = 3) →
    lsDuty s.m n ≠ 0 → (ls s.m n).heldUntil = none → (ls s.m n).retries < lsRetryMax s.m n →
    Answers c s fun t =>
      (ls t.m n).wait = .retry (t.m.mt + 4000000 * 2 ^ (ls s.m n).retries) ∧ lsDuty t.m n = 0 ∧
      bit (t.m.rd (Reg.LSW_CH_FAULT n)) b = true ∧ bit (t.m.rd Reg.LSW_INT_STATUS) 2 = true ∧
      ∀ j, j ≠ n.val → ls t.m j = ls s.m j) ∧
  (∀ (n : Fin 16) (s : State), (ls s.m n).hot = false → (ls s.m n).heldUntil = none → (ls s.m n).latched = false →
    Answers (.lsOvertemp n) s fun t =>
      (ls t.m n).hot = true ∧ lsDuty t.m n = 0 ∧
      bit (t.m.rd (Reg.LSW_CH_FAULT n)) 4 = true ∧ bit (t.m.rd Reg.LSW_INT_STATUS) 3 = true ∧
      (s.m.cb (Reg.LSW_CH_CFG n) 18 = true → (ls t.m n).wait = .thermal ∧ (ls t.m n).latched = false) ∧
      (s.m.cb (Reg.LSW_CH_CFG n) 18 = false → (ls t.m n).latched = true ∧ (ls t.m n).claims = [])) ∧
  (∀ s : State, s.m.lsw.uv = false → Answers .vlsUv s fun t => t.m.lsw.uv = true ∧ bit (t.m.rd Reg.LSW_INT_STATUS) 5 = true ∧
    ∀ n < 16, (ls t.m n).latched = true ∧ lsDuty t.m n = 0) ∧
  (∀ s : State, Answers .vlsOc s fun t => bit (t.m.rd Reg.LSW_SUP_FAULT) 0 = true ∧ bit (t.m.rd Reg.LSW_INT_STATUS) 5 = true ∧
    ∀ n < 16, (ls t.m n).latched = true ∧ lsDuty t.m n = 0)

/-- From R320 to R323: the end of a retry wait or of a thermal latch under AUTO_RESTART ends the wait, and a switch that its claims ask on
is on again, the attempt counted; a second on without a trip resets the retry counter; the off-state test reports an open load and its
end; a latched switch is released when the last condition that latches it goes. From R325 to R327: LH_EN_N active passes every load switch
to the limp mapping, the duty that the active inputs name; a change of the inputs recomputes it; LH_EN_N inactive ends it. -/
def Obligations.SwitchesRecoverAndLimp : Prop :=
  (∀ (n : Fin 16) (u : Nat) (s : State), (ls s.m n).wait = .retry u →
    Answers (.retryWaitEnd n) s fun t => (ls t.m n).wait = .none ∧
      ((ls s.m n).latched = false → (ls s.m n).limp = none → lsWanted s.m n ≠ 0 →
        lsDuty t.m n = lsWanted s.m n ∧ (ls t.m n).retries = (ls s.m n).retries + 1)) ∧
  (∀ (n : Fin 16) (u : Nat) (s : State), (ls s.m n).onSince = some u →
    Answers (.retryCounterReset n) s fun t => (ls t.m n).retries = 0 ∧ lsDuty t.m n = lsDuty s.m n) ∧
  (∀ (n : Fin 16) (s : State), (ls s.m n).hot = true → (ls s.m n).wait = .thermal → s.m.cb (Reg.LSW_CH_CFG n) 18 = true →
    (ls s.m n).retries < lsRetryMax s.m n →
    Answers (.thermalRelease n) s fun t => (ls t.m n).hot = false ∧ (ls t.m n).wait = .none ∧
      bit (t.m.rd (Reg.LSW_CH_FAULT n)) 4 = false) ∧
  (∀ (n : Fin 16) (s : State), s.m.cb (Reg.LSW_CH_CFG n) 17 = true → s.m.cb (Reg.LSW_CH_CFG n) 16 = false → lsDuty s.m n = 0 →
    Answers (.lsOpen n true) s fun t => (ls t.m n).openOff = true ∧
      bit (t.m.rd (Reg.LSW_CH_FAULT n)) 1 = true ∧ bit (t.m.rd Reg.LSW_INT_STATUS) 1 = true) ∧
  (∀ (n : Fin 16) (s : State), Answers (.lsOpen n false) s fun t => (ls t.m n).openOff = false) ∧
  (∀ s : State, Answers .vlsUvRelease s fun t => t.m.lsw.uv = false ∧
    ∀ n < 16, s.m.rf (Reg.LSW_CH_FAULT n) 5 4 = 0 → s.m.rf Reg.LSW_SUP_FAULT 0 0 = 0 → (ls t.m n).latched = false) ∧
  (∀ (mask : Word) (s : State), bit mask 0 = true → s.m.lsw.uv = false →
    Answers (.vlsOcClear mask) s fun t => t.m.rf Reg.LSW_SUP_FAULT 0 0 = 0 ∧
      ∀ n < 16, s.m.rf (Reg.LSW_CH_FAULT n) 5 4 = 0 → (ls t.m n).latched = false) ∧
  (∀ (n : Fin 16) (mask : Word) (s : State), bit mask 4 = true → bit mask 5 = true → (ls s.m n).hot = false →
    (ls s.m n).wait = .none → s.m.lsw.uv = false → s.m.rf Reg.LSW_SUP_FAULT 0 0 = 0 →
    Answers (.lswFaultClear n mask) s fun t => t.m.rf (Reg.LSW_CH_FAULT n) 5 4 = 0 ∧ (ls t.m n).latched = false) ∧
  (∀ (x : Nat) (s : State), s.m.lsw.limpActive = false →
    Answers (.limpEntry x) s fun t => t.m.lsw.limpActive = true ∧ t.m.lsw.lhEn = true ∧ t.m.lsw.lhIn = x % 256 ∧
      bit (t.m.rd Reg.LSW_INT_STATUS) 6 = true ∧ ∀ n < 16, (ls t.m n).limp = some (limpLsDuty t.m n)) ∧
  (∀ (x : Nat) (s : State), s.m.lsw.limpActive = true →
    Answers (.limpInputChange x) s fun t => t.m.lsw.lhIn = x % 256 ∧ ∀ n < 16, (ls t.m n).limp = some (limpLsDuty t.m n)) ∧
  (∀ s : State, s.m.lsw.limpActive = true → inReset s.m = false →
    Answers .limpExit s fun t => t.m.lsw.limpActive = false ∧ t.m.lsw.lhEn = false ∧
      bit (t.m.rd Reg.LSW_INT_STATUS) 7 = true ∧ ∀ n < 16, (ls t.m n).limp = none)

/-- From R332, R341, R343, R344: EN with timing in order starts bus integration with both counters at 0, and without it is refused with
SETTING_ERR; EN = 0 leaves the bus and aborts every PENDING object; integration and recovery end in ERROR_ACTIVE; an error seen while
receiving raises REC and moves the state with it. From R348, R349: TUN_EN makes MO126 and MO127 the tunnel's, but is refused while a loop
owns one; the oldest request is executed in the unprivileged view and answered on MO127 with its word, a READ with the register's and a
WRITE of a plain register with the one it wrote. -/
def Obligations.CanControllersAndTunnel : Prop :=
  (∀ (c : Fin 4) (w : Word) (s : State), cnEn s.m c = false →
    let ok := timingOk (s.m.setF (Reg.CAN_CN_CFG c.val) 30 27 (fld w 30 27)) c
    (ok = true → Answers (.controllerEnable c w) s fun t => cnEn t.m c = true ∧ (cn t.m c).phase = .integrating ∧ (cn t.m c).tec = 0 ∧
      (cn t.m c).recv = 0 ∧ ∀ k, k ≠ c → cn t.m k = cn s.m k) ∧
    (ok = false → Answers (.controllerEnable c w) s fun t => cnEn t.m c = false ∧ t.m.can.cn = s.m.can.cn ∧
      bit (t.m.rd (Reg.CAN_CN_INT_STATUS c.val)) 9 = true)) ∧
  (∀ (c : Fin 4) (w : Word) (s : State), cnEn s.m c = true →
    Answers (.controllerDisable c w) s fun t => cnEn t.m c = false ∧ (cn t.m c).phase = .disabled ∧ (cn t.m c).tunReq = [] ∧
      (∀ i, (obj t.m c i).tx = if (obj s.m c i).tx = txPending then txAborted else (obj s.m c i).tx) ∧
      ∀ k, k ≠ c → cn t.m k = cn s.m k) ∧
  (∀ (c : Fin 4) (s : State),
    ((cn s.m c).phase = .integrating → Answers (.busIntegration c) s fun t =>
      cn t.m c = { cn s.m c with phase := .active, tec := 0, recv := 0 } ∧ t.m.regs = s.m.regs) ∧
    ((cn s.m c).phase = .busOff → Answers (.recover c) s fun t => cn t.m c = { cn s.m c with phase := .recovering } ∧
      t.m.regs = s.m.regs) ∧
    ((cn s.m c).phase = .recovering → Answers (.recoveryDone c) s fun t =>
      cn t.m c = { cn s.m c with phase := .active, tec := 0, recv := 0 } ∧
      bit (t.m.rd (Reg.CAN_CN_INT_STATUS c.val)) 2 = true)) ∧
  (∀ (c : Fin 4) (primary : Bool) (s : State), cnOnBus s.m c = true → cnListens s.m c = false →
    let r := min 255 ((cn s.m c).recv + if primary then 8 else 1)
    Answers (.errorFrame c primary) s fun t => (cn t.m c).recv = r ∧ (cn t.m c).tec = (cn s.m c).tec ∧
      (cn t.m c).phase = (if 255 < (cn s.m c).tec then .busOff else if 128 ≤ (cn s.m c).tec ∨ 128 ≤ r then .passive else .active) ∧
      t.m.rf (Reg.CAN_CN_COUNT c.val) 15 0 = satU 16 (s.m.rf (Reg.CAN_CN_COUNT c.val) 15 0 + 1) ∧
      ((cn s.m c).phase = .active → (cn t.m c).phase = .passive → bit (t.m.rd (Reg.CAN_CN_INT_STATUS c.val)) 0 = true)) ∧
  (∀ (c : Fin 4) (w : Word) (s : State), bit w 31 = true →
    (objOwned s.m c 126 = false → objOwned s.m c 127 = false → tunEn s.m c = false → Answers (.tunnelEnable c w) s fun t =>
      t.m.rd (Reg.CAN_CN_TUN_REQ c.val) = w &&& 0xBFFFFFFF ∧ tunEn t.m c = true ∧ obj t.m c 127 = ObjSt.reset ∧
      (cn t.m c).tunReq = []) ∧
    (objOwned s.m c 126 = true ∨ objOwned s.m c 127 = true → Answers (.tunnelEnable c w) s fun t =>
      tunEn t.m c = tunEn s.m c ∧ t.m.can = s.m.can ∧ bit (t.m.rd (Reg.CAN_CN_INT_STATUS c.val)) 9 = true)) ∧
  (∀ (c : Fin 4) (f : CanFrame) (rest : List CanFrame) (s : State), (cn s.m c).tunReq = f :: rest → tunEn s.m c = true →
    tunStatus s.m f = .ok → (obj s.m c 127).tx ≠ txPending →
    let off := bits (tunWord f 0) 24 0
    (tunOp f = 1 → Answers (.tunnelRead c) s fun t => (cn t.m c).tunReq = rest ∧ (obj t.m c 127).tx = txPending ∧
      (cn t.m c).tunRsp = leBytes 4 (2 ^ 30 + off) ++
        leBytes 4 (regRead (12 + c.val) false off (s.m.updCn c fun x => { x with tunReq := rest })).1.toNat) ∧
    (∀ d ix, tunOp f = 2 → plainReg s.m false off d ix → Answers (.tunnelWrite c) s fun t => (cn t.m c).tunReq = rest ∧
      (obj t.m c 127).tx = txPending ∧ (cn t.m c).tunRsp = leBytes 4 (2 * 2 ^ 30 + off) ++ leBytes 4 (tunWord f 1) ∧
      t.m.rd off = plainValue d false (s.m.rd off) (w32 (tunWord f 1))))

/-- From R337, R338, R340, R341: a valid frame is stored in the first object that it matches; TX_REQ makes a transmit object PENDING and
ABORT ends it; the winner of the PENDING objects is sent and DONE, or its attempt is counted until RETRY_LIM, and TEC moves with either.
-/
def Obligations.CanObjects : Prop :=
  (∀ (c : Fin 4) (f : CanFrame) (s : State), cnOnBus s.m c = true → (f.fdf = true → s.m.rf (Reg.CAN_CN_CFG c.val) 28 28 = 1) →
    f.remote = false → tunnelTakes s.m c f = false →
    (∀ i, (List.finRange 128).find? (fun i => objMatches s.m c i f) = some i → objFeeds s.m c i = none →
      dlcBytes f.fdf f.dlc ≤ f.data.length → Answers (.frameReceived c f) s fun t =>
        (obj t.m c i).rx = some f ∧ (∀ j < dlcBytes f.fdf f.dlc, objByte t.m c i j = byteAt f.data j) ∧
        bit (t.m.rd (Reg.CAN_OBJ_FLAGS c.val i.val)) 0 = true ∧ bit (t.m.rd (Reg.CAN_CN_INT_STATUS c.val)) 3 = true ∧
        (s.m.rf (Reg.CAN_OBJ_FLAGS c.val i.val) 0 0 = 1 → bit (t.m.rd (Reg.CAN_OBJ_FLAGS c.val i.val)) 1 = true ∧
          bit (t.m.rd (Reg.CAN_CN_INT_STATUS c.val)) 4 = true) ∧
        ∀ j, j ≠ i → obj t.m c j = obj s.m c j) ∧
    ((List.finRange 128).find? (fun i => objMatches s.m c i f) = none → Answers (.frameReceived c f) s fun t =>
      (∀ i, obj t.m c i = obj s.m c i) ∧
      t.m.rf (Reg.CAN_CN_COUNT c.val) 31 16 = satU 16 (s.m.rf (Reg.CAN_CN_COUNT c.val) 31 16 + 1))) ∧
  (∀ (c : Fin 4) (i : Fin 128) (s : State), objTunnel s.m c i = false → objDriven s.m c i = none →
    (objDir s.m c i = 2 → (obj s.m c i).tx ≠ txPending → Answers (.txReq c i) s fun t =>
      obj t.m c i = { obj s.m c i with tx := txPending, retries := 0, aborting := false } ∧
      ∀ j, j ≠ i → obj t.m c j = obj s.m c j) ∧
    ((obj s.m c i).tx = txPending →
      (Answers (.txAbort c i false) s fun t => obj t.m c i = { obj s.m c i with tx := txAborted, aborting := false }) ∧
      (Answers (.txAbort c i true) s fun t => obj t.m c i = { obj s.m c i with aborting := true }))) ∧
  (∀ (c : Fin 4) (i : Fin 128) (s : State), txWinner s.m c = some i → cnSends s.m c = true →
    Answers (.transmissionDone c) s fun t => (obj t.m c i).tx = txDone ∧ (cn t.m c).tec = (cn s.m c).tec - 1 ∧
      (cn t.m c).recv = (cn s.m c).recv ∧ t.m.out = ⟨.can c, s.m.mt, txBytes s.m c i⟩ :: s.m.out ∧
      bit (t.m.rd (Reg.CAN_CN_INT_STATUS c.val)) 5 = true ∧ ∀ j, j ≠ i → obj t.m c j = obj s.m c j) ∧
  (∀ (c : Fin 4) (k : CanFail) (i : Fin 128) (s : State), txWinner s.m c = some i → cnSends s.m c = true →
    let n := (obj s.m c i).retries + 1
    Answers (.failedAttempt c k) s fun t => (obj t.m c i).retries = n ∧
      ((obj s.m c i).aborting = true → (obj t.m c i).tx = txAborted) ∧
      ((obj s.m c i).aborting = false → n ≤ retryLim s.m c i → (obj t.m c i).tx = txPending) ∧
      ((obj s.m c i).aborting = false → retryLim s.m c i < n → (obj t.m c i).tx = (if k = .ack then txNoAck else txFailed) ∧
        bit (t.m.rd (Reg.CAN_CN_INT_STATUS c.val)) 6 = true) ∧
      (cn t.m c).tec = (if k = .ack ∧ (cn s.m c).phase = .passive then (cn s.m c).tec else (cn s.m c).tec + 8) ∧
      t.m.rf (Reg.CAN_CN_COUNT c.val) 15 0 = satU 16 (s.m.rf (Reg.CAN_CN_COUNT c.val) 15 0 + 1) ∧
      (k = .dataBit → bit (t.m.rd (Reg.CAN_CN_INT_STATUS c.val)) 7 = true))

/-- From R353, R356, R357: a write of ASH_RD_SEQ gives its initiator's read port the record of that SEQ, or the reason why not, and
touches no other port; an application post is staged with its initiator's data, and one with a CODE below 0x8000, or the seventeenth of a
Mantel cycle, is refused and flagged. From R358, R360: a privileged ASH_CLEAR whose KEY is the low half of HEAD asks for a clear, with a
wrong KEY it ends with BAD_KEY; the clear leaves the CLEARED record as the log's only one, under the SEQ that follows. -/
def Obligations.AshLogServes : Prop :=
  (∀ (i : Initiator) (seq : Word) (s : State), Answers (.ashRead i seq) s fun t =>
    let x := ashLookup s.m (viewOf s.m i) seq
    ashPortOf t.m (Initiator.idx i) = ⟨seq, true, x.1, wordsOf 16 x.2⟩ ∧ t.m.regs = s.m.regs ∧
    (∀ who, who ≠ Initiator.idx i → ashPortOf t.m who = ashPortOf s.m who) ∧
    (∀ e, s.m.ash.clear ≠ .running → seq ≠ 0 → s.m.ash.head ≠ 0 → ashNewer seq s.m.ash.head = false →
      ashNewer s.m.ash.tail seq = false → s.m.ash.slots.find? (·.1 == seq.toNat % 32768) = some e → e.2.seq = seq →
      (e.2.cls ≠ .security ∨ viewOf s.m i = true) →
      ashPortOf t.m (Initiator.idx i) = ⟨seq, true, 0, wordsOf 16 e.2.bytes⟩)) ∧
  (∀ (i : Initiator) (code : Nat) (s : State), 0x8000 ≤ code → code ≤ 0xFFFF → s.m.ash.appPosts < 16 → s.m.ash.staged.length < 960 →
    s.m.ash.lost = 0 →
    let r := ashMake s.m code .operation (postData s.m (Initiator.idx i)) (some (Initiator.idx i))
    s.m.ash.staged.any r.same = false →
    Answers (.applicationPost i code) s fun t =>
      t.m.ash.staged = s.m.ash.staged ++ [r] ∧ t.m.ash.nextSeq = ashNext s.m.ash.nextSeq ∧ t.m.ash.appPosts = s.m.ash.appPosts + 1) ∧
  (∀ (i : Initiator) (code : Nat) (s : State), code < 0x8000 ∨ 0xFFFF < code ∨ 16 ≤ s.m.ash.appPosts →
    Answers (.applicationPost i code) s fun t => t.m.ash = s.m.ash ∧ bit (t.m.rd Reg.ASH_INT_STATUS) 4 = true) ∧
  (∀ (i : Initiator) (key : Nat) (s : State), viewOf s.m i = true → s.m.ash.clear = .none → s.m.sec.lc ≠ .return_ → s.m.sec.lc ≠ .scrapped →
    (key = s.m.ash.head.toNat % 65536 → Answers (.ashClear i key) s fun t => t.m.ash.clear = .requested ∧ t.m.ash.clearDone = false ∧
      t.m.ash.slots = s.m.ash.slots) ∧
    (key ≠ s.m.ash.head.toNat % 65536 → Answers (.ashClear i key) s fun t => t.m.ash.clear = .none ∧ t.m.ash.clearDone = true ∧
      t.m.ash.clearResult = 1)) ∧
  (∀ s : State, s.m.ash.clear = .running → Answers .clearing s fun t =>
    t.m.ash.clear = .none ∧ t.m.ash.clearDone = true ∧ t.m.ash.clearResult = 0 ∧ bit (t.m.rd Reg.ASH_INT_STATUS) 3 = true ∧
    t.m.ash.head = (if s.m.ash.head = 0 then 1 else ashNext s.m.ash.head) ∧ t.m.ash.tail = t.m.ash.head ∧
    ∃ e, t.m.ash.slots.find? (·.1 == t.m.ash.head.toNat % 32768) = some e ∧ e.2.seq = t.m.ash.head ∧ e.2.code = 0x71)

/-- From R362, R363, R365: an accepted life-cycle request burns the fuse of its transition and takes a reset with that cause, one that
fails a check burns nothing and says why; a key is enrolled in its slot or erased from it by its authority's record, and by no other. -/
def Obligations.LifeCycleAndKeys : Prop :=
  (∀ (n : Fin 8) (r : LcReq) (s : State), sessActive s.m n = true →
    (lcCheck s.m r = 0 → s.m.pwr.asleep = false → s.m.pwr.hold = none →
      Answers (.lifecycle n r) s fun t => t.m.sec.fuses = burn s.m.sec.lc r.target s.m.sec.fuses ∧
        ∃ o, t.m.pwr.hold = some ⟨.lifecycle, o, false⟩) ∧
    (lcCheck s.m r ≠ 0 → Answers (.lifecycle n r) s fun t => t.m.sec.fuses = s.m.sec.fuses ∧ t.m.sec.keys = s.m.sec.keys ∧
      t.m.sec.lcResult = lcCheck s.m r ∧ t.m.pwr = s.m.pwr)) ∧
  (∀ (n : Fin 8) (r : EnrolRec) (k : Fin 64) (s : State), sessActive s.m n = true → recordHere s.m r = true → r.target = .slot k →
    (keyAuthority s.m n r k.val = true →
      (Answers (.keyEnrolment n r) s fun t => Arr.at' t.m.sec.keys k = some ⟨r.priv, r.key⟩ ∧
        ∀ j, j ≠ k → Arr.at' t.m.sec.keys j = Arr.at' s.m.sec.keys j) ∧
      (4 ≤ k.val → Answers (.keyRevocation n r) s fun t => Arr.at' t.m.sec.keys k = none ∧
        ∀ j, j ≠ k → Arr.at' t.m.sec.keys j = Arr.at' s.m.sec.keys j) ∧
      (k.val < 4 → Answers (.keyRevocation n r) s fun t => tb t.m.sec.fuses.rootRevoked k.val = true ∧ rootKey t.m k.val = false)) ∧
    (keyAuthority s.m n r k.val = false →
      (Answers (.keyEnrolment n r) s fun t => t.m.sec = s.m.sec) ∧ Answers (.keyRevocation n r) s fun t => t.m.sec = s.m.sec)) ∧
  (∀ (n : Fin 8) (r : EnrolRec) (s : State), sessActive s.m n = true → recordHere s.m r = true → r.target = .ownerRoot →
    ownerRootOk s.m n r = true →
    Answers (.keyEnrolment n r) s fun t => t.m.sec.fuses = { s.m.sec.fuses with ownerRoot := true } ∧ t.m.sec.keys = s.m.sec.keys)

/-- From R367 to R369: BEGIN with a good header erases the inactive slot, which receives; a BLOCK in its place is held; END stores a
package that is complete, whose digest and structure tag hold, keeps one that is incomplete, and erases one whose digest is wrong; ABORT
erases the slot. An IMAGE block of a delivery over Flue is held as well. The active slot never changes. -/
def Obligations.PackageDelivery : Prop :=
  (∀ (n : Fin 8) (bs : List Byte) (s : State), sessPriv s.m n = true →
    (beginCheck s.m bs = 0 → Answers (.begin_ n bs) s fun t =>
      slotOf t.m (inactive s.m) = ⟨.receiving, sliceAt bs 0 256, [], [], false⟩ ∧ slotOf t.m s.m.sec.boot.active = slotOf s.m s.m.sec.boot.active ∧
      t.m.sec.delivery = some .session ∧ t.m.sec.delResult = 0) ∧
    (beginCheck s.m bs ≠ 0 → Answers (.begin_ n bs) s fun t => t.m.sec.slotA = s.m.sec.slotA ∧ t.m.sec.slotB = s.m.sec.slotB ∧
      t.m.sec.delResult = beginCheck s.m bs)) ∧
  (∀ (n : Fin 8) (off : Nat) (bs : List Byte) (s : State), sessPriv s.m n = true → s.m.sec.delivery = some .session →
    let p := slotOf s.m (inactive s.m)
    blockCheck p off bs = 0 → p.blockAt off = none →
    Answers (.block n off bs true) s fun t =>
      slotOf t.m (inactive s.m) = { p with blocks := Sparse.insert off bs p.blocks } ∧ t.m.sec.delResult = 0 ∧
      (slotOf t.m (inactive s.m)).blockAt off = some bs) ∧
  (∀ (n : Fin 8) (s : State), sessPriv s.m n = true → s.m.sec.delivery = some .session →
    let p := slotOf s.m (inactive s.m)
    let body := p.bytes
    let good := sha384 (sliceAt body 256 (pkgLen p.hdr - 352)) = sliceAt p.hdr 208 48
    (∀ image, p.complete = true → good →
      (pkgHasSt p.hdr = true → Config.openStructure p.hdr (sliceAt body (leAt p.hdr 104 4) (leAt p.hdr 108 4)) = some image) →
      (pkgHasSt p.hdr = false → image = (slotOf s.m s.m.sec.boot.active).image) →
      Answers (.end_ n) s fun t => slotOf t.m (inactive s.m) = { p with phase := .stored, image := image } ∧
        t.m.sec.delivery = none ∧ t.m.sec.delResult = 0 ∧ bit (t.m.rd Reg.SEC_INT_STATUS) 0 = true) ∧
    (p.complete = false → Answers (.end_ n) s fun t => slotOf t.m (inactive s.m) = p ∧ t.m.sec.delivery = some .session ∧
      t.m.sec.delResult = 8) ∧
    (p.complete = true → ¬good → Answers (.end_ n) s fun t => slotOf t.m (inactive s.m) = PkgSlot.blank ∧ t.m.sec.delivery = none ∧
      t.m.sec.delResult = 9) ∧
    (Answers (.abort n) s fun t => slotOf t.m (inactive s.m) = PkgSlot.blank ∧ t.m.sec.delivery = none ∧ t.m.sec.delResult = 0 ∧
      slotOf t.m s.m.sec.boot.active = slotOf s.m s.m.sec.boot.active)) ∧
  (∀ (q : Fin 2) (f : FlueFrameIn) (s : State), carries s.m q = true → s.m.sec.delivery = some .flue →
    let p := slotOf s.m (inactive s.m)
    let p1 := { p with blocks := Sparse.insert (leAt f.payload 0 4) (f.payload.drop 4) p.blocks }
    blockCheck p (leAt f.payload 0 4) (f.payload.drop 4) = 0 → p.blockAt (leAt f.payload 0 4) = none → p1.complete = false →
    Answers (.imageFrame q f true) s fun t => slotOf t.m (inactive s.m) = p1 ∧ t.m.sec.delResult = 0 ∧ t.m.sec.delivery = some .flue)

/-- From R370, R371: ACTIVATE that passes its checks stages the structure and prepares, a refused one says why; with its checks passed the
pause begins at a boundary, disarming where that was asked; a warm restart loses the sessions and begins the trial. -/
def Obligations.ActivationRuns : Prop :=
  (∀ (i : Initiator) (force disarm sig : Bool) (s : State), viewOf s.m i = true →
    (∀ l, actCheck s.m = 0 → s.m.grate.loader = .idle → s.m.grate.candRunning = false →
      checkImage (imageEnv s.m sig) (inactive s.m) (slotOf s.m (inactive s.m)).image = .ok l →
      Answers (.activate i force disarm sig true) s fun t => t.m.sec.act = .preparing ∧ t.m.sec.force = force ∧ t.m.sec.disarm = disarm ∧
        t.m.grate.staging = some l ∧ t.m.grate.loader = .swapPending ∧ t.m.grate.active = s.m.grate.active) ∧
    (∀ rb, actCheck s.m ≠ 0 → Answers (.activate i force disarm sig rb) s fun t => t.m.sec.act = s.m.sec.act ∧ t.m.sec.actDone = true ∧
      t.m.sec.actResult = actCheck s.m ∧ t.m.grate = s.m.grate)) ∧
  (∀ (same : Bool) (s : State), s.m.sec.act = .preparing → s.m.grate.loader = .swapPending →
    (s.m.pwr.arm = .disarmed ∨ s.m.sec.disarm = true) → (ringsClear s.m = true ∨ s.m.sec.force = true) → s.m.nextBoundary < 2 ^ 64 →
    Answers (.activationPause same) s fun t => t.m.sec.act = .pause ∧ t.m.sec.b0 = s.m.nextBoundary ∧ t.m.pwr.arm = .disarmed ∧
      t.m.sec.swapReady = (same || !pkgHasFw (slotOf s.m (inactive s.m)).hdr) ∧ t.m.grate = s.m.grate) ∧
  (∀ s : State, s.m.sec.warmDue = true → Answers .warmRestart s fun t =>
    t.m.sec.warmDue = false ∧ t.m.pwr.cause = 9 ∧ (∀ n, (Arr.at' t.m.sess n).phase = .idle) ∧
    (s.m.sec.act = .pause → t.m.sec.boot.trial = true ∧ t.m.sec.boot.active = otherSlot s.m.sec.boot.active ∧
      t.m.sec.boot.fallback = s.m.sec.boot.active) ∧
    t.m.hob = s.m.hob ∧ t.m.vdrv = s.m.vdrv ∧ t.m.grate = s.m.grate)

/-- From R361, R366, R374 to R376, R378: Kindling derives the life-cycle state from the fuses and starts the firmware of the active slot
when that boots, of the other one when only that does, and none in SCRAPPED; without BOOT_OK within 2 s the boot fails; CONFIRM ends the
trial and raises the floors; ROLLBACK is due by a warm restart. -/
def Obligations.BootAndTrial : Prop :=
  (∀ (v : BootSeen) (s : State),
    let m := s.m.updSec fun x => { x with lc := lifeOf x.fuses }
    let sl := s.m.sec.boot.active
    (m.sec.lc = .scrapped → Answers (.kindlingBoot v) s fun t => t.m.sec.lc = .scrapped ∧ t.m.sec.recovery = true ∧ t.m.sec.fwVersion = 0) ∧
    (m.sec.lc ≠ .scrapped → s.m.sec.bootFail = none → s.m.sec.boot.trial = false →
      (bootFault m v sl = 0 → Answers (.kindlingBoot v) s fun t => t.m.sec.lc = lifeOf s.m.sec.fuses ∧ t.m.sec.recovery = false ∧
        t.m.sec.boot = s.m.sec.boot ∧ t.m.sec.bootWait = some t.m.mt ∧ t.m.sec.fwVersion = w32 (leAt (slotOf s.m sl).hdr 28 4) ∧
        t.m.pwr.bootCount = (s.m.pwr.bootCount + 1) % 2 ^ 32) ∧
      (bootFault m v sl ≠ 0 → bootFault m v (otherSlot sl) = 0 → Answers (.kindlingBoot v) s fun t => t.m.sec.recovery = false ∧
        t.m.sec.boot.active = otherSlot sl ∧ t.m.sec.fwVersion = w32 (leAt (slotOf s.m (otherSlot sl)).hdr 28 4)) ∧
      (bootFault m v sl ≠ 0 → bootFault m v (otherSlot sl) ≠ 0 → Answers (.kindlingBoot v) s fun t => t.m.sec.recovery = true))) ∧
  (∀ (o : Nat) (s : State), s.m.sec.bootWait = some o → o + 800000000 < 2 ^ 64 → Answers .bootWatchdog s fun t =>
    t.m.sec.bootFail = some 7 ∧ t.m.sec.warmDue = true ∧ t.m.sec.bootWait = none ∧ o + 800000000 ≤ t.m.mt) ∧
  (∀ (i : Initiator) (s : State), viewOf s.m i = true → s.m.sec.boot.trial = true → s.m.sec.warmDue = false →
    let h := (slotOf s.m s.m.sec.boot.active).hdr
    (Answers (.confirm i) s fun t => t.m.sec.boot.trial = false ∧ t.m.sec.actDone = true ∧ t.m.sec.actResult = 0 ∧
      t.m.sec.boot.fwFloor = max s.m.sec.boot.fwFloor (leAt h 36 4) ∧ t.m.sec.boot.structFloor = max s.m.sec.boot.structFloor (leAt h 40 4) ∧
      bit (t.m.rd Reg.SEC_INT_STATUS) 3 = true) ∧
    (Answers (.rollback i) s fun t => t.m.sec.bootFail = some 10 ∧ t.m.sec.warmDue = true ∧ t.m.sec.actResult = 0 ∧
      t.m.sec.boot = s.m.sec.boot))

/-- From R174, R382 to R384: a permitted ARM with a structure active and no channel to probe arms the outputs in the next tick and starts
the arm watchdog; with channels to probe it is ARMING; one not permitted ends with its result. DISARM and the watchdog disarm, with their
cause, and leave no claim on any valve channel; a kick restarts the watchdog. From R385, R386, R391, R395, R396: VBAT below 8.0 V is
warned of, with the reduced budget in both halves and the delay table saved, until 8.5 V; VBAT above 40.0 V and a die at 120 °C are
flagged; a NAND block that is worn is refreshed and a page that is lost spoils its slot; a scrub counts its corrected errors. -/
def Obligations.ArmingAndSupplies : Prop :=
  (∀ (i : Initiator) (s : State), s.m.pwr.arm = .disarmed →
    (armPermitted s.m (viewOf s.m i) = true → s.m.structActive = true → s.m.sec.lc ≠ .scrapped → s.m.grate.restoring = false →
      s.m.sec.act ≠ .pause → s.m.pwr.asleep = false →
      ((List.finRange 128).filter (probeDue s.m) = [] → Answers (.arm i) s fun t => t.m.pwr.arm = .armed ∧ t.m.pwr.armDone = true ∧
        t.m.pwr.armResult = 0 ∧ t.m.pwr.kick = t.m.mt ∧ bit (t.m.rd Reg.PWR_INT_STATUS) 4 = true) ∧
      ((List.finRange 128).filter (probeDue s.m) ≠ [] → Answers (.arm i) s fun t => t.m.pwr.arm = .arming ∧ t.m.pwr.armDone = false ∧
        t.m.pwr.probes = (List.finRange 128).filter (probeDue s.m))) ∧
    (armPermitted s.m (viewOf s.m i) = false → Answers (.arm i) s fun t => t.m.pwr.arm = .disarmed ∧ t.m.pwr.armDone = true ∧
      t.m.pwr.armResult = 3)) ∧
  (∀ (i : Initiator) (s : State), s.m.pwr.arm ≠ .disarmed → armPermitted s.m (viewOf s.m i) = true →
    Answers (.disarm i) s fun t => t.m.pwr.arm = .disarmed ∧ t.m.pwr.lastDisarm = 1 ∧
      ∀ k < 128, (vc t.m k).claims = [] ∧ (vc t.m k).level = 0) ∧
  (∀ s : State, s.m.pwr.arm = .armed → s.m.cf Reg.PWR_ARM_WD 13 0 ≠ 0 →
    Answers .wdDisarm s fun t => t.m.pwr.arm = .disarmed ∧ t.m.pwr.lastDisarm = 3 ∧ bit (t.m.rd Reg.PWR_INT_STATUS) 5 = true ∧
      ∀ k < 128, (vc t.m k).claims = [] ∧ (vc t.m k).level = 0) ∧
  (∀ s : State, Answers .armWdKick s fun t => t.m = { s.m with pwr := { s.m.pwr with kick := s.m.mt } }) ∧
  (∀ (mv : Nat) (s : State), mv < 8000 → s.m.pwr.vbatWarn = false → Answers (.vbatWarn mv) s fun t =>
    t.m.pwr.vbatWarn = true ∧ bit (t.m.rd Reg.PWR_INT_STATUS) 0 = true ∧ (∀ i < 2, (half t.m i).reduced = true) ∧
    ∀ k < 128, (learnCh t.m k).changed = false) ∧
  (∀ (mv : Nat) (s : State), 8500 ≤ mv → s.m.pwr.vbatWarn = true → Answers (.vbatOk mv) s fun t =>
    t.m.pwr.vbatWarn = false ∧ bit (t.m.rd Reg.PWR_INT_STATUS) 1 = true) ∧
  (∀ (mv : Nat) (s : State), 40000 < mv → Answers (.vbatOv mv) s fun t =>
    t.m.pwr.vbatOv = true ∧ bit (t.m.rd Reg.PWR_INT_STATUS) 2 = true) ∧
  (∀ (temp : Int) (s : State), 1200 ≤ temp → Answers (.dieHot temp) s fun t =>
    t.m.pwr.dieHot = true ∧ bit (t.m.rd Reg.PWR_INT_STATUS) 3 = true) ∧
  (∀ (p : NandPage) (s : State), (s.m.sec.delivery = none ∨ p.slot ≠ some (inactive s.m)) →
    (p.bad = false → 4 ≤ p.worst → Answers (.nandRefresh p) s fun t => t.m.pwr.refreshed = (s.m.pwr.refreshed + 1) % 65536 ∧
      t.m.pwr.nandCorr = satU 16 (s.m.pwr.nandCorr + p.corrected) ∧ bit (t.m.rd Reg.PWR_INT_STATUS) 7 = true ∧ t.m.sec = s.m.sec) ∧
    (∀ sl, p.bad = true → p.slot = some sl → Answers (.nandRefresh p) s fun t => bit (t.m.rd Reg.PWR_INT_STATUS) 8 = true ∧
      (sl = inactive s.m → slotOf t.m sl = PkgSlot.blank) ∧ (sl ≠ inactive s.m → slotOf t.m sl = { slotOf s.m sl with bad := true }))) ∧
  (∀ (d n : Nat) (s : State), Answers (.dramScrub d n) s fun t => t.m.pwr.eccDram = satU 16 (s.m.pwr.eccDram + d) ∧
    t.m.pwr.eccSram = satU 16 (s.m.pwr.eccSram + n) ∧ t.m.pwr.scrubSecs = s.m.secs ∧
    (d + n ≠ 0 → bit (t.m.rd Reg.PWR_INT_STATUS) 6 = true))

/-- From R389, R390, R414: VBAT below 6.5 V, PWR_CMD.RESET, silent firmware, a debug reset and the die at 135 °C each take a reset with
their cause: the outputs are disarmed, no structure is active, no event is left, no session is open, while fuses, keys and slots stand; a
cause that arrives during a reset restarts its hold. From R380, R393, R414: a reset is released 1 ms after its onset at the earliest, and
the start-up that follows has its cause, as has that of a module whose VBAT becomes valid; an uncorrectable error of the data plane resets
PD2 alone, and its release loads the structure of the active slot again; RESTORING ends with the settings restored. -/
def Obligations.ResetsAndStartUp : Prop :=
  (∀ (c : Instr) (cause : ResetCause) (s : State),
    ((c = .firmwareWatchdog ∧ cause = .watchdog) ∨ (∃ mv, mv < 6500 ∧ c = .vbatLow mv ∧ cause = .vbatLow) ∨
      (∃ i, viewOf s.m i = true ∧ c = .reset i ∧ cause = .software) ∨
      (s.m.sec.lc ≠ .field ∧ s.m.sec.lc ≠ .scrapped ∧ c = .debugReset ∧ cause = .debug) ∨
      (∃ temp : Int, 1350 ≤ temp ∧ c = .thermal temp ∧ cause = .thermal)) →
    s.m.pwr.asleep = false →
    (s.m.pwr.hold = none → Answers c s fun t =>
      t.m.pwr.hold = some ⟨cause, t.m.mt, false⟩ ∧ t.m.pwr.arm = .disarmed ∧ t.m.grate.active = none ∧ t.m.hob.events = [] ∧
      t.m.hob.committed = [] ∧ (∀ n, (Arr.at' t.m.sess n).phase = .idle) ∧ t.m.sec.fuses = s.m.sec.fuses ∧ t.m.sec.keys = s.m.sec.keys ∧
      t.m.sec.boot = s.m.sec.boot ∧ ∀ off, t.m.cfg off = resetOf off) ∧
    (∀ h, s.m.pwr.hold = some h → Answers c s fun t => t.m.pwr.hold = some ⟨h.cause, t.m.mt, true⟩)) ∧
  (∀ (v : BootSeen) (h : ResetHold) (s : State), s.m.pwr.hold = some h → h.onset + 400000 < 2 ^ 64 →
    (Answers (.resetRelease v) s fun t => t.m.pwr.hold = none ∧ t.m.pwr.cause = h.cause.code ∧ t.m.pwr.multiple = h.multiple ∧
      h.onset + 400000 ≤ t.m.mt ∧ t.m.pwr.bootCount = (s.m.pwr.bootCount + 1) % 2 ^ 32) ∧
    (∀ mv, 7000 ≤ mv → Answers (.vbatValid mv v) s fun t => t.m.pwr.hold = none ∧ t.m.pwr.cause = h.cause.code)) ∧
  (∀ (mv : Nat) (v : BootSeen) (s : State), 7000 ≤ mv → s.m.pwr.hold = none → s.m.pwr.domains = 1 → s.m.pwr.asleep = false →
    Answers (.vbatValid mv v) s fun t => t.m.pwr.domains = awakeDomains s.m ∧ t.m.pwr.cause = s.m.pwr.cause ∧
      t.m.pwr.bootCount = (s.m.pwr.bootCount + 1) % 2 ^ 32) ∧
  (∀ (x : EccSite) (s : State), s.m.pwr.hold = none → s.m.pwr.pd2Hold = none →
    Answers (.uncorrectableError x) s fun t => t.m.pwr.pd2Hold = some t.m.mt ∧ t.m.pwr.pd2Resets = satU 8 (s.m.pwr.pd2Resets + 1) ∧
      t.m.pwr.arm = .disarmed ∧ t.m.grate.active = none ∧ t.m.hob.events = [] ∧ t.m.sess = s.m.sess ∧
      bit (t.m.rd Reg.PWR_INT_STATUS) 10 = true) ∧
  (∀ (x : EccSite) (o : Nat) (s : State), s.m.pwr.hold = none → s.m.pwr.pd2Hold = some o →
    Answers (.uncorrectableError x) s fun t => t.m = { s.m with pwr := { s.m.pwr with pd2Hold := some s.m.mt } }) ∧
  (∀ (o : Nat) (sig : Bool) (l : Loaded) (s : State), s.m.pwr.pd2Hold = some o → o + 400000 < 2 ^ 64 → s.m.grate.loader = .idle →
    checkImage (imageEnv s.m sig) s.m.sec.boot.active (slotOf s.m s.m.sec.boot.active).image = .ok l →
    Answers (.pd2ResetRelease sig true) s fun t => t.m.pwr.pd2Hold = none ∧ o + 400000 ≤ t.m.mt ∧ t.m.grate.staging = some l ∧
      t.m.grate.loader = .swapPending) ∧
  (∀ s : State, s.m.grate.restoring = true → Answers .settingsRestore s fun t => t.m.grate.restoring = false ∧ t.m.learn.restored = true ∧
    t.m.sec.bootWait = none ∧ (s.m.sec.act = .pause → t.m.sec.act = .idle ∧ t.m.sec.actResult = 0))

/-- From R387, R392 to R394: SLEEP, privileged, disarmed and with nothing running, and WAKE inactive with WAKE_FOLLOW set, power the
module down with the settings of the PWR block in force; an enabled wake source starts it with cause WAKE. PD0 lost leaves no retained
policy and every register at its Reset value; at power-on retention comes from MRAM and BREAKS counts. -/
def Obligations.SleepAndPowerLoss : Prop :=
  (∀ (c : Instr) (s : State), (∃ i, viewOf s.m i = true ∧ s.m.pwr.arm = .disarmed ∧ c = .sleep i) ∨
      (s.m.pwr.hold = none ∧ s.m.cb Reg.PWR_CFG 30 = true ∧ c = .wakeFollowSleep) →
    s.m.pwr.asleep = false → sleepBusy s.m = false →
    Answers c s fun t => t.m.pwr.asleep = true ∧ t.m.pwr.sleepMt = t.m.mt ∧ t.m.pwr.arm = .disarmed ∧ t.m.grate.active = none ∧
      (∀ n, (Arr.at' t.m.sess n).phase = .idle) ∧ t.m.pwr.domains = 1 ∧
      ∀ off, t.m.cfg off = if unitOf off = some .pwr then s.m.cfg off else resetOf off) ∧
  (∀ (i : Initiator) (s : State), viewOf s.m i = true → s.m.pwr.asleep = false → s.m.pwr.arm ≠ .disarmed →
    Answers (.sleep i) s fun t => t.m.pwr.asleep = false ∧ t.m.pwr.cmdDone = true ∧ t.m.pwr.cmdResult = 1) ∧
  (∀ (src : Nat) (v : BootSeen) (s : State), s.m.pwr.asleep = true → wakeEnabled s.m src ≠ 0 →
    Answers (.wake src v) s fun t => t.m.pwr.asleep = false ∧ t.m.pwr.cause = 7 ∧ t.m.pwr.wakeSrc = wakeEnabled s.m src ∧
      t.m.pwr.bootCount = (s.m.pwr.bootCount + 1) % 2 ^ 32) ∧
  (∀ s : State, Answers .pd0Lost s fun t => t.m.grate.retained = Retained.empty ∧ t.m.pwr.domains = 0 ∧ t.m.pwr.cause = 0 ∧
    (∀ off, t.m.rd off = resetOf off ∧ t.m.cfg off = resetOf off) ∧ t.m.sec.fuses = s.m.sec.fuses ∧ t.m.sec.keys = s.m.sec.keys ∧
    t.m.grate.mramCopy = s.m.grate.mramCopy) ∧
  (∀ s : State, Answers .powerOn s fun t => t.m.pwr.domains = 1 ∧ t.m.pwr.cause = 1 ∧ t.m.pwr.breaks = (s.m.pwr.breaks + 1) % 2 ^ 32 ∧
    (∀ r, s.m.grate.mramCopy = some r → s.m.grate.mramOk = true → t.m.grate.retained = r ∧ t.m.grate.retainSrc = .mram) ∧
    (s.m.grate.mramOk = false → t.m.grate.retained = Retained.empty ∧ t.m.grate.retainSrc = .none))
end

