-- ==== Sys2Proof/Laws/Memory.lean ====
section
/-! SUPPORT. Sparse maps and memory: reads after writes, and the canonical form that every write keeps. -/

namespace Sys2Proof.Laws

open Sys2Proof.Machine

section sparse

variable {α : Type}

@[simp] theorem get_nil (d : Nat → α) (k : Nat) : Sparse.get d [] k = d k := rfl

theorem get_insert (d : Nat → α) (m : Sparse α) (k j : Nat) (v : α) :
    Sparse.get d (Sparse.insert k v m) j = if k = j then v else Sparse.get d m j := by
  induction m with
  | nil => simp [Sparse.insert, Sparse.get]
  | cons e m ih =>
    obtain ⟨k', v'⟩ := e
    simp only [Sparse.insert]
    split
    · simp [Sparse.get]
    · split
      · subst_vars
        simp only [Sparse.get]
        split <;> rfl
      · simp only [Sparse.get, ih]
        split <;> split <;> simp_all

theorem get_erase (d : Nat → α) (m : Sparse α) (k j : Nat) :
    Sparse.get d (Sparse.erase k m) j = if k = j then d j else Sparse.get d m j := by
  induction m with
  | nil => simp [Sparse.erase, Sparse.get]
  | cons e m ih =>
    obtain ⟨k', v'⟩ := e
    simp only [Sparse.erase]
    split
    · subst_vars
      rw [ih]
      simp only [Sparse.get]
      split <;> simp_all
    · simp only [Sparse.get, ih]
      split <;> split <;> simp_all

/-- A read after a write: the value written at its key, the old one elsewhere. -/
theorem get_set [DecidableEq α] (d : Nat → α) (m : Sparse α) (k j : Nat) (v : α) :
    Sparse.get d (Sparse.set d m k v) j = if k = j then v else Sparse.get d m j := by
  unfold Sparse.set
  split
  · rename_i h
    rw [get_erase]
    split
    · subst_vars; rfl
    · rfl
  · exact get_insert d m k j v

theorem okFrom_mono [DecidableEq α] (d : Nat → α) (m : Sparse α) {a b : Nat} (h : a ≤ b) (ok : Sparse.okFrom d b m = true) :
    Sparse.okFrom d a m = true := by
  cases m with
  | nil => rfl
  | cons e m =>
    simp only [Sparse.okFrom, Bool.and_eq_true, decide_eq_true_eq] at ok ⊢
    exact ⟨⟨by omega, ok.1.2⟩, ok.2⟩

theorem okFrom_insert [DecidableEq α] (d : Nat → α) (k : Nat) (v : α) (hv : v ≠ d k) (m : Sparse α) :
    ∀ lo, lo ≤ k → Sparse.okFrom d lo m = true → Sparse.okFrom d lo (Sparse.insert k v m) = true := by
  induction m with
  | nil => intro lo hlo _; simp [Sparse.insert, Sparse.okFrom, hlo, hv]
  | cons e m ih =>
    obtain ⟨k', v'⟩ := e
    intro lo hlo ok
    simp only [Sparse.okFrom, Bool.and_eq_true, decide_eq_true_eq] at ok
    simp only [Sparse.insert]
    split
    · rename_i h
      simp only [Sparse.okFrom, Bool.and_eq_true, decide_eq_true_eq]
      exact ⟨⟨hlo, hv⟩, ⟨by omega, ok.1.2⟩, ok.2⟩
    · split
      · subst_vars
        simp only [Sparse.okFrom, Bool.and_eq_true, decide_eq_true_eq]
        exact ⟨⟨hlo, hv⟩, ok.2⟩
      · simp only [Sparse.okFrom, Bool.and_eq_true, decide_eq_true_eq]
        exact ⟨ok.1, ih (k' + 1) (by omega) ok.2⟩

theorem okFrom_erase [DecidableEq α] (d : Nat → α) (k : Nat) (m : Sparse α) :
    ∀ lo, Sparse.okFrom d lo m = true → Sparse.okFrom d lo (Sparse.erase k m) = true := by
  induction m with
  | nil => intro lo _; rfl
  | cons e m ih =>
    obtain ⟨k', v'⟩ := e
    intro lo ok
    simp only [Sparse.okFrom, Bool.and_eq_true, decide_eq_true_eq] at ok
    simp only [Sparse.erase]
    split
    · exact okFrom_mono d _ (by omega) (ih _ ok.2)
    · simp only [Sparse.okFrom, Bool.and_eq_true, decide_eq_true_eq]
      exact ⟨ok.1, ih _ ok.2⟩

theorem set_wf [DecidableEq α] (d : Nat → α) (m : Sparse α) (k : Nat) (v : α) (h : Sparse.wf d m = true) :
    Sparse.wf d (Sparse.set d m k v) = true := by
  unfold Sparse.set
  split
  · exact okFrom_erase d k m 0 h
  · exact okFrom_insert d k v (by assumption) m 0 (Nat.zero_le k) h

end sparse

/-- Writing a byte keeps the canonical form. -/
theorem wr_wf (mem : Memory) (a : Nat) (v : Byte) (h : mem.wf = true) : (mem.wr a v).wf = true := set_wf unwritten mem a v h

/-- Writing bytes keeps the canonical form. -/
theorem wrN_wf (bs : List Byte) : ∀ (mem : Memory) (a : Nat), mem.wf = true → (mem.wrN a bs).wf = true := by
  induction bs with
  | nil => intro mem a h; exact h
  | cons b bs ih => intro mem a h; exact ih _ _ (wr_wf mem a b h)

/-- A read after a write of one byte. -/
theorem rd_wr (mem : Memory) (a b : Nat) (v : Byte) : (mem.wr a v).rd b = if a = b then v else mem.rd b :=
  get_set unwritten mem a b v

/-- Reset memory is canonical. -/
theorem reset_wf : State.reset.mem.wf = true := rfl

/-- The stored value of a register after a write. -/
@[simp] theorem rd_wr_reg (m : Module) (o o' : Nat) (v : Word) : (m.wr o v).rd o' = if o = o' then v else m.rd o' :=
  get_set resetOf m.regs.rw o o' v

end Sys2Proof.Laws
end

