-- ==== Sys2Proof/Laws/State.lean ====
section
/-! SUPPORT. One lemma per field per update of the module, so that no proof unfolds a record update. -/

namespace Sys2Proof.Laws

open Sys2Proof.Machine

section fields

variable (m : Module)

@[simp] theorem wr_time (o : Nat) (v : Word) : (m.wr o v).time = m.time := rfl
@[simp] theorem wr_core (o : Nat) (v : Word) : (m.wr o v).core = m.core := rfl
@[simp] theorem wr_plic (o : Nat) (v : Word) : (m.wr o v).plic = m.plic := rfl
@[simp] theorem wr_sess (o : Nat) (v : Word) : (m.wr o v).sess = m.sess := rfl
@[simp] theorem wr_variant (o : Nat) (v : Word) : (m.wr o v).variant = m.variant := rfl
@[simp] theorem wr_serial (o : Nat) (v : Word) : (m.wr o v).serial = m.serial := rfl
@[simp] theorem wr_grate (o : Nat) (v : Word) : (m.wr o v).grate = m.grate := rfl
@[simp] theorem wr_axes (o : Nat) (v : Word) : (m.wr o v).axes = m.axes := rfl
@[simp] theorem wr_hob (o : Nat) (v : Word) : (m.wr o v).hob = m.hob := rfl
@[simp] theorem wr_ingest (o : Nat) (v : Word) : (m.wr o v).ingest = m.ingest := rfl
@[simp] theorem wr_learn (o : Nat) (v : Word) : (m.wr o v).learn = m.learn := rfl
@[simp] theorem wr_vdrv (o : Nat) (v : Word) : (m.wr o v).vdrv = m.vdrv := rfl
@[simp] theorem wr_cover (o : Nat) (v : Word) : (m.wr o v).cover = m.cover := rfl
@[simp] theorem wr_loops (o : Nat) (v : Word) : (m.wr o v).loops = m.loops := rfl
@[simp] theorem wr_gnss (o : Nat) (v : Word) : (m.wr o v).gnss = m.gnss := rfl
@[simp] theorem wr_flue (o : Nat) (v : Word) : (m.wr o v).flue = m.flue := rfl
@[simp] theorem wr_can (o : Nat) (v : Word) : (m.wr o v).can = m.can := rfl
@[simp] theorem wr_lsw (o : Nat) (v : Word) : (m.wr o v).lsw = m.lsw := rfl
@[simp] theorem wr_fio (o : Nat) (v : Word) : (m.wr o v).fio = m.fio := rfl
@[simp] theorem wr_ash (o : Nat) (v : Word) : (m.wr o v).ash = m.ash := rfl
@[simp] theorem wr_sec (o : Nat) (v : Word) : (m.wr o v).sec = m.sec := rfl
@[simp] theorem wr_pwr (o : Nat) (v : Word) : (m.wr o v).pwr = m.pwr := rfl
@[simp] theorem wr_out (o : Nat) (v : Word) : (m.wr o v).out = m.out := rfl
@[simp] theorem wr_freeCtr (o : Nat) (v : Word) : (m.wr o v).freeCtr = m.freeCtr := rfl

@[simp] theorem orR_time (o : Nat) (v : Word) : (m.orR o v).time = m.time := rfl
@[simp] theorem orR_core (o : Nat) (v : Word) : (m.orR o v).core = m.core := rfl
@[simp] theorem orR_plic (o : Nat) (v : Word) : (m.orR o v).plic = m.plic := rfl
@[simp] theorem orR_sess (o : Nat) (v : Word) : (m.orR o v).sess = m.sess := rfl
@[simp] theorem orR_variant (o : Nat) (v : Word) : (m.orR o v).variant = m.variant := rfl
@[simp] theorem orR_serial (o : Nat) (v : Word) : (m.orR o v).serial = m.serial := rfl
@[simp] theorem orR_grate (o : Nat) (v : Word) : (m.orR o v).grate = m.grate := rfl
@[simp] theorem orR_axes (o : Nat) (v : Word) : (m.orR o v).axes = m.axes := rfl
@[simp] theorem orR_hob (o : Nat) (v : Word) : (m.orR o v).hob = m.hob := rfl
@[simp] theorem orR_ingest (o : Nat) (v : Word) : (m.orR o v).ingest = m.ingest := rfl
@[simp] theorem orR_learn (o : Nat) (v : Word) : (m.orR o v).learn = m.learn := rfl
@[simp] theorem orR_vdrv (o : Nat) (v : Word) : (m.orR o v).vdrv = m.vdrv := rfl
@[simp] theorem orR_cover (o : Nat) (v : Word) : (m.orR o v).cover = m.cover := rfl
@[simp] theorem orR_loops (o : Nat) (v : Word) : (m.orR o v).loops = m.loops := rfl
@[simp] theorem orR_gnss (o : Nat) (v : Word) : (m.orR o v).gnss = m.gnss := rfl
@[simp] theorem orR_flue (o : Nat) (v : Word) : (m.orR o v).flue = m.flue := rfl
@[simp] theorem orR_can (o : Nat) (v : Word) : (m.orR o v).can = m.can := rfl
@[simp] theorem orR_lsw (o : Nat) (v : Word) : (m.orR o v).lsw = m.lsw := rfl
@[simp] theorem orR_fio (o : Nat) (v : Word) : (m.orR o v).fio = m.fio := rfl
@[simp] theorem orR_ash (o : Nat) (v : Word) : (m.orR o v).ash = m.ash := rfl
@[simp] theorem orR_sec (o : Nat) (v : Word) : (m.orR o v).sec = m.sec := rfl
@[simp] theorem orR_pwr (o : Nat) (v : Word) : (m.orR o v).pwr = m.pwr := rfl
@[simp] theorem orR_out (o : Nat) (v : Word) : (m.orR o v).out = m.out := rfl
@[simp] theorem orR_freeCtr (o : Nat) (v : Word) : (m.orR o v).freeCtr = m.freeCtr := rfl

@[simp] theorem clrR_time (o : Nat) (v : Word) : (m.clrR o v).time = m.time := rfl
@[simp] theorem clrR_core (o : Nat) (v : Word) : (m.clrR o v).core = m.core := rfl
@[simp] theorem clrR_plic (o : Nat) (v : Word) : (m.clrR o v).plic = m.plic := rfl
@[simp] theorem clrR_sess (o : Nat) (v : Word) : (m.clrR o v).sess = m.sess := rfl
@[simp] theorem clrR_variant (o : Nat) (v : Word) : (m.clrR o v).variant = m.variant := rfl
@[simp] theorem clrR_serial (o : Nat) (v : Word) : (m.clrR o v).serial = m.serial := rfl
@[simp] theorem clrR_grate (o : Nat) (v : Word) : (m.clrR o v).grate = m.grate := rfl
@[simp] theorem clrR_axes (o : Nat) (v : Word) : (m.clrR o v).axes = m.axes := rfl
@[simp] theorem clrR_hob (o : Nat) (v : Word) : (m.clrR o v).hob = m.hob := rfl
@[simp] theorem clrR_ingest (o : Nat) (v : Word) : (m.clrR o v).ingest = m.ingest := rfl
@[simp] theorem clrR_learn (o : Nat) (v : Word) : (m.clrR o v).learn = m.learn := rfl
@[simp] theorem clrR_vdrv (o : Nat) (v : Word) : (m.clrR o v).vdrv = m.vdrv := rfl
@[simp] theorem clrR_cover (o : Nat) (v : Word) : (m.clrR o v).cover = m.cover := rfl
@[simp] theorem clrR_loops (o : Nat) (v : Word) : (m.clrR o v).loops = m.loops := rfl
@[simp] theorem clrR_gnss (o : Nat) (v : Word) : (m.clrR o v).gnss = m.gnss := rfl
@[simp] theorem clrR_flue (o : Nat) (v : Word) : (m.clrR o v).flue = m.flue := rfl
@[simp] theorem clrR_can (o : Nat) (v : Word) : (m.clrR o v).can = m.can := rfl
@[simp] theorem clrR_lsw (o : Nat) (v : Word) : (m.clrR o v).lsw = m.lsw := rfl
@[simp] theorem clrR_fio (o : Nat) (v : Word) : (m.clrR o v).fio = m.fio := rfl
@[simp] theorem clrR_ash (o : Nat) (v : Word) : (m.clrR o v).ash = m.ash := rfl
@[simp] theorem clrR_sec (o : Nat) (v : Word) : (m.clrR o v).sec = m.sec := rfl
@[simp] theorem clrR_pwr (o : Nat) (v : Word) : (m.clrR o v).pwr = m.pwr := rfl
@[simp] theorem clrR_out (o : Nat) (v : Word) : (m.clrR o v).out = m.out := rfl
@[simp] theorem clrR_freeCtr (o : Nat) (v : Word) : (m.clrR o v).freeCtr = m.freeCtr := rfl

@[simp] theorem raise_time (o i : Nat) : (m.raise o i).time = m.time := rfl
@[simp] theorem raise_core (o i : Nat) : (m.raise o i).core = m.core := rfl
@[simp] theorem raise_plic (o i : Nat) : (m.raise o i).plic = m.plic := rfl
@[simp] theorem raise_sess (o i : Nat) : (m.raise o i).sess = m.sess := rfl
@[simp] theorem raise_variant (o i : Nat) : (m.raise o i).variant = m.variant := rfl
@[simp] theorem raise_serial (o i : Nat) : (m.raise o i).serial = m.serial := rfl
@[simp] theorem raise_grate (o i : Nat) : (m.raise o i).grate = m.grate := rfl
@[simp] theorem raise_axes (o i : Nat) : (m.raise o i).axes = m.axes := rfl
@[simp] theorem raise_hob (o i : Nat) : (m.raise o i).hob = m.hob := rfl
@[simp] theorem raise_ingest (o i : Nat) : (m.raise o i).ingest = m.ingest := rfl
@[simp] theorem raise_learn (o i : Nat) : (m.raise o i).learn = m.learn := rfl
@[simp] theorem raise_vdrv (o i : Nat) : (m.raise o i).vdrv = m.vdrv := rfl
@[simp] theorem raise_cover (o i : Nat) : (m.raise o i).cover = m.cover := rfl
@[simp] theorem raise_loops (o i : Nat) : (m.raise o i).loops = m.loops := rfl
@[simp] theorem raise_gnss (o i : Nat) : (m.raise o i).gnss = m.gnss := rfl
@[simp] theorem raise_flue (o i : Nat) : (m.raise o i).flue = m.flue := rfl
@[simp] theorem raise_can (o i : Nat) : (m.raise o i).can = m.can := rfl
@[simp] theorem raise_lsw (o i : Nat) : (m.raise o i).lsw = m.lsw := rfl
@[simp] theorem raise_fio (o i : Nat) : (m.raise o i).fio = m.fio := rfl
@[simp] theorem raise_ash (o i : Nat) : (m.raise o i).ash = m.ash := rfl
@[simp] theorem raise_sec (o i : Nat) : (m.raise o i).sec = m.sec := rfl
@[simp] theorem raise_pwr (o i : Nat) : (m.raise o i).pwr = m.pwr := rfl
@[simp] theorem raise_out (o i : Nat) : (m.raise o i).out = m.out := rfl
@[simp] theorem raise_freeCtr (o i : Nat) : (m.raise o i).freeCtr = m.freeCtr := rfl

@[simp] theorem setBit_time (o i : Nat) (b : Bool) : (m.setBit o i b).time = m.time := by cases b <;> rfl
@[simp] theorem setBit_core (o i : Nat) (b : Bool) : (m.setBit o i b).core = m.core := by cases b <;> rfl
@[simp] theorem setBit_plic (o i : Nat) (b : Bool) : (m.setBit o i b).plic = m.plic := by cases b <;> rfl
@[simp] theorem setBit_sess (o i : Nat) (b : Bool) : (m.setBit o i b).sess = m.sess := by cases b <;> rfl
@[simp] theorem setBit_variant (o i : Nat) (b : Bool) : (m.setBit o i b).variant = m.variant := by cases b <;> rfl
@[simp] theorem setBit_serial (o i : Nat) (b : Bool) : (m.setBit o i b).serial = m.serial := by cases b <;> rfl
@[simp] theorem setBit_grate (o i : Nat) (b : Bool) : (m.setBit o i b).grate = m.grate := by cases b <;> rfl
@[simp] theorem setBit_axes (o i : Nat) (b : Bool) : (m.setBit o i b).axes = m.axes := by cases b <;> rfl
@[simp] theorem setBit_hob (o i : Nat) (b : Bool) : (m.setBit o i b).hob = m.hob := by cases b <;> rfl
@[simp] theorem setBit_ingest (o i : Nat) (b : Bool) : (m.setBit o i b).ingest = m.ingest := by cases b <;> rfl
@[simp] theorem setBit_learn (o i : Nat) (b : Bool) : (m.setBit o i b).learn = m.learn := by cases b <;> rfl
@[simp] theorem setBit_vdrv (o i : Nat) (b : Bool) : (m.setBit o i b).vdrv = m.vdrv := by cases b <;> rfl
@[simp] theorem setBit_cover (o i : Nat) (b : Bool) : (m.setBit o i b).cover = m.cover := by cases b <;> rfl
@[simp] theorem setBit_loops (o i : Nat) (b : Bool) : (m.setBit o i b).loops = m.loops := by cases b <;> rfl
@[simp] theorem setBit_gnss (o i : Nat) (b : Bool) : (m.setBit o i b).gnss = m.gnss := by cases b <;> rfl
@[simp] theorem setBit_flue (o i : Nat) (b : Bool) : (m.setBit o i b).flue = m.flue := by cases b <;> rfl
@[simp] theorem setBit_can (o i : Nat) (b : Bool) : (m.setBit o i b).can = m.can := by cases b <;> rfl
@[simp] theorem setBit_lsw (o i : Nat) (b : Bool) : (m.setBit o i b).lsw = m.lsw := by cases b <;> rfl
@[simp] theorem setBit_fio (o i : Nat) (b : Bool) : (m.setBit o i b).fio = m.fio := by cases b <;> rfl
@[simp] theorem setBit_ash (o i : Nat) (b : Bool) : (m.setBit o i b).ash = m.ash := by cases b <;> rfl
@[simp] theorem setBit_sec (o i : Nat) (b : Bool) : (m.setBit o i b).sec = m.sec := by cases b <;> rfl
@[simp] theorem setBit_pwr (o i : Nat) (b : Bool) : (m.setBit o i b).pwr = m.pwr := by cases b <;> rfl
@[simp] theorem setBit_out (o i : Nat) (b : Bool) : (m.setBit o i b).out = m.out := by cases b <;> rfl
@[simp] theorem setBit_freeCtr (o i : Nat) (b : Bool) : (m.setBit o i b).freeCtr = m.freeCtr := by cases b <;> rfl

@[simp] theorem setF_time (o h l x : Nat) : (m.setF o h l x).time = m.time := rfl
@[simp] theorem setF_core (o h l x : Nat) : (m.setF o h l x).core = m.core := rfl
@[simp] theorem setF_plic (o h l x : Nat) : (m.setF o h l x).plic = m.plic := rfl
@[simp] theorem setF_sess (o h l x : Nat) : (m.setF o h l x).sess = m.sess := rfl
@[simp] theorem setF_variant (o h l x : Nat) : (m.setF o h l x).variant = m.variant := rfl
@[simp] theorem setF_serial (o h l x : Nat) : (m.setF o h l x).serial = m.serial := rfl
@[simp] theorem setF_grate (o h l x : Nat) : (m.setF o h l x).grate = m.grate := rfl
@[simp] theorem setF_axes (o h l x : Nat) : (m.setF o h l x).axes = m.axes := rfl
@[simp] theorem setF_hob (o h l x : Nat) : (m.setF o h l x).hob = m.hob := rfl
@[simp] theorem setF_ingest (o h l x : Nat) : (m.setF o h l x).ingest = m.ingest := rfl
@[simp] theorem setF_learn (o h l x : Nat) : (m.setF o h l x).learn = m.learn := rfl
@[simp] theorem setF_vdrv (o h l x : Nat) : (m.setF o h l x).vdrv = m.vdrv := rfl
@[simp] theorem setF_cover (o h l x : Nat) : (m.setF o h l x).cover = m.cover := rfl
@[simp] theorem setF_loops (o h l x : Nat) : (m.setF o h l x).loops = m.loops := rfl
@[simp] theorem setF_gnss (o h l x : Nat) : (m.setF o h l x).gnss = m.gnss := rfl
@[simp] theorem setF_flue (o h l x : Nat) : (m.setF o h l x).flue = m.flue := rfl
@[simp] theorem setF_can (o h l x : Nat) : (m.setF o h l x).can = m.can := rfl
@[simp] theorem setF_lsw (o h l x : Nat) : (m.setF o h l x).lsw = m.lsw := rfl
@[simp] theorem setF_fio (o h l x : Nat) : (m.setF o h l x).fio = m.fio := rfl
@[simp] theorem setF_ash (o h l x : Nat) : (m.setF o h l x).ash = m.ash := rfl
@[simp] theorem setF_sec (o h l x : Nat) : (m.setF o h l x).sec = m.sec := rfl
@[simp] theorem setF_pwr (o h l x : Nat) : (m.setF o h l x).pwr = m.pwr := rfl
@[simp] theorem setF_out (o h l x : Nat) : (m.setF o h l x).out = m.out := rfl
@[simp] theorem setF_freeCtr (o h l x : Nat) : (m.setF o h l x).freeCtr = m.freeCtr := rfl

@[simp] theorem count_time (o : Nat) : (m.count o).time = m.time := rfl
@[simp] theorem count_core (o : Nat) : (m.count o).core = m.core := rfl
@[simp] theorem count_plic (o : Nat) : (m.count o).plic = m.plic := rfl
@[simp] theorem count_sess (o : Nat) : (m.count o).sess = m.sess := rfl
@[simp] theorem count_variant (o : Nat) : (m.count o).variant = m.variant := rfl
@[simp] theorem count_serial (o : Nat) : (m.count o).serial = m.serial := rfl
@[simp] theorem count_grate (o : Nat) : (m.count o).grate = m.grate := rfl
@[simp] theorem count_axes (o : Nat) : (m.count o).axes = m.axes := rfl
@[simp] theorem count_hob (o : Nat) : (m.count o).hob = m.hob := rfl
@[simp] theorem count_ingest (o : Nat) : (m.count o).ingest = m.ingest := rfl
@[simp] theorem count_learn (o : Nat) : (m.count o).learn = m.learn := rfl
@[simp] theorem count_vdrv (o : Nat) : (m.count o).vdrv = m.vdrv := rfl
@[simp] theorem count_cover (o : Nat) : (m.count o).cover = m.cover := rfl
@[simp] theorem count_loops (o : Nat) : (m.count o).loops = m.loops := rfl
@[simp] theorem count_gnss (o : Nat) : (m.count o).gnss = m.gnss := rfl
@[simp] theorem count_flue (o : Nat) : (m.count o).flue = m.flue := rfl
@[simp] theorem count_can (o : Nat) : (m.count o).can = m.can := rfl
@[simp] theorem count_lsw (o : Nat) : (m.count o).lsw = m.lsw := rfl
@[simp] theorem count_fio (o : Nat) : (m.count o).fio = m.fio := rfl
@[simp] theorem count_ash (o : Nat) : (m.count o).ash = m.ash := rfl
@[simp] theorem count_sec (o : Nat) : (m.count o).sec = m.sec := rfl
@[simp] theorem count_pwr (o : Nat) : (m.count o).pwr = m.pwr := rfl
@[simp] theorem count_out (o : Nat) : (m.count o).out = m.out := rfl
@[simp] theorem count_freeCtr (o : Nat) : (m.count o).freeCtr = m.freeCtr := rfl

@[simp] theorem addSat_time (o h l n : Nat) : (m.addSat o h l n).time = m.time := rfl
@[simp] theorem addSat_core (o h l n : Nat) : (m.addSat o h l n).core = m.core := rfl
@[simp] theorem addSat_plic (o h l n : Nat) : (m.addSat o h l n).plic = m.plic := rfl
@[simp] theorem addSat_sess (o h l n : Nat) : (m.addSat o h l n).sess = m.sess := rfl
@[simp] theorem addSat_variant (o h l n : Nat) : (m.addSat o h l n).variant = m.variant := rfl
@[simp] theorem addSat_serial (o h l n : Nat) : (m.addSat o h l n).serial = m.serial := rfl
@[simp] theorem addSat_grate (o h l n : Nat) : (m.addSat o h l n).grate = m.grate := rfl
@[simp] theorem addSat_axes (o h l n : Nat) : (m.addSat o h l n).axes = m.axes := rfl
@[simp] theorem addSat_hob (o h l n : Nat) : (m.addSat o h l n).hob = m.hob := rfl
@[simp] theorem addSat_ingest (o h l n : Nat) : (m.addSat o h l n).ingest = m.ingest := rfl
@[simp] theorem addSat_learn (o h l n : Nat) : (m.addSat o h l n).learn = m.learn := rfl
@[simp] theorem addSat_vdrv (o h l n : Nat) : (m.addSat o h l n).vdrv = m.vdrv := rfl
@[simp] theorem addSat_cover (o h l n : Nat) : (m.addSat o h l n).cover = m.cover := rfl
@[simp] theorem addSat_loops (o h l n : Nat) : (m.addSat o h l n).loops = m.loops := rfl
@[simp] theorem addSat_gnss (o h l n : Nat) : (m.addSat o h l n).gnss = m.gnss := rfl
@[simp] theorem addSat_flue (o h l n : Nat) : (m.addSat o h l n).flue = m.flue := rfl
@[simp] theorem addSat_can (o h l n : Nat) : (m.addSat o h l n).can = m.can := rfl
@[simp] theorem addSat_lsw (o h l n : Nat) : (m.addSat o h l n).lsw = m.lsw := rfl
@[simp] theorem addSat_fio (o h l n : Nat) : (m.addSat o h l n).fio = m.fio := rfl
@[simp] theorem addSat_ash (o h l n : Nat) : (m.addSat o h l n).ash = m.ash := rfl
@[simp] theorem addSat_sec (o h l n : Nat) : (m.addSat o h l n).sec = m.sec := rfl
@[simp] theorem addSat_pwr (o h l n : Nat) : (m.addSat o h l n).pwr = m.pwr := rfl
@[simp] theorem addSat_out (o h l n : Nat) : (m.addSat o h l n).out = m.out := rfl
@[simp] theorem addSat_freeCtr (o h l n : Nat) : (m.addSat o h l n).freeCtr = m.freeCtr := rfl

@[simp] theorem send_time (d : OutDst) (b : List Byte) : (m.send d b).time = m.time := rfl
@[simp] theorem send_regs (d : OutDst) (b : List Byte) : (m.send d b).regs = m.regs := rfl
@[simp] theorem send_core (d : OutDst) (b : List Byte) : (m.send d b).core = m.core := rfl
@[simp] theorem send_plic (d : OutDst) (b : List Byte) : (m.send d b).plic = m.plic := rfl
@[simp] theorem send_sess (d : OutDst) (b : List Byte) : (m.send d b).sess = m.sess := rfl
@[simp] theorem send_variant (d : OutDst) (b : List Byte) : (m.send d b).variant = m.variant := rfl
@[simp] theorem send_serial (d : OutDst) (b : List Byte) : (m.send d b).serial = m.serial := rfl
@[simp] theorem send_grate (d : OutDst) (b : List Byte) : (m.send d b).grate = m.grate := rfl
@[simp] theorem send_axes (d : OutDst) (b : List Byte) : (m.send d b).axes = m.axes := rfl
@[simp] theorem send_hob (d : OutDst) (b : List Byte) : (m.send d b).hob = m.hob := rfl
@[simp] theorem send_ingest (d : OutDst) (b : List Byte) : (m.send d b).ingest = m.ingest := rfl
@[simp] theorem send_learn (d : OutDst) (b : List Byte) : (m.send d b).learn = m.learn := rfl
@[simp] theorem send_vdrv (d : OutDst) (b : List Byte) : (m.send d b).vdrv = m.vdrv := rfl
@[simp] theorem send_cover (d : OutDst) (b : List Byte) : (m.send d b).cover = m.cover := rfl
@[simp] theorem send_loops (d : OutDst) (b : List Byte) : (m.send d b).loops = m.loops := rfl
@[simp] theorem send_gnss (d : OutDst) (b : List Byte) : (m.send d b).gnss = m.gnss := rfl
@[simp] theorem send_flue (d : OutDst) (b : List Byte) : (m.send d b).flue = m.flue := rfl
@[simp] theorem send_can (d : OutDst) (b : List Byte) : (m.send d b).can = m.can := rfl
@[simp] theorem send_lsw (d : OutDst) (b : List Byte) : (m.send d b).lsw = m.lsw := rfl
@[simp] theorem send_fio (d : OutDst) (b : List Byte) : (m.send d b).fio = m.fio := rfl
@[simp] theorem send_ash (d : OutDst) (b : List Byte) : (m.send d b).ash = m.ash := rfl
@[simp] theorem send_sec (d : OutDst) (b : List Byte) : (m.send d b).sec = m.sec := rfl
@[simp] theorem send_pwr (d : OutDst) (b : List Byte) : (m.send d b).pwr = m.pwr := rfl
@[simp] theorem send_freeCtr (d : OutDst) (b : List Byte) : (m.send d b).freeCtr = m.freeCtr := rfl

@[simp] theorem freed_time : (m.freed).time = m.time := rfl
@[simp] theorem freed_regs : (m.freed).regs = m.regs := rfl
@[simp] theorem freed_core : (m.freed).core = m.core := rfl
@[simp] theorem freed_plic : (m.freed).plic = m.plic := rfl
@[simp] theorem freed_sess : (m.freed).sess = m.sess := rfl
@[simp] theorem freed_variant : (m.freed).variant = m.variant := rfl
@[simp] theorem freed_serial : (m.freed).serial = m.serial := rfl
@[simp] theorem freed_grate : (m.freed).grate = m.grate := rfl
@[simp] theorem freed_axes : (m.freed).axes = m.axes := rfl
@[simp] theorem freed_hob : (m.freed).hob = m.hob := rfl
@[simp] theorem freed_ingest : (m.freed).ingest = m.ingest := rfl
@[simp] theorem freed_learn : (m.freed).learn = m.learn := rfl
@[simp] theorem freed_vdrv : (m.freed).vdrv = m.vdrv := rfl
@[simp] theorem freed_cover : (m.freed).cover = m.cover := rfl
@[simp] theorem freed_loops : (m.freed).loops = m.loops := rfl
@[simp] theorem freed_gnss : (m.freed).gnss = m.gnss := rfl
@[simp] theorem freed_flue : (m.freed).flue = m.flue := rfl
@[simp] theorem freed_can : (m.freed).can = m.can := rfl
@[simp] theorem freed_lsw : (m.freed).lsw = m.lsw := rfl
@[simp] theorem freed_fio : (m.freed).fio = m.fio := rfl
@[simp] theorem freed_ash : (m.freed).ash = m.ash := rfl
@[simp] theorem freed_sec : (m.freed).sec = m.sec := rfl
@[simp] theorem freed_pwr : (m.freed).pwr = m.pwr := rfl
@[simp] theorem freed_out : (m.freed).out = m.out := rfl

@[simp] theorem advanceTo_regs (t : Nat) : (m.advanceTo t).regs = m.regs := by unfold Module.advanceTo; split <;> rfl
@[simp] theorem advanceTo_core (t : Nat) : (m.advanceTo t).core = m.core := by unfold Module.advanceTo; split <;> rfl
@[simp] theorem advanceTo_plic (t : Nat) : (m.advanceTo t).plic = m.plic := by unfold Module.advanceTo; split <;> rfl
@[simp] theorem advanceTo_sess (t : Nat) : (m.advanceTo t).sess = m.sess := by unfold Module.advanceTo; split <;> rfl
@[simp] theorem advanceTo_variant (t : Nat) : (m.advanceTo t).variant = m.variant := by unfold Module.advanceTo; split <;> rfl
@[simp] theorem advanceTo_serial (t : Nat) : (m.advanceTo t).serial = m.serial := by unfold Module.advanceTo; split <;> rfl
@[simp] theorem advanceTo_grate (t : Nat) : (m.advanceTo t).grate = m.grate := by unfold Module.advanceTo; split <;> rfl
@[simp] theorem advanceTo_axes (t : Nat) : (m.advanceTo t).axes = m.axes := by unfold Module.advanceTo; split <;> rfl
@[simp] theorem advanceTo_hob (t : Nat) : (m.advanceTo t).hob = m.hob := by unfold Module.advanceTo; split <;> rfl
@[simp] theorem advanceTo_ingest (t : Nat) : (m.advanceTo t).ingest = m.ingest := by unfold Module.advanceTo; split <;> rfl
@[simp] theorem advanceTo_learn (t : Nat) : (m.advanceTo t).learn = m.learn := by unfold Module.advanceTo; split <;> rfl
@[simp] theorem advanceTo_vdrv (t : Nat) : (m.advanceTo t).vdrv = m.vdrv := by unfold Module.advanceTo; split <;> rfl
@[simp] theorem advanceTo_cover (t : Nat) : (m.advanceTo t).cover = m.cover := by unfold Module.advanceTo; split <;> rfl
@[simp] theorem advanceTo_loops (t : Nat) : (m.advanceTo t).loops = m.loops := by unfold Module.advanceTo; split <;> rfl
@[simp] theorem advanceTo_gnss (t : Nat) : (m.advanceTo t).gnss = m.gnss := by unfold Module.advanceTo; split <;> rfl
@[simp] theorem advanceTo_flue (t : Nat) : (m.advanceTo t).flue = m.flue := by unfold Module.advanceTo; split <;> rfl
@[simp] theorem advanceTo_can (t : Nat) : (m.advanceTo t).can = m.can := by unfold Module.advanceTo; split <;> rfl
@[simp] theorem advanceTo_lsw (t : Nat) : (m.advanceTo t).lsw = m.lsw := by unfold Module.advanceTo; split <;> rfl
@[simp] theorem advanceTo_fio (t : Nat) : (m.advanceTo t).fio = m.fio := by unfold Module.advanceTo; split <;> rfl
@[simp] theorem advanceTo_ash (t : Nat) : (m.advanceTo t).ash = m.ash := by unfold Module.advanceTo; split <;> rfl
@[simp] theorem advanceTo_sec (t : Nat) : (m.advanceTo t).sec = m.sec := by unfold Module.advanceTo; split <;> rfl
@[simp] theorem advanceTo_pwr (t : Nat) : (m.advanceTo t).pwr = m.pwr := by unfold Module.advanceTo; split <;> rfl
@[simp] theorem advanceTo_out (t : Nat) : (m.advanceTo t).out = m.out := by unfold Module.advanceTo; split <;> rfl
@[simp] theorem advanceTo_freeCtr (t : Nat) : (m.advanceTo t).freeCtr = m.freeCtr := by unfold Module.advanceTo; split <;> rfl

@[simp] theorem tick_regs : (m.tick).regs = m.regs := by unfold Module.tick Module.advanceTo; split <;> rfl
@[simp] theorem tick_core : (m.tick).core = m.core := by unfold Module.tick Module.advanceTo; split <;> rfl
@[simp] theorem tick_plic : (m.tick).plic = m.plic := by unfold Module.tick Module.advanceTo; split <;> rfl
@[simp] theorem tick_sess : (m.tick).sess = m.sess := by unfold Module.tick Module.advanceTo; split <;> rfl
@[simp] theorem tick_variant : (m.tick).variant = m.variant := by unfold Module.tick Module.advanceTo; split <;> rfl
@[simp] theorem tick_serial : (m.tick).serial = m.serial := by unfold Module.tick Module.advanceTo; split <;> rfl
@[simp] theorem tick_grate : (m.tick).grate = m.grate := by unfold Module.tick Module.advanceTo; split <;> rfl
@[simp] theorem tick_axes : (m.tick).axes = m.axes := by unfold Module.tick Module.advanceTo; split <;> rfl
@[simp] theorem tick_hob : (m.tick).hob = m.hob := by unfold Module.tick Module.advanceTo; split <;> rfl
@[simp] theorem tick_ingest : (m.tick).ingest = m.ingest := by unfold Module.tick Module.advanceTo; split <;> rfl
@[simp] theorem tick_learn : (m.tick).learn = m.learn := by unfold Module.tick Module.advanceTo; split <;> rfl
@[simp] theorem tick_vdrv : (m.tick).vdrv = m.vdrv := by unfold Module.tick Module.advanceTo; split <;> rfl
@[simp] theorem tick_cover : (m.tick).cover = m.cover := by unfold Module.tick Module.advanceTo; split <;> rfl
@[simp] theorem tick_loops : (m.tick).loops = m.loops := by unfold Module.tick Module.advanceTo; split <;> rfl
@[simp] theorem tick_gnss : (m.tick).gnss = m.gnss := by unfold Module.tick Module.advanceTo; split <;> rfl
@[simp] theorem tick_flue : (m.tick).flue = m.flue := by unfold Module.tick Module.advanceTo; split <;> rfl
@[simp] theorem tick_can : (m.tick).can = m.can := by unfold Module.tick Module.advanceTo; split <;> rfl
@[simp] theorem tick_lsw : (m.tick).lsw = m.lsw := by unfold Module.tick Module.advanceTo; split <;> rfl
@[simp] theorem tick_fio : (m.tick).fio = m.fio := by unfold Module.tick Module.advanceTo; split <;> rfl
@[simp] theorem tick_ash : (m.tick).ash = m.ash := by unfold Module.tick Module.advanceTo; split <;> rfl
@[simp] theorem tick_sec : (m.tick).sec = m.sec := by unfold Module.tick Module.advanceTo; split <;> rfl
@[simp] theorem tick_pwr : (m.tick).pwr = m.pwr := by unfold Module.tick Module.advanceTo; split <;> rfl
@[simp] theorem tick_out : (m.tick).out = m.out := by unfold Module.tick Module.advanceTo; split <;> rfl
@[simp] theorem tick_freeCtr : (m.tick).freeCtr = m.freeCtr := by unfold Module.tick Module.advanceTo; split <;> rfl

end fields

section onModule

variable (s : State) (f : Module → Module)

@[simp] theorem onModule_m : (s.onModule f).m = f s.m := rfl
@[simp] theorem onModule_mem : (s.onModule f).mem = s.mem := rfl
@[simp] theorem onModule_pending : (s.onModule f).pending = s.pending := rfl

end onModule

end Sys2Proof.Laws
end

