-- ==== Sys2Proof/Laws/Access.lean ====
section
/-! SUPPORT. Reads after updates: arrays, the flags of a register, the items of each block. -/

namespace Sys2Proof.Laws

open Sys2Proof.Machine

section arr

variable {n : Nat} {α : Type}

@[simp] theorem at_put_self (v : Arr n α) (i : Fin n) (x : α) : Arr.at' (Arr.put v i x) i = x := by
  simp [Arr.at', Arr.put]

theorem at_put_ne (v : Arr n α) (i j : Fin n) (x : α) (h : i ≠ j) : Arr.at' (Arr.put v i x) j = Arr.at' v j := by
  have : i.val ≠ j.val := fun e => h (Fin.ext e)
  simp [Arr.at', Arr.put, this]

@[simp] theorem at_upd_self (v : Arr n α) (i : Fin n) (f : α → α) : Arr.at' (Arr.upd v i f) i = f (Arr.at' v i) := by
  simp [Arr.upd]

theorem at_upd_ne (v : Arr n α) (i j : Fin n) (f : α → α) (h : i ≠ j) : Arr.at' (Arr.upd v i f) j = Arr.at' v j := by
  simp [Arr.upd, at_put_ne _ _ _ _ h]

@[simp] theorem getD_fin (v : Arr n α) (i : Fin n) (d : α) : Arr.getD v i.val d = Arr.at' v i := by simp [Arr.getD]

theorem getD_updD (v : Arr n α) (i j : Nat) (f : α → α) (d : α) :
    Arr.getD (Arr.updD v i f) j d = if i = j ∧ i < n then f (Arr.getD v i d) else Arr.getD v j d := by
  unfold Arr.getD Arr.updD
  by_cases hi : i < n
  · by_cases hj : j < n
    · by_cases e : i = j
      · subst e; simp [hi]
      · have : (⟨i, hi⟩ : Fin n) ≠ ⟨j, hj⟩ := fun h => e (congrArg Fin.val h)
        simp [hi, hj, e, at_upd_ne _ _ _ _ this]
    · have e : i ≠ j := by omega
      simp [hj, e]
  · have : ¬ (i = j ∧ i < n) := by omega
    simp [hi]

@[simp] theorem at_fill (x : α) (i : Fin n) : Arr.at' (Arr.fill n x) i = x := by simp [Arr.at', Arr.fill]

theorem at_mapIdx (v : Arr n α) (f : Fin n → α → α) (i : Fin n) : Arr.at' (Arr.mapIdx f v) i = f i (Arr.at' v i) := by
  simp [Arr.at', Arr.mapIdx]

end arr

/-! ## Flags -/

theorem bit_or (w v : Word) (i : Nat) : bit (w ||| v) i = (bit w i || bit v i) := by simp [bit]

theorem bit_shift_self (i : Nat) (h : i < 32) : bit (1#32 <<< i) i = true := by
  have : (2 : Nat) ^ i < 2 ^ 32 := Nat.pow_lt_pow_right (by decide) h
  have e : (1#32 <<< i).toNat = 2 ^ i := by
    rw [BitVec.toNat_shiftLeft]
    exact (congrArg (· % 2 ^ 32) (Nat.one_shiftLeft i)).trans (Nat.mod_eq_of_lt this)
  unfold bit
  rw [e, Nat.testBit_two_pow_self]

/-- A flag that hardware sets reads 1 (R57). -/
theorem bit_raise (m : Module) (o i : Nat) (h : i < 32) : bit ((m.raise o i).rd o) i = true := by
  simp [Module.raise, Module.orR, bit_or, bit_shift_self i h]

/-- Setting a flag leaves the flags that are set. -/
theorem bit_raise_mono (m : Module) (o o' i j : Nat) (h : bit (m.rd o') j = true) : bit ((m.raise o i).rd o') j = true := by
  by_cases e : o = o'
  · subst e; simp [Module.raise, Module.orR, bit_or, h]
  · simp [Module.raise, Module.orR, e, h]

theorem bit_rd_ne (m : Module) (o o' i j : Nat) (h : o ≠ o') : bit ((m.raise o i).rd o') j = bit (m.rd o') j := by
  simp [Module.raise, Module.orR, h]

@[simp] theorem raise_rd (m : Module) (o o' i : Nat) : (m.raise o i).rd o' = if o = o' then m.rd o ||| (1#32 <<< i) else m.rd o' := by
  simp [Module.raise, Module.orR]

@[simp] theorem orR_rd (m : Module) (o o' : Nat) (v : Word) : (m.orR o v).rd o' = if o = o' then m.rd o ||| v else m.rd o' := by
  simp [Module.orR]

@[simp] theorem clrR_rd (m : Module) (o o' : Nat) (v : Word) :
    (m.clrR o v).rd o' = if o = o' then m.rd o &&& ~~~ v else m.rd o' := by
  simp [Module.clrR]

@[simp] theorem count_rd (m : Module) (o o' : Nat) : (m.count o).rd o' = if o = o' then m.rd o + 1 else m.rd o' := by
  simp [Module.count]

theorem addSat_rd (m : Module) (o o' h l n : Nat) (e : o ≠ o') : (m.addSat o h l n).rd o' = m.rd o' := by
  simp [Module.addSat, Module.setF, e]

@[simp] theorem send_rd (m : Module) (d : OutDst) (b : List Byte) (o : Nat) : (m.send d b).rd o = m.rd o := rfl
@[simp] theorem freed_rd (m : Module) (o : Nat) : (m.freed).rd o = m.rd o := rfl

end Sys2Proof.Laws
end

