-- ==== Sys2Proof/Laws/Frames.lean ====
section
/-! SUPPORT. What the events and the coverage engine can change: everything else is as before (the frames of the
operations that end in `coverAfter`). -/

namespace Sys2Proof.Laws
open Sys2Proof.Machine

/-- What neither the events nor the coverage engine's own emissions touch. -/
def evRest (m : Module) :=
  ((m.time, m.core, m.plic, m.sess, m.variant, m.serial, m.grate, m.axes, m.learn, m.loops),
   (m.gnss, m.flue, m.can, m.lsw, m.fio, m.ash, m.sec, m.pwr, m.out, m.freeCtr),
   (m.regs.act, m.regs.pend, m.regs.pub, m.regs.pubBack, m.regs.hold),
   (m.ingest.port, m.ingest.ring, m.vdrv.half, m.vdrv.bank, m.vdrv.polWrites))

theorem foldl_keep {α β : Type} (g : Module → α) (f : Module → β → Module) (h : ∀ m b, g (f m b) = g m) (l : List β) :
    ∀ m, g (l.foldl f m) = g m := by
  induction l with
  | nil => intro m; rfl
  | cons b l ih => intro m; rw [List.foldl_cons, ih, h]

@[simp] theorem evRest_wr (m : Module) (o : Nat) (v : Word) : evRest (m.wr o v) = evRest m := rfl
@[simp] theorem evRest_count (m : Module) (o : Nat) : evRest (m.count o) = evRest m := rfl
@[simp] theorem evRest_raise (m : Module) (o i : Nat) : evRest (m.raise o i) = evRest m := rfl
@[simp] theorem evRest_orR (m : Module) (o : Nat) (v : Word) : evRest (m.orR o v) = evRest m := rfl
@[simp] theorem evRest_addSat (m : Module) (o h l n : Nat) : evRest (m.addSat o h l n) = evRest m := rfl
@[simp] theorem evRest_updCover (m : Module) (f : CoverSt → CoverSt) : evRest (m.updCover f) = evRest m := rfl
@[simp] theorem evRest_updSect (m : Module) (k : Nat) (f : SectSt → SectSt) : evRest (m.updSect k f) = evRest m := rfl
@[simp] theorem evRest_updVc (m : Module) (k : Nat) (f : VcSt → VcSt) : evRest (m.updVc k f) = evRest m := rfl
@[simp] theorem evRest_hob (m : Module) (h : HobSt) : evRest { m with hob := h } = evRest m := rfl
theorem evRest_ite (c : Prop) [Decidable c] (a b : Module) : evRest (if c then a else b) = if c then evRest a else evRest b :=
  apply_ite evRest c a b
@[simp] theorem evRest_full (m : Module) (h : HobSt) (f : Bool) :
    evRest { m with hob := h, ingest := { m.ingest with fifoFull := f } } = evRest m := rfl
@[simp] theorem evRest_fillNote (m : Module) : evRest (fillNote m) = evRest m := by
  simp only [fillNote, evRest_ite, evRest_raise, evRest_orR, evRest_full, ite_self]
@[simp] theorem evRest_setEvents (m : Module) (es : List EvRec) : evRest (m.setEvents es) = evRest m := by
  simp [Module.setEvents]
@[simp] theorem evRest_coverInt (m : Module) (i : Nat) : evRest (coverInt m i) = evRest m := by
  unfold coverInt; rfl

@[simp] theorem evRest_dropEvent (m : Module) (a : Nat) : evRest (dropEvent m a) = evRest m := by simp [dropEvent]
@[simp] theorem evRest_updEvent (m : Module) (a : Nat) (f : EvRec → EvRec) : evRest (updEvent m a f) = evRest m := by simp [updEvent]
@[simp] theorem evRest_cover (m : Module) (c : CoverSt) : evRest { m with cover := c } = evRest m := rfl
@[simp] theorem evRest_coverNote (m : Module) (ev : EvRec) (note : Note) : evRest (coverNote m ev note) = evRest m := by
  cases h : targetIx ev.chan <;>
    simp only [coverNote, h, evRest_ite, evRest_raise, evRest_count, evRest_addSat, evRest_cover, ite_self]
theorem evRest_finalNote (m : Module) (ev : EvRec) (k r fl fd : Nat) (h : ev.producer = coverProducer) :
    evRest (finalNote m ev k r fl fd) = evRest m := by
  simp only [finalNote, notify, h, if_true, evRest_cover, evRest_ite, evRest_coverNote, ite_self]
theorem evRest_missNote (m : Module) (ev : EvRec) (r : Nat) (h : ev.producer = coverProducer) : evRest (missNote m ev r) = evRest m := by
  simp only [missNote, evRest_finalNote _ _ _ _ _ _ h, evRest_ite, evRest_raise, evRest_count, ite_self]
theorem evRest_missEvent (m : Module) (ev : EvRec) (r : Nat) (h : ev.producer = coverProducer) : evRest (missEvent m ev r) = evRest m := by
  simp only [missEvent, evRest_missNote _ _ _ h, evRest_dropEvent]
@[simp] theorem evRest_intoHob (m : Module) (e : EvRec) : evRest (intoHob m e) = evRest m := by
  unfold intoHob
  dsimp only
  split
  · simp
  · split
    · split <;> simp
    · simp
theorem evRest_placeAccepted (m : Module) (e : EvRec) (o : Place) (h : e.producer = coverProducer) :
    evRest (placeAccepted m e o) = evRest m := by
  unfold placeAccepted
  split
  · exact evRest_missEvent _ _ _ h
  · simp only [evRest_ite, evRest_intoHob, evRest_updEvent, ite_self]
  · simp
theorem evRest_placed (m m0 : Module) (e : EvRec) (h : e.producer = coverProducer) (hm : evRest m0 = evRest m) :
    evRest (if lateAtAcceptance m0 e then missEvent m0 e rLate else if axisReady m0 e.axis then placeAccepted m0 e .fifo else m0)
      = evRest m := by
  split
  · exact (evRest_missEvent _ _ _ h).trans hm
  · split
    · exact (evRest_placeAccepted _ _ _ h).trans hm
    · exact hm
theorem evRest_acceptTimed (m : Module) (e : EvRec) (h : e.producer = coverProducer) : evRest (acceptTimed m e) = evRest m :=
  evRest_placed m _ _ h ((evRest_setEvents _ _).trans (evRest_hob _ _))
@[simp] theorem evRest_emit (m : Module) (op : EvOp) (c p a : Nat) (t : Int) (x : Nat) (s : Option (Nat × Nat)) :
    evRest (emit m op c p a t x s).1 = evRest m := by
  unfold emit
  split
  · simp
  · dsimp only
    rw [evRest_acceptTimed _ _ rfl]
    cases s <;> simp
@[simp] theorem evRest_coverAgain (m : Module) : evRest (coverAgain m) = evRest m := by
  unfold coverAgain
  dsimp only
  rw [foldl_keep evRest]
  · simp
  · intro m b
    obtain ⟨ev, num⟩ := b
    dsimp only
    split
    · rfl
    · split
      · rfl
      · split <;> simp
@[simp] theorem evRest_senseSection (m : Module) (k : Nat) : evRest (senseSection m k) = evRest m := by
  unfold senseSection
  dsimp only
  split
  · simp
  · split <;> simp
/-- What the coverage engine makes of a change leaves everything but the Hob, its own state and the delays it has taken. -/
@[simp] theorem evRest_coverAfter (m : Module) : evRest (coverAfter m) = evRest m := by
  unfold coverAfter
  split
  · rfl
  · rw [foldl_keep evRest _ evRest_senseSection, evRest_coverAgain]

/-- The registers that neither the events nor the coverage engine's own emissions touch. -/
abbrev evKeep (o : Nat) : Prop := o < 0x300000 ∨ (0x400000 ≤ o ∧ o < 0x700000 ∧ o ≠ Reg.INGEST_INT_STATUS) ∨ 0x800000 ≤ o

theorem rd_wr_ne (m : Module) {o o' : Nat} (v : Word) (h : o ≠ o') : (m.wr o v).rd o' = m.rd o' := by simp [h]
theorem rd_count_ne (m : Module) {o o' : Nat} (h : o ≠ o') : (m.count o).rd o' = m.rd o' := rd_wr_ne m _ h
theorem rd_orR_ne (m : Module) {o o' : Nat} (v : Word) (h : o ≠ o') : (m.orR o v).rd o' = m.rd o' := rd_wr_ne m _ h
theorem rd_raise_ne (m : Module) {o o' : Nat} (i : Nat) (h : o ≠ o') : (m.raise o i).rd o' = m.rd o' := rd_wr_ne m _ h
theorem rd_addSat_ne (m : Module) {o o' : Nat} (a b n : Nat) (h : o ≠ o') : (m.addSat o a b n).rd o' = m.rd o' := rd_wr_ne m _ h

theorem evKeep_ne {o q : Nat} (h : evKeep o) (hq : (0x300000 ≤ q ∧ q < 0x400000) ∨ (0x700000 ≤ q ∧ q < 0x800000) ∨ q = Reg.INGEST_INT_STATUS) :
    q ≠ o := by unfold evKeep at h; unfold Reg.INGEST_INT_STATUS at *; omega

section anyreg
variable {o : Nat}
theorem rd_ite (c : Prop) [Decidable c] (a b : Module) : (if c then a else b).rd o = if c then a.rd o else b.rd o :=
  apply_ite (Module.rd · o) c a b
theorem evRd_full (m : Module) (c : HobSt) (f : Bool) :
    ({ m with hob := c, ingest := { m.ingest with fifoFull := f } } : Module).rd o = m.rd o := rfl
theorem evRd_cover (m : Module) (c : CoverSt) : ({ m with cover := c } : Module).rd o = m.rd o := rfl
theorem evRd_hob (m : Module) (c : HobSt) : ({ m with hob := c } : Module).rd o = m.rd o := rfl
theorem evRd_updCover (m : Module) (f : CoverSt → CoverSt) : (m.updCover f).rd o = m.rd o := rfl
theorem evRd_updSect (m : Module) (k : Nat) (f : SectSt → SectSt) : (m.updSect k f).rd o = m.rd o := rfl
theorem evRd_updVc (m : Module) (k : Nat) (f : VcSt → VcSt) : (m.updVc k f).rd o = m.rd o := rfl
theorem evRd_senseSection (m : Module) (k : Nat) : (senseSection m k).rd o = m.rd o := by
  unfold senseSection
  dsimp only
  split
  · rfl
  · split <;> rfl
end anyreg
section regs
variable {o : Nat} (h : evKeep o)
include h

theorem evRd_fillNote (m : Module) : (fillNote m).rd o = m.rd o := by
  have h1 : Reg.HOB_INT_STATUS ≠ o := evKeep_ne h (by decide)
  have h2 : Reg.INGEST_INT_STATUS ≠ o := evKeep_ne h (by decide)
  simp only [fillNote, rd_ite, rd_raise_ne _ _ h2, rd_orR_ne _ _ h1, evRd_full, ite_self]
theorem evRd_setEvents (m : Module) (es : List EvRec) : (m.setEvents es).rd o = m.rd o := evRd_fillNote h _
theorem evRd_dropEvent (m : Module) (a : Nat) : (dropEvent m a).rd o = m.rd o := evRd_setEvents h _ _
theorem evRd_updEvent (m : Module) (a : Nat) (f : EvRec → EvRec) : (updEvent m a f).rd o = m.rd o := evRd_setEvents h _ _
theorem evRd_coverNote (m : Module) (ev : EvRec) (note : Note) : (coverNote m ev note).rd o = m.rd o := by
  have hc (k : Fin 256) : Reg.COVER_SEC_COUNT k.val ≠ o :=
    evKeep_ne h (by have := k.isLt; simp only [Reg.COVER_SEC_COUNT]; omega)
  have h1 : Reg.COVER_PUB_FIRED ≠ o := evKeep_ne h (by decide)
  have h2 : Reg.COVER_PUB_MISSED ≠ o := evKeep_ne h (by decide)
  have h3 : Reg.COVER_INT_STATUS ≠ o := evKeep_ne h (by decide)
  have h4 : Reg.COVER_PUB_CANCELLED ≠ o := evKeep_ne h (by decide)
  have h5 : Reg.COVER_PUB_TOO_LATE ≠ o := evKeep_ne h (by decide)
  cases ht : targetIx ev.chan <;>
    simp only [coverNote, ht, rd_ite, rd_raise_ne _ _ h3, rd_count_ne _ h1, rd_count_ne _ h2, rd_count_ne _ h4, rd_count_ne _ h5,
      rd_addSat_ne _ _ _ _ (hc _), evRd_cover, ite_self]
theorem evRd_finalNote (m : Module) (ev : EvRec) (k r fl fd : Nat) (hp : ev.producer = coverProducer) :
    (finalNote m ev k r fl fd).rd o = m.rd o := by
  simp only [finalNote, notify, hp, if_true, evRd_cover, rd_ite, evRd_coverNote h, ite_self]
theorem evRd_missNote (m : Module) (ev : EvRec) (r : Nat) (hp : ev.producer = coverProducer) : (missNote m ev r).rd o = m.rd o := by
  have h1 : Reg.HOB_PUB_MISSED ≠ o := evKeep_ne h (by decide)
  have h2 : Reg.HOB_PUB_LATE ≠ o := evKeep_ne h (by decide)
  have h3 : Reg.HOB_INT_STATUS ≠ o := evKeep_ne h (by decide)
  simp only [missNote, evRd_finalNote h _ _ _ _ _ _ hp, rd_ite, rd_raise_ne _ _ h3, rd_count_ne _ h1, rd_count_ne _ h2, ite_self]
theorem evRd_missEvent (m : Module) (ev : EvRec) (r : Nat) (hp : ev.producer = coverProducer) : (missEvent m ev r).rd o = m.rd o := by
  simp only [missEvent, evRd_missNote h _ _ _ hp, evRd_dropEvent h]
theorem evRd_intoHob (m : Module) (e : EvRec) : (intoHob m e).rd o = m.rd o := by
  have h1 : Reg.HOB_PUB_PROMOTED ≠ o := evKeep_ne h (by decide)
  unfold intoHob
  dsimp only
  split
  · simp only [rd_count_ne _ h1, evRd_updEvent h]
  · split
    · split <;> simp only [rd_count_ne _ h1, evRd_updEvent h]
    · simp only [evRd_updEvent h]
theorem evRd_placeAccepted (m : Module) (e : EvRec) (q : Place) (hp : e.producer = coverProducer) :
    (placeAccepted m e q).rd o = m.rd o := by
  unfold placeAccepted
  split
  · exact evRd_missEvent h _ _ _ hp
  · simp only [rd_ite, evRd_intoHob h, evRd_updEvent h, ite_self]
  · exact evRd_updEvent h _ _ _
theorem evRd_placed (m m0 : Module) (e : EvRec) (hp : e.producer = coverProducer) (hm : m0.rd o = m.rd o) :
    (if lateAtAcceptance m0 e then missEvent m0 e rLate else if axisReady m0 e.axis then placeAccepted m0 e .fifo else m0).rd o
      = m.rd o := by
  split
  · exact (evRd_missEvent h _ _ _ hp).trans hm
  · split
    · exact (evRd_placeAccepted h _ _ _ hp).trans hm
    · exact hm
theorem evRd_acceptTimed (m : Module) (e : EvRec) (hp : e.producer = coverProducer) : (acceptTimed m e).rd o = m.rd o :=
  evRd_placed h m _ _ hp ((evRd_setEvents h _ _).trans rfl)
theorem evRd_emit (m : Module) (op : EvOp) (c p a : Nat) (t : Int) (x : Nat) (s : Option (Nat × Nat))
    (hs : ∀ k d, s = some (k, d) → k < 256) : (emit m op c p a t x s).1.rd o = m.rd o := by
  have h1 : Reg.COVER_PUB_CLAIM_REFUSED ≠ o := evKeep_ne h (by decide)
  have h2 : Reg.COVER_PUB_EMITTED ≠ o := evKeep_ne h (by decide)
  have h3 : Reg.COVER_INT_STATUS ≠ o := evKeep_ne h (by decide)
  unfold emit
  split
  · simp only [coverInt, rd_raise_ne _ _ h3, evRd_updCover, rd_count_ne _ h1]
  · refine (evRd_acceptTimed h _ _ rfl).trans ?_
    cases s with
    | none => simp only [evRd_updCover, rd_count_ne _ h2]
    | some kd =>
      obtain ⟨k, d⟩ := kd
      have hk := hs k d rfl
      have hc : Reg.COVER_SEC_COUNT k ≠ o := evKeep_ne h (by simp only [Reg.COVER_SEC_COUNT]; omega)
      simp only [evRd_updCover, rd_addSat_ne _ _ _ _ hc, rd_count_ne _ h2]
theorem evRd_coverAgain (m : Module) : (coverAgain m).rd o = m.rd o := by
  unfold coverAgain
  dsimp only
  rw [foldl_keep (Module.rd · o)]
  · rfl
  · intro m b
    obtain ⟨ev, num⟩ := b
    dsimp only
    split
    · rfl
    · rename_i k _
      have hk : ∀ k' d, some (k.val, num) = some (k', d) → k' < 256 := by
        intro k' d e; simp only [Option.some.injEq, Prod.mk.injEq] at e; rw [← e.1]; exact k.isLt
      split
      · rfl
      · split <;> simp only [evRd_updCover, evRd_emit h _ _ _ _ _ _ _ _ hk]
/-- What the coverage engine makes of a change leaves the registers outside the HOB and COVER blocks. -/
theorem rd_coverAfter (m : Module) : (coverAfter m).rd o = m.rd o := by
  unfold coverAfter
  split
  · rfl
  · rw [foldl_keep (Module.rd · o) _ (evRd_senseSection), evRd_coverAgain h]
end regs
/-! ## Notifications and records -/

/-- What notifications and Ash records do not touch. -/
def noteRest (m : Module) :=
  ((m.time, m.core, m.plic, m.sess, m.variant, m.serial, m.grate, m.axes, m.learn, m.loops),
   (m.gnss, m.flue, m.can, m.lsw, m.fio, m.vdrv, m.sec, m.pwr, m.out, m.freeCtr),
   (m.regs.act, m.regs.pend, m.regs.pub, m.regs.pubBack, m.regs.hold))

theorem noteRest_ite (c : Prop) [Decidable c] (a b : Module) :
    noteRest (if c then a else b) = if c then noteRest a else noteRest b := apply_ite noteRest c a b
@[simp] theorem noteRest_wr (m : Module) (o : Nat) (v : Word) : noteRest (m.wr o v) = noteRest m := rfl
@[simp] theorem noteRest_count (m : Module) (o : Nat) : noteRest (m.count o) = noteRest m := rfl
@[simp] theorem noteRest_raise (m : Module) (o i : Nat) : noteRest (m.raise o i) = noteRest m := rfl
@[simp] theorem noteRest_orR (m : Module) (o : Nat) (v : Word) : noteRest (m.orR o v) = noteRest m := rfl
@[simp] theorem noteRest_addSat (m : Module) (o h l n : Nat) : noteRest (m.addSat o h l n) = noteRest m := rfl
@[simp] theorem noteRest_updRing (m : Module) (n : Nat) (f : RingSt → RingSt) : noteRest (m.updRing n f) = noteRest m := rfl
@[simp] theorem noteRest_hob (m : Module) (h : HobSt) : noteRest { m with hob := h } = noteRest m := rfl
@[simp] theorem noteRest_cover (m : Module) (h : CoverSt) : noteRest { m with cover := h } = noteRest m := rfl
@[simp] theorem noteRest_ash (m : Module) (h : AshSt) : noteRest { m with ash := h } = noteRest m := rfl
@[simp] theorem noteRest_full (m : Module) (h : HobSt) (f : Bool) :
    noteRest { m with hob := h, ingest := { m.ingest with fifoFull := f } } = noteRest m := rfl
@[simp] theorem noteRest_fillNote (m : Module) : noteRest (fillNote m) = noteRest m := by
  simp only [fillNote, noteRest_ite, noteRest_raise, noteRest_orR, noteRest_full, ite_self]
@[simp] theorem noteRest_setEvents (m : Module) (es : List EvRec) : noteRest (m.setEvents es) = noteRest m := by
  simp [Module.setEvents]
@[simp] theorem noteRest_dropEvent (m : Module) (a : Nat) : noteRest (dropEvent m a) = noteRest m := by simp [dropEvent]
@[simp] theorem noteRest_updEvent (m : Module) (a : Nat) (f : EvRec → EvRec) : noteRest (updEvent m a f) = noteRest m := by
  simp [updEvent]
@[simp] theorem noteRest_pushNote (m : Module) (n : Nat) (x : Note) : noteRest (pushNote m n x) = noteRest m := rfl
@[simp] theorem noteRest_fencesFinal (m : Module) (n a : Nat) : noteRest (fencesFinal m n a) = noteRest m := by
  unfold fencesFinal
  exact foldl_keep noteRest (fun m f => fenceFired m n f) (fun m f => rfl) _ _
@[simp] theorem noteRest_coverNote (m : Module) (ev : EvRec) (note : Note) : noteRest (coverNote m ev note) = noteRest m := by
  cases h : targetIx ev.chan <;>
    simp only [coverNote, h, noteRest_ite, noteRest_raise, noteRest_count, noteRest_addSat, noteRest_cover, ite_self]
@[simp] theorem noteRest_finalNote (m : Module) (ev : EvRec) (k r fl fd : Nat) : noteRest (finalNote m ev k r fl fd) = noteRest m := by
  simp only [finalNote, notify, noteRest_cover, noteRest_ite, noteRest_coverNote, noteRest_pushNote, noteRest_fencesFinal, ite_self]
@[simp] theorem noteRest_missNote (m : Module) (ev : EvRec) (r : Nat) : noteRest (missNote m ev r) = noteRest m := by
  simp only [missNote, noteRest_finalNote, noteRest_ite, noteRest_raise, noteRest_count, ite_self]
@[simp] theorem noteRest_cancelNote (m : Module) (ev : EvRec) (r : Nat) : noteRest (cancelNote m ev r) = noteRest m := by
  simp [cancelNote]
@[simp] theorem noteRest_missEvent (m : Module) (ev : EvRec) (r : Nat) : noteRest (missEvent m ev r) = noteRest m := by
  simp [missEvent]
@[simp] theorem noteRest_dropEdges (m : Module) (c a : Nat) : noteRest (dropEdges m c a) = noteRest m := by
  unfold dropEdges; split <;> simp
@[simp] theorem noteRest_missCommitted (m : Module) (a r : Nat) : noteRest (missCommitted m a r) = noteRest m := by
  unfold missCommitted; split <;> simp
@[simp] theorem noteRest_missAll (m : Module) (as : List Nat) : noteRest (missAll m as) = noteRest m := by
  unfold missAll; rw [foldl_keep noteRest _ (fun m a => noteRest_missCommitted _ _ _)]
@[simp] theorem noteRest_ashStage (m : Module) (r : AshRec) : noteRest (ashStage m r) = noteRest m := rfl
@[simp] theorem noteRest_ashDrop (m : Module) : noteRest (ashDrop m) = noteRest m := rfl
@[simp] theorem noteRest_ashOverflow (m : Module) : noteRest (ashOverflow m) = noteRest m := by
  unfold ashOverflow; split <;> rfl
@[simp] theorem noteRest_ashWriteOne (m : Module) (r : AshRec) : noteRest (ashWriteOne m r) = noteRest m := by
  simp only [ashWriteOne, noteRest_ite, noteRest_raise, noteRest_ash, ite_self]
@[simp] theorem noteRest_ashWrite (m : Module) (n : Nat) : noteRest (ashWrite m n) = noteRest m := by
  unfold ashWrite; rw [foldl_keep noteRest _ noteRest_ashWriteOne]; rfl
@[simp] theorem noteRest_ashPost (m : Module) (c : Nat) (k : AshClass) (d : List Byte) (b : Option Nat) :
    noteRest (ashPost m c k d b) = noteRest m := by
  simp only [ashPost, noteRest_ite, noteRest_ash, noteRest_ashDrop, noteRest_ashStage, noteRest_ashOverflow, noteRest_ashWrite, ite_self]
@[simp] theorem noteRest_ashLatch (m : Module) (k f : Nat) : noteRest (ashLatch m k f) = noteRest m := by simp [ashLatch]

/-- The registers that neither notifications nor Ash records touch. -/
abbrev noteKeep (o : Nat) : Prop := evKeep o ∧ o ≠ Reg.ASH_INT_STATUS

section regs
variable {o : Nat} (h : noteKeep o)
include h

theorem noteRd_coverNote (m : Module) (ev : EvRec) (note : Note) : (coverNote m ev note).rd o = m.rd o := evRd_coverNote h.1 _ _ _
omit h in
theorem rd_updRing (m : Module) (n : Nat) (f : RingSt → RingSt) : (m.updRing n f).rd o = m.rd o := rfl
omit h in
theorem rd_pushNote (m : Module) (n : Nat) (x : Note) : (pushNote m n x).rd o = m.rd o := rfl
omit h in
theorem rd_fencesFinal (m : Module) (n a : Nat) : (fencesFinal m n a).rd o = m.rd o := by
  unfold fencesFinal
  exact foldl_keep (Module.rd · o) (fun m f => fenceFired m n f) (fun m f => rfl) _ _
theorem noteRd_finalNote (m : Module) (ev : EvRec) (k r fl fd : Nat) : (finalNote m ev k r fl fd).rd o = m.rd o := by
  simp only [finalNote, notify, evRd_cover, rd_ite, noteRd_coverNote h, rd_pushNote, rd_fencesFinal, ite_self]
theorem noteRd_missNote (m : Module) (ev : EvRec) (r : Nat) : (missNote m ev r).rd o = m.rd o := by
  have h1 : Reg.HOB_PUB_MISSED ≠ o := evKeep_ne h.1 (by decide)
  have h2 : Reg.HOB_PUB_LATE ≠ o := evKeep_ne h.1 (by decide)
  have h3 : Reg.HOB_INT_STATUS ≠ o := evKeep_ne h.1 (by decide)
  simp only [missNote, noteRd_finalNote h, rd_ite, rd_raise_ne _ _ h3, rd_count_ne _ h1, rd_count_ne _ h2, ite_self]
theorem noteRd_cancelNote (m : Module) (ev : EvRec) (r : Nat) : (cancelNote m ev r).rd o = m.rd o := noteRd_finalNote h _ _ _ _ _ _
theorem noteRd_missEvent (m : Module) (ev : EvRec) (r : Nat) : (missEvent m ev r).rd o = m.rd o := by
  simp only [missEvent, noteRd_missNote h, evRd_dropEvent h.1]
omit h in
theorem rd_dropEdges (m : Module) (c a : Nat) : (dropEdges m c a).rd o = m.rd o := by
  unfold dropEdges; split <;> rfl
theorem noteRd_missCommitted (m : Module) (a r : Nat) : (missCommitted m a r).rd o = m.rd o := by
  unfold missCommitted
  split
  · rfl
  · simp only [noteRd_missNote h, evRd_hob, rd_dropEdges]
theorem noteRd_missAll (m : Module) (as : List Nat) : (missAll m as).rd o = m.rd o := by
  unfold missAll; rw [foldl_keep (Module.rd · o) _ (fun m a => noteRd_missCommitted h _ _ _)]
omit h in
theorem rd_ash (m : Module) (a : AshSt) : ({ m with ash := a } : Module).rd o = m.rd o := rfl
theorem noteRd_ashDrop (m : Module) : (ashDrop m).rd o = m.rd o := by
  simp only [ashDrop, rd_raise_ne _ _ (Ne.symm h.2), rd_ash]
omit h in
theorem rd_ashStage (m : Module) (r : AshRec) : (ashStage m r).rd o = m.rd o := rfl
omit h in
theorem rd_ashOverflow (m : Module) : (ashOverflow m).rd o = m.rd o := by unfold ashOverflow; split <;> rfl
theorem noteRd_ashWriteOne (m : Module) (r : AshRec) : (ashWriteOne m r).rd o = m.rd o := by
  simp only [ashWriteOne, rd_ite, rd_raise_ne _ _ (Ne.symm h.2), rd_ash, ite_self]
theorem noteRd_ashWrite (m : Module) (n : Nat) : (ashWrite m n).rd o = m.rd o := by
  unfold ashWrite; rw [foldl_keep (Module.rd · o) _ (noteRd_ashWriteOne h)]; rfl
theorem noteRd_ashPost (m : Module) (c : Nat) (k : AshClass) (d : List Byte) (b : Option Nat) : (ashPost m c k d b).rd o = m.rd o := by
  simp only [ashPost, rd_ite, rd_ash, noteRd_ashDrop h, rd_ashStage, rd_ashOverflow, noteRd_ashWrite h, ite_self]
theorem noteRd_ashLatch (m : Module) (k f : Nat) : (ashLatch m k f).rd o = m.rd o := by
  simp only [ashLatch, noteRd_ashPost h]
end regs
end Sys2Proof.Laws
end

