-- ==== Sys2Proof/Laws/Project.lean ====
section
/-! SUPPORT. The frames of the operations that end most commands, one lemma to a part of the module. -/

namespace Sys2Proof.Laws

open Sys2Proof.Machine

@[simp] theorem coverAfter_time (m : Module) : (coverAfter m).time = m.time := congrArg (·.1.1) (evRest_coverAfter m)
@[simp] theorem coverAfter_core (m : Module) : (coverAfter m).core = m.core := congrArg (·.1.2.1) (evRest_coverAfter m)
@[simp] theorem coverAfter_plic (m : Module) : (coverAfter m).plic = m.plic := congrArg (·.1.2.2.1) (evRest_coverAfter m)
@[simp] theorem coverAfter_sess (m : Module) : (coverAfter m).sess = m.sess := congrArg (·.1.2.2.2.1) (evRest_coverAfter m)
@[simp] theorem coverAfter_variant (m : Module) : (coverAfter m).variant = m.variant := congrArg (·.1.2.2.2.2.1) (evRest_coverAfter m)
@[simp] theorem coverAfter_serial (m : Module) : (coverAfter m).serial = m.serial := congrArg (·.1.2.2.2.2.2.1) (evRest_coverAfter m)
@[simp] theorem coverAfter_grate (m : Module) : (coverAfter m).grate = m.grate := congrArg (·.1.2.2.2.2.2.2.1) (evRest_coverAfter m)
@[simp] theorem coverAfter_axes (m : Module) : (coverAfter m).axes = m.axes := congrArg (·.1.2.2.2.2.2.2.2.1) (evRest_coverAfter m)
@[simp] theorem coverAfter_learn (m : Module) : (coverAfter m).learn = m.learn := congrArg (·.1.2.2.2.2.2.2.2.2.1) (evRest_coverAfter m)
@[simp] theorem coverAfter_loops (m : Module) : (coverAfter m).loops = m.loops := congrArg (·.1.2.2.2.2.2.2.2.2.2) (evRest_coverAfter m)
@[simp] theorem coverAfter_gnss (m : Module) : (coverAfter m).gnss = m.gnss := congrArg (·.2.1.1) (evRest_coverAfter m)
@[simp] theorem coverAfter_flue (m : Module) : (coverAfter m).flue = m.flue := congrArg (·.2.1.2.1) (evRest_coverAfter m)
@[simp] theorem coverAfter_can (m : Module) : (coverAfter m).can = m.can := congrArg (·.2.1.2.2.1) (evRest_coverAfter m)
@[simp] theorem coverAfter_lsw (m : Module) : (coverAfter m).lsw = m.lsw := congrArg (·.2.1.2.2.2.1) (evRest_coverAfter m)
@[simp] theorem coverAfter_fio (m : Module) : (coverAfter m).fio = m.fio := congrArg (·.2.1.2.2.2.2.1) (evRest_coverAfter m)
@[simp] theorem coverAfter_ash (m : Module) : (coverAfter m).ash = m.ash := congrArg (·.2.1.2.2.2.2.2.1) (evRest_coverAfter m)
@[simp] theorem coverAfter_sec (m : Module) : (coverAfter m).sec = m.sec := congrArg (·.2.1.2.2.2.2.2.2.1) (evRest_coverAfter m)
@[simp] theorem coverAfter_pwr (m : Module) : (coverAfter m).pwr = m.pwr := congrArg (·.2.1.2.2.2.2.2.2.2.1) (evRest_coverAfter m)
@[simp] theorem coverAfter_out (m : Module) : (coverAfter m).out = m.out := congrArg (·.2.1.2.2.2.2.2.2.2.2.1) (evRest_coverAfter m)
@[simp] theorem coverAfter_freeCtr (m : Module) : (coverAfter m).freeCtr = m.freeCtr := congrArg (·.2.1.2.2.2.2.2.2.2.2.2) (evRest_coverAfter m)
@[simp] theorem coverAfter_regs_act (m : Module) : (coverAfter m).regs.act = m.regs.act := congrArg (·.2.2.1.1) (evRest_coverAfter m)
@[simp] theorem coverAfter_regs_pend (m : Module) : (coverAfter m).regs.pend = m.regs.pend := congrArg (·.2.2.1.2.1) (evRest_coverAfter m)
@[simp] theorem coverAfter_regs_pub (m : Module) : (coverAfter m).regs.pub = m.regs.pub := congrArg (·.2.2.1.2.2.1) (evRest_coverAfter m)
@[simp] theorem coverAfter_regs_pubBack (m : Module) : (coverAfter m).regs.pubBack = m.regs.pubBack := congrArg (·.2.2.1.2.2.2.1) (evRest_coverAfter m)
@[simp] theorem coverAfter_regs_hold (m : Module) : (coverAfter m).regs.hold = m.regs.hold := congrArg (·.2.2.1.2.2.2.2) (evRest_coverAfter m)
@[simp] theorem coverAfter_ingest_port (m : Module) : (coverAfter m).ingest.port = m.ingest.port := congrArg (·.2.2.2.1) (evRest_coverAfter m)
@[simp] theorem coverAfter_ingest_ring (m : Module) : (coverAfter m).ingest.ring = m.ingest.ring := congrArg (·.2.2.2.2.1) (evRest_coverAfter m)
@[simp] theorem coverAfter_vdrv_half (m : Module) : (coverAfter m).vdrv.half = m.vdrv.half := congrArg (·.2.2.2.2.2.1) (evRest_coverAfter m)
@[simp] theorem coverAfter_vdrv_bank (m : Module) : (coverAfter m).vdrv.bank = m.vdrv.bank := congrArg (·.2.2.2.2.2.2.1) (evRest_coverAfter m)
@[simp] theorem coverAfter_vdrv_polWrites (m : Module) : (coverAfter m).vdrv.polWrites = m.vdrv.polWrites := congrArg (·.2.2.2.2.2.2.2) (evRest_coverAfter m)
@[simp] theorem ashPost_time (m : Module) (c : Nat) (k : AshClass) (d : List Byte) (b : Option Nat) : (ashPost m c k d b).time = m.time :=
  congrArg (·.1.1) (noteRest_ashPost m c k d b)
@[simp] theorem ashPost_core (m : Module) (c : Nat) (k : AshClass) (d : List Byte) (b : Option Nat) : (ashPost m c k d b).core = m.core :=
  congrArg (·.1.2.1) (noteRest_ashPost m c k d b)
@[simp] theorem ashPost_plic (m : Module) (c : Nat) (k : AshClass) (d : List Byte) (b : Option Nat) : (ashPost m c k d b).plic = m.plic :=
  congrArg (·.1.2.2.1) (noteRest_ashPost m c k d b)
@[simp] theorem ashPost_sess (m : Module) (c : Nat) (k : AshClass) (d : List Byte) (b : Option Nat) : (ashPost m c k d b).sess = m.sess :=
  congrArg (·.1.2.2.2.1) (noteRest_ashPost m c k d b)
@[simp] theorem ashPost_variant (m : Module) (c : Nat) (k : AshClass) (d : List Byte) (b : Option Nat) : (ashPost m c k d b).variant = m.variant :=
  congrArg (·.1.2.2.2.2.1) (noteRest_ashPost m c k d b)
@[simp] theorem ashPost_serial (m : Module) (c : Nat) (k : AshClass) (d : List Byte) (b : Option Nat) : (ashPost m c k d b).serial = m.serial :=
  congrArg (·.1.2.2.2.2.2.1) (noteRest_ashPost m c k d b)
@[simp] theorem ashPost_grate (m : Module) (c : Nat) (k : AshClass) (d : List Byte) (b : Option Nat) : (ashPost m c k d b).grate = m.grate :=
  congrArg (·.1.2.2.2.2.2.2.1) (noteRest_ashPost m c k d b)
@[simp] theorem ashPost_axes (m : Module) (c : Nat) (k : AshClass) (d : List Byte) (b : Option Nat) : (ashPost m c k d b).axes = m.axes :=
  congrArg (·.1.2.2.2.2.2.2.2.1) (noteRest_ashPost m c k d b)
@[simp] theorem ashPost_learn (m : Module) (c : Nat) (k : AshClass) (d : List Byte) (b : Option Nat) : (ashPost m c k d b).learn = m.learn :=
  congrArg (·.1.2.2.2.2.2.2.2.2.1) (noteRest_ashPost m c k d b)
@[simp] theorem ashPost_loops (m : Module) (c : Nat) (k : AshClass) (d : List Byte) (b : Option Nat) : (ashPost m c k d b).loops = m.loops :=
  congrArg (·.1.2.2.2.2.2.2.2.2.2) (noteRest_ashPost m c k d b)
@[simp] theorem ashPost_gnss (m : Module) (c : Nat) (k : AshClass) (d : List Byte) (b : Option Nat) : (ashPost m c k d b).gnss = m.gnss :=
  congrArg (·.2.1.1) (noteRest_ashPost m c k d b)
@[simp] theorem ashPost_flue (m : Module) (c : Nat) (k : AshClass) (d : List Byte) (b : Option Nat) : (ashPost m c k d b).flue = m.flue :=
  congrArg (·.2.1.2.1) (noteRest_ashPost m c k d b)
@[simp] theorem ashPost_can (m : Module) (c : Nat) (k : AshClass) (d : List Byte) (b : Option Nat) : (ashPost m c k d b).can = m.can :=
  congrArg (·.2.1.2.2.1) (noteRest_ashPost m c k d b)
@[simp] theorem ashPost_lsw (m : Module) (c : Nat) (k : AshClass) (d : List Byte) (b : Option Nat) : (ashPost m c k d b).lsw = m.lsw :=
  congrArg (·.2.1.2.2.2.1) (noteRest_ashPost m c k d b)
@[simp] theorem ashPost_fio (m : Module) (c : Nat) (k : AshClass) (d : List Byte) (b : Option Nat) : (ashPost m c k d b).fio = m.fio :=
  congrArg (·.2.1.2.2.2.2.1) (noteRest_ashPost m c k d b)
@[simp] theorem ashPost_sec (m : Module) (c : Nat) (k : AshClass) (d : List Byte) (b : Option Nat) : (ashPost m c k d b).sec = m.sec :=
  congrArg (·.2.1.2.2.2.2.2.2.1) (noteRest_ashPost m c k d b)
@[simp] theorem ashPost_pwr (m : Module) (c : Nat) (k : AshClass) (d : List Byte) (b : Option Nat) : (ashPost m c k d b).pwr = m.pwr :=
  congrArg (·.2.1.2.2.2.2.2.2.2.1) (noteRest_ashPost m c k d b)
@[simp] theorem ashPost_out (m : Module) (c : Nat) (k : AshClass) (d : List Byte) (b : Option Nat) : (ashPost m c k d b).out = m.out :=
  congrArg (·.2.1.2.2.2.2.2.2.2.2.1) (noteRest_ashPost m c k d b)
@[simp] theorem ashPost_freeCtr (m : Module) (c : Nat) (k : AshClass) (d : List Byte) (b : Option Nat) : (ashPost m c k d b).freeCtr = m.freeCtr :=
  congrArg (·.2.1.2.2.2.2.2.2.2.2.2) (noteRest_ashPost m c k d b)
@[simp] theorem ashPost_regs_act (m : Module) (c : Nat) (k : AshClass) (d : List Byte) (b : Option Nat) : (ashPost m c k d b).regs.act = m.regs.act :=
  congrArg (·.2.2.1) (noteRest_ashPost m c k d b)
@[simp] theorem ashPost_regs_pend (m : Module) (c : Nat) (k : AshClass) (d : List Byte) (b : Option Nat) : (ashPost m c k d b).regs.pend = m.regs.pend :=
  congrArg (·.2.2.2.1) (noteRest_ashPost m c k d b)
@[simp] theorem ashPost_regs_pub (m : Module) (c : Nat) (k : AshClass) (d : List Byte) (b : Option Nat) : (ashPost m c k d b).regs.pub = m.regs.pub :=
  congrArg (·.2.2.2.2.1) (noteRest_ashPost m c k d b)
@[simp] theorem ashPost_regs_pubBack (m : Module) (c : Nat) (k : AshClass) (d : List Byte) (b : Option Nat) : (ashPost m c k d b).regs.pubBack = m.regs.pubBack :=
  congrArg (·.2.2.2.2.2.1) (noteRest_ashPost m c k d b)
@[simp] theorem ashPost_regs_hold (m : Module) (c : Nat) (k : AshClass) (d : List Byte) (b : Option Nat) : (ashPost m c k d b).regs.hold = m.regs.hold :=
  congrArg (·.2.2.2.2.2.2) (noteRest_ashPost m c k d b)
@[simp] theorem ashPost_vdrv (m : Module) (c : Nat) (k : AshClass) (d : List Byte) (b : Option Nat) : (ashPost m c k d b).vdrv = m.vdrv :=
  congrArg (·.2.1.2.2.2.2.2.1) (noteRest_ashPost m c k d b)
@[simp] theorem ashLatch_time (m : Module) (k f : Nat) : (ashLatch m k f).time = m.time :=
  congrArg (·.1.1) (noteRest_ashLatch m k f)
@[simp] theorem ashLatch_core (m : Module) (k f : Nat) : (ashLatch m k f).core = m.core :=
  congrArg (·.1.2.1) (noteRest_ashLatch m k f)
@[simp] theorem ashLatch_plic (m : Module) (k f : Nat) : (ashLatch m k f).plic = m.plic :=
  congrArg (·.1.2.2.1) (noteRest_ashLatch m k f)
@[simp] theorem ashLatch_sess (m : Module) (k f : Nat) : (ashLatch m k f).sess = m.sess :=
  congrArg (·.1.2.2.2.1) (noteRest_ashLatch m k f)
@[simp] theorem ashLatch_variant (m : Module) (k f : Nat) : (ashLatch m k f).variant = m.variant :=
  congrArg (·.1.2.2.2.2.1) (noteRest_ashLatch m k f)
@[simp] theorem ashLatch_serial (m : Module) (k f : Nat) : (ashLatch m k f).serial = m.serial :=
  congrArg (·.1.2.2.2.2.2.1) (noteRest_ashLatch m k f)
@[simp] theorem ashLatch_grate (m : Module) (k f : Nat) : (ashLatch m k f).grate = m.grate :=
  congrArg (·.1.2.2.2.2.2.2.1) (noteRest_ashLatch m k f)
@[simp] theorem ashLatch_axes (m : Module) (k f : Nat) : (ashLatch m k f).axes = m.axes :=
  congrArg (·.1.2.2.2.2.2.2.2.1) (noteRest_ashLatch m k f)
@[simp] theorem ashLatch_learn (m : Module) (k f : Nat) : (ashLatch m k f).learn = m.learn :=
  congrArg (·.1.2.2.2.2.2.2.2.2.1) (noteRest_ashLatch m k f)
@[simp] theorem ashLatch_loops (m : Module) (k f : Nat) : (ashLatch m k f).loops = m.loops :=
  congrArg (·.1.2.2.2.2.2.2.2.2.2) (noteRest_ashLatch m k f)
@[simp] theorem ashLatch_gnss (m : Module) (k f : Nat) : (ashLatch m k f).gnss = m.gnss :=
  congrArg (·.2.1.1) (noteRest_ashLatch m k f)
@[simp] theorem ashLatch_flue (m : Module) (k f : Nat) : (ashLatch m k f).flue = m.flue :=
  congrArg (·.2.1.2.1) (noteRest_ashLatch m k f)
@[simp] theorem ashLatch_can (m : Module) (k f : Nat) : (ashLatch m k f).can = m.can :=
  congrArg (·.2.1.2.2.1) (noteRest_ashLatch m k f)
@[simp] theorem ashLatch_lsw (m : Module) (k f : Nat) : (ashLatch m k f).lsw = m.lsw :=
  congrArg (·.2.1.2.2.2.1) (noteRest_ashLatch m k f)
@[simp] theorem ashLatch_fio (m : Module) (k f : Nat) : (ashLatch m k f).fio = m.fio :=
  congrArg (·.2.1.2.2.2.2.1) (noteRest_ashLatch m k f)
@[simp] theorem ashLatch_sec (m : Module) (k f : Nat) : (ashLatch m k f).sec = m.sec :=
  congrArg (·.2.1.2.2.2.2.2.2.1) (noteRest_ashLatch m k f)
@[simp] theorem ashLatch_pwr (m : Module) (k f : Nat) : (ashLatch m k f).pwr = m.pwr :=
  congrArg (·.2.1.2.2.2.2.2.2.2.1) (noteRest_ashLatch m k f)
@[simp] theorem ashLatch_out (m : Module) (k f : Nat) : (ashLatch m k f).out = m.out :=
  congrArg (·.2.1.2.2.2.2.2.2.2.2.1) (noteRest_ashLatch m k f)
@[simp] theorem ashLatch_freeCtr (m : Module) (k f : Nat) : (ashLatch m k f).freeCtr = m.freeCtr :=
  congrArg (·.2.1.2.2.2.2.2.2.2.2.2) (noteRest_ashLatch m k f)
@[simp] theorem ashLatch_regs_act (m : Module) (k f : Nat) : (ashLatch m k f).regs.act = m.regs.act :=
  congrArg (·.2.2.1) (noteRest_ashLatch m k f)
@[simp] theorem ashLatch_regs_pend (m : Module) (k f : Nat) : (ashLatch m k f).regs.pend = m.regs.pend :=
  congrArg (·.2.2.2.1) (noteRest_ashLatch m k f)
@[simp] theorem ashLatch_regs_pub (m : Module) (k f : Nat) : (ashLatch m k f).regs.pub = m.regs.pub :=
  congrArg (·.2.2.2.2.1) (noteRest_ashLatch m k f)
@[simp] theorem ashLatch_regs_pubBack (m : Module) (k f : Nat) : (ashLatch m k f).regs.pubBack = m.regs.pubBack :=
  congrArg (·.2.2.2.2.2.1) (noteRest_ashLatch m k f)
@[simp] theorem ashLatch_regs_hold (m : Module) (k f : Nat) : (ashLatch m k f).regs.hold = m.regs.hold :=
  congrArg (·.2.2.2.2.2.2) (noteRest_ashLatch m k f)
@[simp] theorem ashLatch_vdrv (m : Module) (k f : Nat) : (ashLatch m k f).vdrv = m.vdrv :=
  congrArg (·.2.1.2.2.2.2.2.1) (noteRest_ashLatch m k f)
@[simp] theorem missCommitted_time (m : Module) (a r : Nat) : (missCommitted m a r).time = m.time :=
  congrArg (·.1.1) (noteRest_missCommitted m a r)
@[simp] theorem missCommitted_core (m : Module) (a r : Nat) : (missCommitted m a r).core = m.core :=
  congrArg (·.1.2.1) (noteRest_missCommitted m a r)
@[simp] theorem missCommitted_plic (m : Module) (a r : Nat) : (missCommitted m a r).plic = m.plic :=
  congrArg (·.1.2.2.1) (noteRest_missCommitted m a r)
@[simp] theorem missCommitted_sess (m : Module) (a r : Nat) : (missCommitted m a r).sess = m.sess :=
  congrArg (·.1.2.2.2.1) (noteRest_missCommitted m a r)
@[simp] theorem missCommitted_variant (m : Module) (a r : Nat) : (missCommitted m a r).variant = m.variant :=
  congrArg (·.1.2.2.2.2.1) (noteRest_missCommitted m a r)
@[simp] theorem missCommitted_serial (m : Module) (a r : Nat) : (missCommitted m a r).serial = m.serial :=
  congrArg (·.1.2.2.2.2.2.1) (noteRest_missCommitted m a r)
@[simp] theorem missCommitted_grate (m : Module) (a r : Nat) : (missCommitted m a r).grate = m.grate :=
  congrArg (·.1.2.2.2.2.2.2.1) (noteRest_missCommitted m a r)
@[simp] theorem missCommitted_axes (m : Module) (a r : Nat) : (missCommitted m a r).axes = m.axes :=
  congrArg (·.1.2.2.2.2.2.2.2.1) (noteRest_missCommitted m a r)
@[simp] theorem missCommitted_learn (m : Module) (a r : Nat) : (missCommitted m a r).learn = m.learn :=
  congrArg (·.1.2.2.2.2.2.2.2.2.1) (noteRest_missCommitted m a r)
@[simp] theorem missCommitted_loops (m : Module) (a r : Nat) : (missCommitted m a r).loops = m.loops :=
  congrArg (·.1.2.2.2.2.2.2.2.2.2) (noteRest_missCommitted m a r)
@[simp] theorem missCommitted_gnss (m : Module) (a r : Nat) : (missCommitted m a r).gnss = m.gnss :=
  congrArg (·.2.1.1) (noteRest_missCommitted m a r)
@[simp] theorem missCommitted_flue (m : Module) (a r : Nat) : (missCommitted m a r).flue = m.flue :=
  congrArg (·.2.1.2.1) (noteRest_missCommitted m a r)
@[simp] theorem missCommitted_can (m : Module) (a r : Nat) : (missCommitted m a r).can = m.can :=
  congrArg (·.2.1.2.2.1) (noteRest_missCommitted m a r)
@[simp] theorem missCommitted_lsw (m : Module) (a r : Nat) : (missCommitted m a r).lsw = m.lsw :=
  congrArg (·.2.1.2.2.2.1) (noteRest_missCommitted m a r)
@[simp] theorem missCommitted_fio (m : Module) (a r : Nat) : (missCommitted m a r).fio = m.fio :=
  congrArg (·.2.1.2.2.2.2.1) (noteRest_missCommitted m a r)
@[simp] theorem missCommitted_sec (m : Module) (a r : Nat) : (missCommitted m a r).sec = m.sec :=
  congrArg (·.2.1.2.2.2.2.2.2.1) (noteRest_missCommitted m a r)
@[simp] theorem missCommitted_pwr (m : Module) (a r : Nat) : (missCommitted m a r).pwr = m.pwr :=
  congrArg (·.2.1.2.2.2.2.2.2.2.1) (noteRest_missCommitted m a r)
@[simp] theorem missCommitted_out (m : Module) (a r : Nat) : (missCommitted m a r).out = m.out :=
  congrArg (·.2.1.2.2.2.2.2.2.2.2.1) (noteRest_missCommitted m a r)
@[simp] theorem missCommitted_freeCtr (m : Module) (a r : Nat) : (missCommitted m a r).freeCtr = m.freeCtr :=
  congrArg (·.2.1.2.2.2.2.2.2.2.2.2) (noteRest_missCommitted m a r)
@[simp] theorem missCommitted_regs_act (m : Module) (a r : Nat) : (missCommitted m a r).regs.act = m.regs.act :=
  congrArg (·.2.2.1) (noteRest_missCommitted m a r)
@[simp] theorem missCommitted_regs_pend (m : Module) (a r : Nat) : (missCommitted m a r).regs.pend = m.regs.pend :=
  congrArg (·.2.2.2.1) (noteRest_missCommitted m a r)
@[simp] theorem missCommitted_regs_pub (m : Module) (a r : Nat) : (missCommitted m a r).regs.pub = m.regs.pub :=
  congrArg (·.2.2.2.2.1) (noteRest_missCommitted m a r)
@[simp] theorem missCommitted_regs_pubBack (m : Module) (a r : Nat) : (missCommitted m a r).regs.pubBack = m.regs.pubBack :=
  congrArg (·.2.2.2.2.2.1) (noteRest_missCommitted m a r)
@[simp] theorem missCommitted_regs_hold (m : Module) (a r : Nat) : (missCommitted m a r).regs.hold = m.regs.hold :=
  congrArg (·.2.2.2.2.2.2) (noteRest_missCommitted m a r)
@[simp] theorem missCommitted_vdrv (m : Module) (a r : Nat) : (missCommitted m a r).vdrv = m.vdrv :=
  congrArg (·.2.1.2.2.2.2.2.1) (noteRest_missCommitted m a r)
@[simp] theorem missAll_time (m : Module) (as : List Nat) : (missAll m as).time = m.time :=
  congrArg (·.1.1) (noteRest_missAll m as)
@[simp] theorem missAll_core (m : Module) (as : List Nat) : (missAll m as).core = m.core :=
  congrArg (·.1.2.1) (noteRest_missAll m as)
@[simp] theorem missAll_plic (m : Module) (as : List Nat) : (missAll m as).plic = m.plic :=
  congrArg (·.1.2.2.1) (noteRest_missAll m as)
@[simp] theorem missAll_sess (m : Module) (as : List Nat) : (missAll m as).sess = m.sess :=
  congrArg (·.1.2.2.2.1) (noteRest_missAll m as)
@[simp] theorem missAll_variant (m : Module) (as : List Nat) : (missAll m as).variant = m.variant :=
  congrArg (·.1.2.2.2.2.1) (noteRest_missAll m as)
@[simp] theorem missAll_serial (m : Module) (as : List Nat) : (missAll m as).serial = m.serial :=
  congrArg (·.1.2.2.2.2.2.1) (noteRest_missAll m as)
@[simp] theorem missAll_grate (m : Module) (as : List Nat) : (missAll m as).grate = m.grate :=
  congrArg (·.1.2.2.2.2.2.2.1) (noteRest_missAll m as)
@[simp] theorem missAll_axes (m : Module) (as : List Nat) : (missAll m as).axes = m.axes :=
  congrArg (·.1.2.2.2.2.2.2.2.1) (noteRest_missAll m as)
@[simp] theorem missAll_learn (m : Module) (as : List Nat) : (missAll m as).learn = m.learn :=
  congrArg (·.1.2.2.2.2.2.2.2.2.1) (noteRest_missAll m as)
@[simp] theorem missAll_loops (m : Module) (as : List Nat) : (missAll m as).loops = m.loops :=
  congrArg (·.1.2.2.2.2.2.2.2.2.2) (noteRest_missAll m as)
@[simp] theorem missAll_gnss (m : Module) (as : List Nat) : (missAll m as).gnss = m.gnss :=
  congrArg (·.2.1.1) (noteRest_missAll m as)
@[simp] theorem missAll_flue (m : Module) (as : List Nat) : (missAll m as).flue = m.flue :=
  congrArg (·.2.1.2.1) (noteRest_missAll m as)
@[simp] theorem missAll_can (m : Module) (as : List Nat) : (missAll m as).can = m.can :=
  congrArg (·.2.1.2.2.1) (noteRest_missAll m as)
@[simp] theorem missAll_lsw (m : Module) (as : List Nat) : (missAll m as).lsw = m.lsw :=
  congrArg (·.2.1.2.2.2.1) (noteRest_missAll m as)
@[simp] theorem missAll_fio (m : Module) (as : List Nat) : (missAll m as).fio = m.fio :=
  congrArg (·.2.1.2.2.2.2.1) (noteRest_missAll m as)
@[simp] theorem missAll_sec (m : Module) (as : List Nat) : (missAll m as).sec = m.sec :=
  congrArg (·.2.1.2.2.2.2.2.2.1) (noteRest_missAll m as)
@[simp] theorem missAll_pwr (m : Module) (as : List Nat) : (missAll m as).pwr = m.pwr :=
  congrArg (·.2.1.2.2.2.2.2.2.2.1) (noteRest_missAll m as)
@[simp] theorem missAll_out (m : Module) (as : List Nat) : (missAll m as).out = m.out :=
  congrArg (·.2.1.2.2.2.2.2.2.2.2.1) (noteRest_missAll m as)
@[simp] theorem missAll_freeCtr (m : Module) (as : List Nat) : (missAll m as).freeCtr = m.freeCtr :=
  congrArg (·.2.1.2.2.2.2.2.2.2.2.2) (noteRest_missAll m as)
@[simp] theorem missAll_regs_act (m : Module) (as : List Nat) : (missAll m as).regs.act = m.regs.act :=
  congrArg (·.2.2.1) (noteRest_missAll m as)
@[simp] theorem missAll_regs_pend (m : Module) (as : List Nat) : (missAll m as).regs.pend = m.regs.pend :=
  congrArg (·.2.2.2.1) (noteRest_missAll m as)
@[simp] theorem missAll_regs_pub (m : Module) (as : List Nat) : (missAll m as).regs.pub = m.regs.pub :=
  congrArg (·.2.2.2.2.1) (noteRest_missAll m as)
@[simp] theorem missAll_regs_pubBack (m : Module) (as : List Nat) : (missAll m as).regs.pubBack = m.regs.pubBack :=
  congrArg (·.2.2.2.2.2.1) (noteRest_missAll m as)
@[simp] theorem missAll_regs_hold (m : Module) (as : List Nat) : (missAll m as).regs.hold = m.regs.hold :=
  congrArg (·.2.2.2.2.2.2) (noteRest_missAll m as)
@[simp] theorem missAll_vdrv (m : Module) (as : List Nat) : (missAll m as).vdrv = m.vdrv :=
  congrArg (·.2.1.2.2.2.2.2.1) (noteRest_missAll m as)
@[simp] theorem missEvent_time (m : Module) (ev : EvRec) (r : Nat) : (missEvent m ev r).time = m.time :=
  congrArg (·.1.1) (noteRest_missEvent m ev r)
@[simp] theorem missEvent_core (m : Module) (ev : EvRec) (r : Nat) : (missEvent m ev r).core = m.core :=
  congrArg (·.1.2.1) (noteRest_missEvent m ev r)
@[simp] theorem missEvent_plic (m : Module) (ev : EvRec) (r : Nat) : (missEvent m ev r).plic = m.plic :=
  congrArg (·.1.2.2.1) (noteRest_missEvent m ev r)
@[simp] theorem missEvent_sess (m : Module) (ev : EvRec) (r : Nat) : (missEvent m ev r).sess = m.sess :=
  congrArg (·.1.2.2.2.1) (noteRest_missEvent m ev r)
@[simp] theorem missEvent_variant (m : Module) (ev : EvRec) (r : Nat) : (missEvent m ev r).variant = m.variant :=
  congrArg (·.1.2.2.2.2.1) (noteRest_missEvent m ev r)
@[simp] theorem missEvent_serial (m : Module) (ev : EvRec) (r : Nat) : (missEvent m ev r).serial = m.serial :=
  congrArg (·.1.2.2.2.2.2.1) (noteRest_missEvent m ev r)
@[simp] theorem missEvent_grate (m : Module) (ev : EvRec) (r : Nat) : (missEvent m ev r).grate = m.grate :=
  congrArg (·.1.2.2.2.2.2.2.1) (noteRest_missEvent m ev r)
@[simp] theorem missEvent_axes (m : Module) (ev : EvRec) (r : Nat) : (missEvent m ev r).axes = m.axes :=
  congrArg (·.1.2.2.2.2.2.2.2.1) (noteRest_missEvent m ev r)
@[simp] theorem missEvent_learn (m : Module) (ev : EvRec) (r : Nat) : (missEvent m ev r).learn = m.learn :=
  congrArg (·.1.2.2.2.2.2.2.2.2.1) (noteRest_missEvent m ev r)
@[simp] theorem missEvent_loops (m : Module) (ev : EvRec) (r : Nat) : (missEvent m ev r).loops = m.loops :=
  congrArg (·.1.2.2.2.2.2.2.2.2.2) (noteRest_missEvent m ev r)
@[simp] theorem missEvent_gnss (m : Module) (ev : EvRec) (r : Nat) : (missEvent m ev r).gnss = m.gnss :=
  congrArg (·.2.1.1) (noteRest_missEvent m ev r)
@[simp] theorem missEvent_flue (m : Module) (ev : EvRec) (r : Nat) : (missEvent m ev r).flue = m.flue :=
  congrArg (·.2.1.2.1) (noteRest_missEvent m ev r)
@[simp] theorem missEvent_can (m : Module) (ev : EvRec) (r : Nat) : (missEvent m ev r).can = m.can :=
  congrArg (·.2.1.2.2.1) (noteRest_missEvent m ev r)
@[simp] theorem missEvent_lsw (m : Module) (ev : EvRec) (r : Nat) : (missEvent m ev r).lsw = m.lsw :=
  congrArg (·.2.1.2.2.2.1) (noteRest_missEvent m ev r)
@[simp] theorem missEvent_fio (m : Module) (ev : EvRec) (r : Nat) : (missEvent m ev r).fio = m.fio :=
  congrArg (·.2.1.2.2.2.2.1) (noteRest_missEvent m ev r)
@[simp] theorem missEvent_sec (m : Module) (ev : EvRec) (r : Nat) : (missEvent m ev r).sec = m.sec :=
  congrArg (·.2.1.2.2.2.2.2.2.1) (noteRest_missEvent m ev r)
@[simp] theorem missEvent_pwr (m : Module) (ev : EvRec) (r : Nat) : (missEvent m ev r).pwr = m.pwr :=
  congrArg (·.2.1.2.2.2.2.2.2.2.1) (noteRest_missEvent m ev r)
@[simp] theorem missEvent_out (m : Module) (ev : EvRec) (r : Nat) : (missEvent m ev r).out = m.out :=
  congrArg (·.2.1.2.2.2.2.2.2.2.2.1) (noteRest_missEvent m ev r)
@[simp] theorem missEvent_freeCtr (m : Module) (ev : EvRec) (r : Nat) : (missEvent m ev r).freeCtr = m.freeCtr :=
  congrArg (·.2.1.2.2.2.2.2.2.2.2.2) (noteRest_missEvent m ev r)
@[simp] theorem missEvent_regs_act (m : Module) (ev : EvRec) (r : Nat) : (missEvent m ev r).regs.act = m.regs.act :=
  congrArg (·.2.2.1) (noteRest_missEvent m ev r)
@[simp] theorem missEvent_regs_pend (m : Module) (ev : EvRec) (r : Nat) : (missEvent m ev r).regs.pend = m.regs.pend :=
  congrArg (·.2.2.2.1) (noteRest_missEvent m ev r)
@[simp] theorem missEvent_regs_pub (m : Module) (ev : EvRec) (r : Nat) : (missEvent m ev r).regs.pub = m.regs.pub :=
  congrArg (·.2.2.2.2.1) (noteRest_missEvent m ev r)
@[simp] theorem missEvent_regs_pubBack (m : Module) (ev : EvRec) (r : Nat) : (missEvent m ev r).regs.pubBack = m.regs.pubBack :=
  congrArg (·.2.2.2.2.2.1) (noteRest_missEvent m ev r)
@[simp] theorem missEvent_regs_hold (m : Module) (ev : EvRec) (r : Nat) : (missEvent m ev r).regs.hold = m.regs.hold :=
  congrArg (·.2.2.2.2.2.2) (noteRest_missEvent m ev r)
@[simp] theorem missEvent_vdrv (m : Module) (ev : EvRec) (r : Nat) : (missEvent m ev r).vdrv = m.vdrv :=
  congrArg (·.2.1.2.2.2.2.2.1) (noteRest_missEvent m ev r)
@[simp] theorem missNote_time (m : Module) (ev : EvRec) (r : Nat) : (missNote m ev r).time = m.time :=
  congrArg (·.1.1) (noteRest_missNote m ev r)
@[simp] theorem missNote_core (m : Module) (ev : EvRec) (r : Nat) : (missNote m ev r).core = m.core :=
  congrArg (·.1.2.1) (noteRest_missNote m ev r)
@[simp] theorem missNote_plic (m : Module) (ev : EvRec) (r : Nat) : (missNote m ev r).plic = m.plic :=
  congrArg (·.1.2.2.1) (noteRest_missNote m ev r)
@[simp] theorem missNote_sess (m : Module) (ev : EvRec) (r : Nat) : (missNote m ev r).sess = m.sess :=
  congrArg (·.1.2.2.2.1) (noteRest_missNote m ev r)
@[simp] theorem missNote_variant (m : Module) (ev : EvRec) (r : Nat) : (missNote m ev r).variant = m.variant :=
  congrArg (·.1.2.2.2.2.1) (noteRest_missNote m ev r)
@[simp] theorem missNote_serial (m : Module) (ev : EvRec) (r : Nat) : (missNote m ev r).serial = m.serial :=
  congrArg (·.1.2.2.2.2.2.1) (noteRest_missNote m ev r)
@[simp] theorem missNote_grate (m : Module) (ev : EvRec) (r : Nat) : (missNote m ev r).grate = m.grate :=
  congrArg (·.1.2.2.2.2.2.2.1) (noteRest_missNote m ev r)
@[simp] theorem missNote_axes (m : Module) (ev : EvRec) (r : Nat) : (missNote m ev r).axes = m.axes :=
  congrArg (·.1.2.2.2.2.2.2.2.1) (noteRest_missNote m ev r)
@[simp] theorem missNote_learn (m : Module) (ev : EvRec) (r : Nat) : (missNote m ev r).learn = m.learn :=
  congrArg (·.1.2.2.2.2.2.2.2.2.1) (noteRest_missNote m ev r)
@[simp] theorem missNote_loops (m : Module) (ev : EvRec) (r : Nat) : (missNote m ev r).loops = m.loops :=
  congrArg (·.1.2.2.2.2.2.2.2.2.2) (noteRest_missNote m ev r)
@[simp] theorem missNote_gnss (m : Module) (ev : EvRec) (r : Nat) : (missNote m ev r).gnss = m.gnss :=
  congrArg (·.2.1.1) (noteRest_missNote m ev r)
@[simp] theorem missNote_flue (m : Module) (ev : EvRec) (r : Nat) : (missNote m ev r).flue = m.flue :=
  congrArg (·.2.1.2.1) (noteRest_missNote m ev r)
@[simp] theorem missNote_can (m : Module) (ev : EvRec) (r : Nat) : (missNote m ev r).can = m.can :=
  congrArg (·.2.1.2.2.1) (noteRest_missNote m ev r)
@[simp] theorem missNote_lsw (m : Module) (ev : EvRec) (r : Nat) : (missNote m ev r).lsw = m.lsw :=
  congrArg (·.2.1.2.2.2.1) (noteRest_missNote m ev r)
@[simp] theorem missNote_fio (m : Module) (ev : EvRec) (r : Nat) : (missNote m ev r).fio = m.fio :=
  congrArg (·.2.1.2.2.2.2.1) (noteRest_missNote m ev r)
@[simp] theorem missNote_sec (m : Module) (ev : EvRec) (r : Nat) : (missNote m ev r).sec = m.sec :=
  congrArg (·.2.1.2.2.2.2.2.2.1) (noteRest_missNote m ev r)
@[simp] theorem missNote_pwr (m : Module) (ev : EvRec) (r : Nat) : (missNote m ev r).pwr = m.pwr :=
  congrArg (·.2.1.2.2.2.2.2.2.2.1) (noteRest_missNote m ev r)
@[simp] theorem missNote_out (m : Module) (ev : EvRec) (r : Nat) : (missNote m ev r).out = m.out :=
  congrArg (·.2.1.2.2.2.2.2.2.2.2.1) (noteRest_missNote m ev r)
@[simp] theorem missNote_freeCtr (m : Module) (ev : EvRec) (r : Nat) : (missNote m ev r).freeCtr = m.freeCtr :=
  congrArg (·.2.1.2.2.2.2.2.2.2.2.2) (noteRest_missNote m ev r)
@[simp] theorem missNote_regs_act (m : Module) (ev : EvRec) (r : Nat) : (missNote m ev r).regs.act = m.regs.act :=
  congrArg (·.2.2.1) (noteRest_missNote m ev r)
@[simp] theorem missNote_regs_pend (m : Module) (ev : EvRec) (r : Nat) : (missNote m ev r).regs.pend = m.regs.pend :=
  congrArg (·.2.2.2.1) (noteRest_missNote m ev r)
@[simp] theorem missNote_regs_pub (m : Module) (ev : EvRec) (r : Nat) : (missNote m ev r).regs.pub = m.regs.pub :=
  congrArg (·.2.2.2.2.1) (noteRest_missNote m ev r)
@[simp] theorem missNote_regs_pubBack (m : Module) (ev : EvRec) (r : Nat) : (missNote m ev r).regs.pubBack = m.regs.pubBack :=
  congrArg (·.2.2.2.2.2.1) (noteRest_missNote m ev r)
@[simp] theorem missNote_regs_hold (m : Module) (ev : EvRec) (r : Nat) : (missNote m ev r).regs.hold = m.regs.hold :=
  congrArg (·.2.2.2.2.2.2) (noteRest_missNote m ev r)
@[simp] theorem missNote_vdrv (m : Module) (ev : EvRec) (r : Nat) : (missNote m ev r).vdrv = m.vdrv :=
  congrArg (·.2.1.2.2.2.2.2.1) (noteRest_missNote m ev r)
@[simp] theorem cancelNote_time (m : Module) (ev : EvRec) (r : Nat) : (cancelNote m ev r).time = m.time :=
  congrArg (·.1.1) (noteRest_cancelNote m ev r)
@[simp] theorem cancelNote_core (m : Module) (ev : EvRec) (r : Nat) : (cancelNote m ev r).core = m.core :=
  congrArg (·.1.2.1) (noteRest_cancelNote m ev r)
@[simp] theorem cancelNote_plic (m : Module) (ev : EvRec) (r : Nat) : (cancelNote m ev r).plic = m.plic :=
  congrArg (·.1.2.2.1) (noteRest_cancelNote m ev r)
@[simp] theorem cancelNote_sess (m : Module) (ev : EvRec) (r : Nat) : (cancelNote m ev r).sess = m.sess :=
  congrArg (·.1.2.2.2.1) (noteRest_cancelNote m ev r)
@[simp] theorem cancelNote_variant (m : Module) (ev : EvRec) (r : Nat) : (cancelNote m ev r).variant = m.variant :=
  congrArg (·.1.2.2.2.2.1) (noteRest_cancelNote m ev r)
@[simp] theorem cancelNote_serial (m : Module) (ev : EvRec) (r : Nat) : (cancelNote m ev r).serial = m.serial :=
  congrArg (·.1.2.2.2.2.2.1) (noteRest_cancelNote m ev r)
@[simp] theorem cancelNote_grate (m : Module) (ev : EvRec) (r : Nat) : (cancelNote m ev r).grate = m.grate :=
  congrArg (·.1.2.2.2.2.2.2.1) (noteRest_cancelNote m ev r)
@[simp] theorem cancelNote_axes (m : Module) (ev : EvRec) (r : Nat) : (cancelNote m ev r).axes = m.axes :=
  congrArg (·.1.2.2.2.2.2.2.2.1) (noteRest_cancelNote m ev r)
@[simp] theorem cancelNote_learn (m : Module) (ev : EvRec) (r : Nat) : (cancelNote m ev r).learn = m.learn :=
  congrArg (·.1.2.2.2.2.2.2.2.2.1) (noteRest_cancelNote m ev r)
@[simp] theorem cancelNote_loops (m : Module) (ev : EvRec) (r : Nat) : (cancelNote m ev r).loops = m.loops :=
  congrArg (·.1.2.2.2.2.2.2.2.2.2) (noteRest_cancelNote m ev r)
@[simp] theorem cancelNote_gnss (m : Module) (ev : EvRec) (r : Nat) : (cancelNote m ev r).gnss = m.gnss :=
  congrArg (·.2.1.1) (noteRest_cancelNote m ev r)
@[simp] theorem cancelNote_flue (m : Module) (ev : EvRec) (r : Nat) : (cancelNote m ev r).flue = m.flue :=
  congrArg (·.2.1.2.1) (noteRest_cancelNote m ev r)
@[simp] theorem cancelNote_can (m : Module) (ev : EvRec) (r : Nat) : (cancelNote m ev r).can = m.can :=
  congrArg (·.2.1.2.2.1) (noteRest_cancelNote m ev r)
@[simp] theorem cancelNote_lsw (m : Module) (ev : EvRec) (r : Nat) : (cancelNote m ev r).lsw = m.lsw :=
  congrArg (·.2.1.2.2.2.1) (noteRest_cancelNote m ev r)
@[simp] theorem cancelNote_fio (m : Module) (ev : EvRec) (r : Nat) : (cancelNote m ev r).fio = m.fio :=
  congrArg (·.2.1.2.2.2.2.1) (noteRest_cancelNote m ev r)
@[simp] theorem cancelNote_sec (m : Module) (ev : EvRec) (r : Nat) : (cancelNote m ev r).sec = m.sec :=
  congrArg (·.2.1.2.2.2.2.2.2.1) (noteRest_cancelNote m ev r)
@[simp] theorem cancelNote_pwr (m : Module) (ev : EvRec) (r : Nat) : (cancelNote m ev r).pwr = m.pwr :=
  congrArg (·.2.1.2.2.2.2.2.2.2.1) (noteRest_cancelNote m ev r)
@[simp] theorem cancelNote_out (m : Module) (ev : EvRec) (r : Nat) : (cancelNote m ev r).out = m.out :=
  congrArg (·.2.1.2.2.2.2.2.2.2.2.1) (noteRest_cancelNote m ev r)
@[simp] theorem cancelNote_freeCtr (m : Module) (ev : EvRec) (r : Nat) : (cancelNote m ev r).freeCtr = m.freeCtr :=
  congrArg (·.2.1.2.2.2.2.2.2.2.2.2) (noteRest_cancelNote m ev r)
@[simp] theorem cancelNote_regs_act (m : Module) (ev : EvRec) (r : Nat) : (cancelNote m ev r).regs.act = m.regs.act :=
  congrArg (·.2.2.1) (noteRest_cancelNote m ev r)
@[simp] theorem cancelNote_regs_pend (m : Module) (ev : EvRec) (r : Nat) : (cancelNote m ev r).regs.pend = m.regs.pend :=
  congrArg (·.2.2.2.1) (noteRest_cancelNote m ev r)
@[simp] theorem cancelNote_regs_pub (m : Module) (ev : EvRec) (r : Nat) : (cancelNote m ev r).regs.pub = m.regs.pub :=
  congrArg (·.2.2.2.2.1) (noteRest_cancelNote m ev r)
@[simp] theorem cancelNote_regs_pubBack (m : Module) (ev : EvRec) (r : Nat) : (cancelNote m ev r).regs.pubBack = m.regs.pubBack :=
  congrArg (·.2.2.2.2.2.1) (noteRest_cancelNote m ev r)
@[simp] theorem cancelNote_regs_hold (m : Module) (ev : EvRec) (r : Nat) : (cancelNote m ev r).regs.hold = m.regs.hold :=
  congrArg (·.2.2.2.2.2.2) (noteRest_cancelNote m ev r)
@[simp] theorem cancelNote_vdrv (m : Module) (ev : EvRec) (r : Nat) : (cancelNote m ev r).vdrv = m.vdrv :=
  congrArg (·.2.1.2.2.2.2.2.1) (noteRest_cancelNote m ev r)
@[simp] theorem coverAfter_mt (m : Module) : (coverAfter m).mt = m.mt := by simp [Module.mt]
@[simp] theorem ashPost_mt (m : Module) (c : Nat) (k : AshClass) (d : List Byte) (b : Option Nat) : (ashPost m c k d b).mt = m.mt := by
  simp [Module.mt]
@[simp] theorem coverAfter_cfg (m : Module) (o : Nat) : (coverAfter m).cfg o = m.cfg o := by simp [Module.cfg]

/-! ## Taking a step of R135, and coming to an instant -/

@[simp] theorem enterPhase_regs (m : Module) (k : Nat) : (m.enterPhase k).regs = m.regs := by
  unfold Module.enterPhase Module.tick Module.advanceTo; dsimp only; split <;> (try split) <;> rfl
@[simp] theorem enterPhase_core (m : Module) (k : Nat) : (m.enterPhase k).core = m.core := by
  unfold Module.enterPhase Module.tick Module.advanceTo; dsimp only; split <;> (try split) <;> rfl
@[simp] theorem enterPhase_plic (m : Module) (k : Nat) : (m.enterPhase k).plic = m.plic := by
  unfold Module.enterPhase Module.tick Module.advanceTo; dsimp only; split <;> (try split) <;> rfl
@[simp] theorem enterPhase_sess (m : Module) (k : Nat) : (m.enterPhase k).sess = m.sess := by
  unfold Module.enterPhase Module.tick Module.advanceTo; dsimp only; split <;> (try split) <;> rfl
@[simp] theorem enterPhase_variant (m : Module) (k : Nat) : (m.enterPhase k).variant = m.variant := by
  unfold Module.enterPhase Module.tick Module.advanceTo; dsimp only; split <;> (try split) <;> rfl
@[simp] theorem enterPhase_serial (m : Module) (k : Nat) : (m.enterPhase k).serial = m.serial := by
  unfold Module.enterPhase Module.tick Module.advanceTo; dsimp only; split <;> (try split) <;> rfl
@[simp] theorem enterPhase_grate (m : Module) (k : Nat) : (m.enterPhase k).grate = m.grate := by
  unfold Module.enterPhase Module.tick Module.advanceTo; dsimp only; split <;> (try split) <;> rfl
@[simp] theorem enterPhase_axes (m : Module) (k : Nat) : (m.enterPhase k).axes = m.axes := by
  unfold Module.enterPhase Module.tick Module.advanceTo; dsimp only; split <;> (try split) <;> rfl
@[simp] theorem enterPhase_hob (m : Module) (k : Nat) : (m.enterPhase k).hob = m.hob := by
  unfold Module.enterPhase Module.tick Module.advanceTo; dsimp only; split <;> (try split) <;> rfl
@[simp] theorem enterPhase_ingest (m : Module) (k : Nat) : (m.enterPhase k).ingest = m.ingest := by
  unfold Module.enterPhase Module.tick Module.advanceTo; dsimp only; split <;> (try split) <;> rfl
@[simp] theorem enterPhase_learn (m : Module) (k : Nat) : (m.enterPhase k).learn = m.learn := by
  unfold Module.enterPhase Module.tick Module.advanceTo; dsimp only; split <;> (try split) <;> rfl
@[simp] theorem enterPhase_vdrv (m : Module) (k : Nat) : (m.enterPhase k).vdrv = m.vdrv := by
  unfold Module.enterPhase Module.tick Module.advanceTo; dsimp only; split <;> (try split) <;> rfl
@[simp] theorem enterPhase_cover (m : Module) (k : Nat) : (m.enterPhase k).cover = m.cover := by
  unfold Module.enterPhase Module.tick Module.advanceTo; dsimp only; split <;> (try split) <;> rfl
@[simp] theorem enterPhase_loops (m : Module) (k : Nat) : (m.enterPhase k).loops = m.loops := by
  unfold Module.enterPhase Module.tick Module.advanceTo; dsimp only; split <;> (try split) <;> rfl
@[simp] theorem enterPhase_gnss (m : Module) (k : Nat) : (m.enterPhase k).gnss = m.gnss := by
  unfold Module.enterPhase Module.tick Module.advanceTo; dsimp only; split <;> (try split) <;> rfl
@[simp] theorem enterPhase_flue (m : Module) (k : Nat) : (m.enterPhase k).flue = m.flue := by
  unfold Module.enterPhase Module.tick Module.advanceTo; dsimp only; split <;> (try split) <;> rfl
@[simp] theorem enterPhase_can (m : Module) (k : Nat) : (m.enterPhase k).can = m.can := by
  unfold Module.enterPhase Module.tick Module.advanceTo; dsimp only; split <;> (try split) <;> rfl
@[simp] theorem enterPhase_lsw (m : Module) (k : Nat) : (m.enterPhase k).lsw = m.lsw := by
  unfold Module.enterPhase Module.tick Module.advanceTo; dsimp only; split <;> (try split) <;> rfl
@[simp] theorem enterPhase_fio (m : Module) (k : Nat) : (m.enterPhase k).fio = m.fio := by
  unfold Module.enterPhase Module.tick Module.advanceTo; dsimp only; split <;> (try split) <;> rfl
@[simp] theorem enterPhase_ash (m : Module) (k : Nat) : (m.enterPhase k).ash = m.ash := by
  unfold Module.enterPhase Module.tick Module.advanceTo; dsimp only; split <;> (try split) <;> rfl
@[simp] theorem enterPhase_sec (m : Module) (k : Nat) : (m.enterPhase k).sec = m.sec := by
  unfold Module.enterPhase Module.tick Module.advanceTo; dsimp only; split <;> (try split) <;> rfl
@[simp] theorem enterPhase_pwr (m : Module) (k : Nat) : (m.enterPhase k).pwr = m.pwr := by
  unfold Module.enterPhase Module.tick Module.advanceTo; dsimp only; split <;> (try split) <;> rfl
@[simp] theorem enterPhase_out (m : Module) (k : Nat) : (m.enterPhase k).out = m.out := by
  unfold Module.enterPhase Module.tick Module.advanceTo; dsimp only; split <;> (try split) <;> rfl
@[simp] theorem enterPhase_freeCtr (m : Module) (k : Nat) : (m.enterPhase k).freeCtr = m.freeCtr := by
  unfold Module.enterPhase Module.tick Module.advanceTo; dsimp only; split <;> (try split) <;> rfl
@[simp] theorem enterPhase_rd (m : Module) (k o : Nat) : (m.enterPhase k).rd o = m.rd o := by simp [Module.rd]
@[simp] theorem enterPhase_cfg (m : Module) (k o : Nat) : (m.enterPhase k).cfg o = m.cfg o := by simp [Module.cfg]
@[simp] theorem advanceTo_rd (m : Module) (t o : Nat) : (m.advanceTo t).rd o = m.rd o := by simp [Module.rd]
@[simp] theorem advanceTo_cfg (m : Module) (t o : Nat) : (m.advanceTo t).cfg o = m.cfg o := by simp [Module.cfg]
@[simp] theorem coverAfter_recs (m : Module) : (coverAfter m).recs = m.recs := by simp [Module.recs]
@[simp] theorem ashPost_recs (m : Module) (c : Nat) (k : AshClass) (d : List Byte) (b : Option Nat) :
    (ashPost m c k d b).recs = m.recs := by simp [Module.recs]
@[simp] theorem ashPost_cfg (m : Module) (c : Nat) (k : AshClass) (d : List Byte) (b : Option Nat) (o : Nat) :
    (ashPost m c k d b).cfg o = m.cfg o := by simp [Module.cfg]
@[simp] theorem ashLatch_mt (m : Module) (k f : Nat) : (ashLatch m k f).mt = m.mt := by simp [Module.mt]
@[simp] theorem ashLatch_recs (m : Module) (k f : Nat) : (ashLatch m k f).recs = m.recs := by simp [Module.recs]
@[simp] theorem ashLatch_cfg (m : Module) (k f o : Nat) : (ashLatch m k f).cfg o = m.cfg o := by simp [Module.cfg]
@[simp] theorem missAll_mt (m : Module) (as : List Nat) : (missAll m as).mt = m.mt := by simp [Module.mt]
@[simp] theorem missAll_recs (m : Module) (as : List Nat) : (missAll m as).recs = m.recs := by simp [Module.recs]
@[simp] theorem missAll_cfg (m : Module) (as : List Nat) (o : Nat) : (missAll m as).cfg o = m.cfg o := by simp [Module.cfg]
@[simp] theorem enterPhase_recs (m : Module) (k : Nat) : (m.enterPhase k).recs = m.recs := by simp [Module.recs]

end Sys2Proof.Laws
end

