-- ==== Sys2Proof/Laws/Update.lean ====
section
/-! SUPPORT. What an update of one item leaves: one lemma to a part of the module. -/

namespace Sys2Proof.Laws

open Sys2Proof.Machine

section updAxis
variable (m : Module) (n : Fin 15) (f : AxisSt → AxisSt)

@[simp] theorem updAxis_time : (m.updAxis n f).time = m.time := rfl
@[simp] theorem updAxis_regs : (m.updAxis n f).regs = m.regs := rfl
@[simp] theorem updAxis_core : (m.updAxis n f).core = m.core := rfl
@[simp] theorem updAxis_plic : (m.updAxis n f).plic = m.plic := rfl
@[simp] theorem updAxis_sess : (m.updAxis n f).sess = m.sess := rfl
@[simp] theorem updAxis_variant : (m.updAxis n f).variant = m.variant := rfl
@[simp] theorem updAxis_serial : (m.updAxis n f).serial = m.serial := rfl
@[simp] theorem updAxis_grate : (m.updAxis n f).grate = m.grate := rfl
@[simp] theorem updAxis_hob : (m.updAxis n f).hob = m.hob := rfl
@[simp] theorem updAxis_ingest : (m.updAxis n f).ingest = m.ingest := rfl
@[simp] theorem updAxis_learn : (m.updAxis n f).learn = m.learn := rfl
@[simp] theorem updAxis_vdrv : (m.updAxis n f).vdrv = m.vdrv := rfl
@[simp] theorem updAxis_cover : (m.updAxis n f).cover = m.cover := rfl
@[simp] theorem updAxis_loops : (m.updAxis n f).loops = m.loops := rfl
@[simp] theorem updAxis_gnss : (m.updAxis n f).gnss = m.gnss := rfl
@[simp] theorem updAxis_flue : (m.updAxis n f).flue = m.flue := rfl
@[simp] theorem updAxis_can : (m.updAxis n f).can = m.can := rfl
@[simp] theorem updAxis_lsw : (m.updAxis n f).lsw = m.lsw := rfl
@[simp] theorem updAxis_fio : (m.updAxis n f).fio = m.fio := rfl
@[simp] theorem updAxis_ash : (m.updAxis n f).ash = m.ash := rfl
@[simp] theorem updAxis_sec : (m.updAxis n f).sec = m.sec := rfl
@[simp] theorem updAxis_pwr : (m.updAxis n f).pwr = m.pwr := rfl
@[simp] theorem updAxis_out : (m.updAxis n f).out = m.out := rfl
@[simp] theorem updAxis_freeCtr : (m.updAxis n f).freeCtr = m.freeCtr := rfl
@[simp] theorem updAxis_rd (o : Nat) : (m.updAxis n f).rd o = m.rd o := rfl
@[simp] theorem updAxis_cfg (o : Nat) : (m.updAxis n f).cfg o = m.cfg o := rfl
@[simp] theorem updAxis_mt : (m.updAxis n f).mt = m.mt := rfl
@[simp] theorem updAxis_recs : (m.updAxis n f).recs = m.recs := rfl
end updAxis

section updCn
variable (m : Module) (n : Fin 4) (f : CnSt → CnSt)

@[simp] theorem updCn_time : (m.updCn n f).time = m.time := rfl
@[simp] theorem updCn_regs : (m.updCn n f).regs = m.regs := rfl
@[simp] theorem updCn_core : (m.updCn n f).core = m.core := rfl
@[simp] theorem updCn_plic : (m.updCn n f).plic = m.plic := rfl
@[simp] theorem updCn_sess : (m.updCn n f).sess = m.sess := rfl
@[simp] theorem updCn_variant : (m.updCn n f).variant = m.variant := rfl
@[simp] theorem updCn_serial : (m.updCn n f).serial = m.serial := rfl
@[simp] theorem updCn_grate : (m.updCn n f).grate = m.grate := rfl
@[simp] theorem updCn_axes : (m.updCn n f).axes = m.axes := rfl
@[simp] theorem updCn_hob : (m.updCn n f).hob = m.hob := rfl
@[simp] theorem updCn_ingest : (m.updCn n f).ingest = m.ingest := rfl
@[simp] theorem updCn_learn : (m.updCn n f).learn = m.learn := rfl
@[simp] theorem updCn_vdrv : (m.updCn n f).vdrv = m.vdrv := rfl
@[simp] theorem updCn_cover : (m.updCn n f).cover = m.cover := rfl
@[simp] theorem updCn_loops : (m.updCn n f).loops = m.loops := rfl
@[simp] theorem updCn_gnss : (m.updCn n f).gnss = m.gnss := rfl
@[simp] theorem updCn_flue : (m.updCn n f).flue = m.flue := rfl
@[simp] theorem updCn_lsw : (m.updCn n f).lsw = m.lsw := rfl
@[simp] theorem updCn_fio : (m.updCn n f).fio = m.fio := rfl
@[simp] theorem updCn_ash : (m.updCn n f).ash = m.ash := rfl
@[simp] theorem updCn_sec : (m.updCn n f).sec = m.sec := rfl
@[simp] theorem updCn_pwr : (m.updCn n f).pwr = m.pwr := rfl
@[simp] theorem updCn_out : (m.updCn n f).out = m.out := rfl
@[simp] theorem updCn_freeCtr : (m.updCn n f).freeCtr = m.freeCtr := rfl
@[simp] theorem updCn_rd (o : Nat) : (m.updCn n f).rd o = m.rd o := rfl
@[simp] theorem updCn_cfg (o : Nat) : (m.updCn n f).cfg o = m.cfg o := rfl
@[simp] theorem updCn_mt : (m.updCn n f).mt = m.mt := rfl
@[simp] theorem updCn_recs : (m.updCn n f).recs = m.recs := rfl
end updCn

section updObj
variable (m : Module) (n : Fin 4) (i : Fin 128) (f : ObjSt → ObjSt)

@[simp] theorem updObj_time : (m.updObj n i f).time = m.time := rfl
@[simp] theorem updObj_regs : (m.updObj n i f).regs = m.regs := rfl
@[simp] theorem updObj_core : (m.updObj n i f).core = m.core := rfl
@[simp] theorem updObj_plic : (m.updObj n i f).plic = m.plic := rfl
@[simp] theorem updObj_sess : (m.updObj n i f).sess = m.sess := rfl
@[simp] theorem updObj_variant : (m.updObj n i f).variant = m.variant := rfl
@[simp] theorem updObj_serial : (m.updObj n i f).serial = m.serial := rfl
@[simp] theorem updObj_grate : (m.updObj n i f).grate = m.grate := rfl
@[simp] theorem updObj_axes : (m.updObj n i f).axes = m.axes := rfl
@[simp] theorem updObj_hob : (m.updObj n i f).hob = m.hob := rfl
@[simp] theorem updObj_ingest : (m.updObj n i f).ingest = m.ingest := rfl
@[simp] theorem updObj_learn : (m.updObj n i f).learn = m.learn := rfl
@[simp] theorem updObj_vdrv : (m.updObj n i f).vdrv = m.vdrv := rfl
@[simp] theorem updObj_cover : (m.updObj n i f).cover = m.cover := rfl
@[simp] theorem updObj_loops : (m.updObj n i f).loops = m.loops := rfl
@[simp] theorem updObj_gnss : (m.updObj n i f).gnss = m.gnss := rfl
@[simp] theorem updObj_flue : (m.updObj n i f).flue = m.flue := rfl
@[simp] theorem updObj_lsw : (m.updObj n i f).lsw = m.lsw := rfl
@[simp] theorem updObj_fio : (m.updObj n i f).fio = m.fio := rfl
@[simp] theorem updObj_ash : (m.updObj n i f).ash = m.ash := rfl
@[simp] theorem updObj_sec : (m.updObj n i f).sec = m.sec := rfl
@[simp] theorem updObj_pwr : (m.updObj n i f).pwr = m.pwr := rfl
@[simp] theorem updObj_out : (m.updObj n i f).out = m.out := rfl
@[simp] theorem updObj_freeCtr : (m.updObj n i f).freeCtr = m.freeCtr := rfl
@[simp] theorem updObj_rd (o : Nat) : (m.updObj n i f).rd o = m.rd o := rfl
@[simp] theorem updObj_cfg (o : Nat) : (m.updObj n i f).cfg o = m.cfg o := rfl
@[simp] theorem updObj_mt : (m.updObj n i f).mt = m.mt := rfl
@[simp] theorem updObj_recs : (m.updObj n i f).recs = m.recs := rfl
end updObj

section updCover
variable (m : Module) (f : CoverSt → CoverSt)

@[simp] theorem updCover_time : (m.updCover f).time = m.time := rfl
@[simp] theorem updCover_regs : (m.updCover f).regs = m.regs := rfl
@[simp] theorem updCover_core : (m.updCover f).core = m.core := rfl
@[simp] theorem updCover_plic : (m.updCover f).plic = m.plic := rfl
@[simp] theorem updCover_sess : (m.updCover f).sess = m.sess := rfl
@[simp] theorem updCover_variant : (m.updCover f).variant = m.variant := rfl
@[simp] theorem updCover_serial : (m.updCover f).serial = m.serial := rfl
@[simp] theorem updCover_grate : (m.updCover f).grate = m.grate := rfl
@[simp] theorem updCover_axes : (m.updCover f).axes = m.axes := rfl
@[simp] theorem updCover_hob : (m.updCover f).hob = m.hob := rfl
@[simp] theorem updCover_ingest : (m.updCover f).ingest = m.ingest := rfl
@[simp] theorem updCover_learn : (m.updCover f).learn = m.learn := rfl
@[simp] theorem updCover_vdrv : (m.updCover f).vdrv = m.vdrv := rfl
@[simp] theorem updCover_loops : (m.updCover f).loops = m.loops := rfl
@[simp] theorem updCover_gnss : (m.updCover f).gnss = m.gnss := rfl
@[simp] theorem updCover_flue : (m.updCover f).flue = m.flue := rfl
@[simp] theorem updCover_can : (m.updCover f).can = m.can := rfl
@[simp] theorem updCover_lsw : (m.updCover f).lsw = m.lsw := rfl
@[simp] theorem updCover_fio : (m.updCover f).fio = m.fio := rfl
@[simp] theorem updCover_ash : (m.updCover f).ash = m.ash := rfl
@[simp] theorem updCover_sec : (m.updCover f).sec = m.sec := rfl
@[simp] theorem updCover_pwr : (m.updCover f).pwr = m.pwr := rfl
@[simp] theorem updCover_out : (m.updCover f).out = m.out := rfl
@[simp] theorem updCover_freeCtr : (m.updCover f).freeCtr = m.freeCtr := rfl
@[simp] theorem updCover_rd (o : Nat) : (m.updCover f).rd o = m.rd o := rfl
@[simp] theorem updCover_cfg (o : Nat) : (m.updCover f).cfg o = m.cfg o := rfl
@[simp] theorem updCover_mt : (m.updCover f).mt = m.mt := rfl
@[simp] theorem updCover_recs : (m.updCover f).recs = m.recs := rfl
end updCover

section updSect
variable (m : Module) (k : Nat) (f : SectSt → SectSt)

@[simp] theorem updSect_time : (m.updSect k f).time = m.time := rfl
@[simp] theorem updSect_regs : (m.updSect k f).regs = m.regs := rfl
@[simp] theorem updSect_core : (m.updSect k f).core = m.core := rfl
@[simp] theorem updSect_plic : (m.updSect k f).plic = m.plic := rfl
@[simp] theorem updSect_sess : (m.updSect k f).sess = m.sess := rfl
@[simp] theorem updSect_variant : (m.updSect k f).variant = m.variant := rfl
@[simp] theorem updSect_serial : (m.updSect k f).serial = m.serial := rfl
@[simp] theorem updSect_grate : (m.updSect k f).grate = m.grate := rfl
@[simp] theorem updSect_axes : (m.updSect k f).axes = m.axes := rfl
@[simp] theorem updSect_hob : (m.updSect k f).hob = m.hob := rfl
@[simp] theorem updSect_ingest : (m.updSect k f).ingest = m.ingest := rfl
@[simp] theorem updSect_learn : (m.updSect k f).learn = m.learn := rfl
@[simp] theorem updSect_vdrv : (m.updSect k f).vdrv = m.vdrv := rfl
@[simp] theorem updSect_loops : (m.updSect k f).loops = m.loops := rfl
@[simp] theorem updSect_gnss : (m.updSect k f).gnss = m.gnss := rfl
@[simp] theorem updSect_flue : (m.updSect k f).flue = m.flue := rfl
@[simp] theorem updSect_can : (m.updSect k f).can = m.can := rfl
@[simp] theorem updSect_lsw : (m.updSect k f).lsw = m.lsw := rfl
@[simp] theorem updSect_fio : (m.updSect k f).fio = m.fio := rfl
@[simp] theorem updSect_ash : (m.updSect k f).ash = m.ash := rfl
@[simp] theorem updSect_sec : (m.updSect k f).sec = m.sec := rfl
@[simp] theorem updSect_pwr : (m.updSect k f).pwr = m.pwr := rfl
@[simp] theorem updSect_out : (m.updSect k f).out = m.out := rfl
@[simp] theorem updSect_freeCtr : (m.updSect k f).freeCtr = m.freeCtr := rfl
@[simp] theorem updSect_rd (o : Nat) : (m.updSect k f).rd o = m.rd o := rfl
@[simp] theorem updSect_cfg (o : Nat) : (m.updSect k f).cfg o = m.cfg o := rfl
@[simp] theorem updSect_mt : (m.updSect k f).mt = m.mt := rfl
@[simp] theorem updSect_recs : (m.updSect k f).recs = m.recs := rfl
end updSect

section updTile
variable (m : Module) (k : TileKey) (f : Tile → Tile)

@[simp] theorem updTile_time : (m.updTile k f).time = m.time := rfl
@[simp] theorem updTile_regs : (m.updTile k f).regs = m.regs := rfl
@[simp] theorem updTile_core : (m.updTile k f).core = m.core := rfl
@[simp] theorem updTile_plic : (m.updTile k f).plic = m.plic := rfl
@[simp] theorem updTile_sess : (m.updTile k f).sess = m.sess := rfl
@[simp] theorem updTile_variant : (m.updTile k f).variant = m.variant := rfl
@[simp] theorem updTile_serial : (m.updTile k f).serial = m.serial := rfl
@[simp] theorem updTile_grate : (m.updTile k f).grate = m.grate := rfl
@[simp] theorem updTile_axes : (m.updTile k f).axes = m.axes := rfl
@[simp] theorem updTile_hob : (m.updTile k f).hob = m.hob := rfl
@[simp] theorem updTile_ingest : (m.updTile k f).ingest = m.ingest := rfl
@[simp] theorem updTile_learn : (m.updTile k f).learn = m.learn := rfl
@[simp] theorem updTile_vdrv : (m.updTile k f).vdrv = m.vdrv := rfl
@[simp] theorem updTile_loops : (m.updTile k f).loops = m.loops := rfl
@[simp] theorem updTile_gnss : (m.updTile k f).gnss = m.gnss := rfl
@[simp] theorem updTile_flue : (m.updTile k f).flue = m.flue := rfl
@[simp] theorem updTile_can : (m.updTile k f).can = m.can := rfl
@[simp] theorem updTile_lsw : (m.updTile k f).lsw = m.lsw := rfl
@[simp] theorem updTile_fio : (m.updTile k f).fio = m.fio := rfl
@[simp] theorem updTile_ash : (m.updTile k f).ash = m.ash := rfl
@[simp] theorem updTile_sec : (m.updTile k f).sec = m.sec := rfl
@[simp] theorem updTile_pwr : (m.updTile k f).pwr = m.pwr := rfl
@[simp] theorem updTile_out : (m.updTile k f).out = m.out := rfl
@[simp] theorem updTile_freeCtr : (m.updTile k f).freeCtr = m.freeCtr := rfl
@[simp] theorem updTile_rd (o : Nat) : (m.updTile k f).rd o = m.rd o := rfl
@[simp] theorem updTile_cfg (o : Nat) : (m.updTile k f).cfg o = m.cfg o := rfl
@[simp] theorem updTile_mt : (m.updTile k f).mt = m.mt := rfl
@[simp] theorem updTile_recs : (m.updTile k f).recs = m.recs := rfl
end updTile

section updVc
variable (m : Module) (k : Nat) (f : VcSt → VcSt)

@[simp] theorem updVc_time : (m.updVc k f).time = m.time := rfl
@[simp] theorem updVc_regs : (m.updVc k f).regs = m.regs := rfl
@[simp] theorem updVc_core : (m.updVc k f).core = m.core := rfl
@[simp] theorem updVc_plic : (m.updVc k f).plic = m.plic := rfl
@[simp] theorem updVc_sess : (m.updVc k f).sess = m.sess := rfl
@[simp] theorem updVc_variant : (m.updVc k f).variant = m.variant := rfl
@[simp] theorem updVc_serial : (m.updVc k f).serial = m.serial := rfl
@[simp] theorem updVc_grate : (m.updVc k f).grate = m.grate := rfl
@[simp] theorem updVc_axes : (m.updVc k f).axes = m.axes := rfl
@[simp] theorem updVc_hob : (m.updVc k f).hob = m.hob := rfl
@[simp] theorem updVc_ingest : (m.updVc k f).ingest = m.ingest := rfl
@[simp] theorem updVc_learn : (m.updVc k f).learn = m.learn := rfl
@[simp] theorem updVc_cover : (m.updVc k f).cover = m.cover := rfl
@[simp] theorem updVc_loops : (m.updVc k f).loops = m.loops := rfl
@[simp] theorem updVc_gnss : (m.updVc k f).gnss = m.gnss := rfl
@[simp] theorem updVc_flue : (m.updVc k f).flue = m.flue := rfl
@[simp] theorem updVc_can : (m.updVc k f).can = m.can := rfl
@[simp] theorem updVc_lsw : (m.updVc k f).lsw = m.lsw := rfl
@[simp] theorem updVc_fio : (m.updVc k f).fio = m.fio := rfl
@[simp] theorem updVc_ash : (m.updVc k f).ash = m.ash := rfl
@[simp] theorem updVc_sec : (m.updVc k f).sec = m.sec := rfl
@[simp] theorem updVc_pwr : (m.updVc k f).pwr = m.pwr := rfl
@[simp] theorem updVc_out : (m.updVc k f).out = m.out := rfl
@[simp] theorem updVc_freeCtr : (m.updVc k f).freeCtr = m.freeCtr := rfl
@[simp] theorem updVc_rd (o : Nat) : (m.updVc k f).rd o = m.rd o := rfl
@[simp] theorem updVc_cfg (o : Nat) : (m.updVc k f).cfg o = m.cfg o := rfl
@[simp] theorem updVc_mt : (m.updVc k f).mt = m.mt := rfl
@[simp] theorem updVc_recs : (m.updVc k f).recs = m.recs := rfl
end updVc

section updBank
variable (m : Module) (k : Nat) (f : BankSt → BankSt)

@[simp] theorem updBank_time : (m.updBank k f).time = m.time := rfl
@[simp] theorem updBank_regs : (m.updBank k f).regs = m.regs := rfl
@[simp] theorem updBank_core : (m.updBank k f).core = m.core := rfl
@[simp] theorem updBank_plic : (m.updBank k f).plic = m.plic := rfl
@[simp] theorem updBank_sess : (m.updBank k f).sess = m.sess := rfl
@[simp] theorem updBank_variant : (m.updBank k f).variant = m.variant := rfl
@[simp] theorem updBank_serial : (m.updBank k f).serial = m.serial := rfl
@[simp] theorem updBank_grate : (m.updBank k f).grate = m.grate := rfl
@[simp] theorem updBank_axes : (m.updBank k f).axes = m.axes := rfl
@[simp] theorem updBank_hob : (m.updBank k f).hob = m.hob := rfl
@[simp] theorem updBank_ingest : (m.updBank k f).ingest = m.ingest := rfl
@[simp] theorem updBank_learn : (m.updBank k f).learn = m.learn := rfl
@[simp] theorem updBank_cover : (m.updBank k f).cover = m.cover := rfl
@[simp] theorem updBank_loops : (m.updBank k f).loops = m.loops := rfl
@[simp] theorem updBank_gnss : (m.updBank k f).gnss = m.gnss := rfl
@[simp] theorem updBank_flue : (m.updBank k f).flue = m.flue := rfl
@[simp] theorem updBank_can : (m.updBank k f).can = m.can := rfl
@[simp] theorem updBank_lsw : (m.updBank k f).lsw = m.lsw := rfl
@[simp] theorem updBank_fio : (m.updBank k f).fio = m.fio := rfl
@[simp] theorem updBank_ash : (m.updBank k f).ash = m.ash := rfl
@[simp] theorem updBank_sec : (m.updBank k f).sec = m.sec := rfl
@[simp] theorem updBank_pwr : (m.updBank k f).pwr = m.pwr := rfl
@[simp] theorem updBank_out : (m.updBank k f).out = m.out := rfl
@[simp] theorem updBank_freeCtr : (m.updBank k f).freeCtr = m.freeCtr := rfl
@[simp] theorem updBank_rd (o : Nat) : (m.updBank k f).rd o = m.rd o := rfl
@[simp] theorem updBank_cfg (o : Nat) : (m.updBank k f).cfg o = m.cfg o := rfl
@[simp] theorem updBank_mt : (m.updBank k f).mt = m.mt := rfl
@[simp] theorem updBank_recs : (m.updBank k f).recs = m.recs := rfl
end updBank

section updHalf
variable (m : Module) (k : Nat) (f : HalfSt → HalfSt)

@[simp] theorem updHalf_time : (m.updHalf k f).time = m.time := rfl
@[simp] theorem updHalf_regs : (m.updHalf k f).regs = m.regs := rfl
@[simp] theorem updHalf_core : (m.updHalf k f).core = m.core := rfl
@[simp] theorem updHalf_plic : (m.updHalf k f).plic = m.plic := rfl
@[simp] theorem updHalf_sess : (m.updHalf k f).sess = m.sess := rfl
@[simp] theorem updHalf_variant : (m.updHalf k f).variant = m.variant := rfl
@[simp] theorem updHalf_serial : (m.updHalf k f).serial = m.serial := rfl
@[simp] theorem updHalf_grate : (m.updHalf k f).grate = m.grate := rfl
@[simp] theorem updHalf_axes : (m.updHalf k f).axes = m.axes := rfl
@[simp] theorem updHalf_hob : (m.updHalf k f).hob = m.hob := rfl
@[simp] theorem updHalf_ingest : (m.updHalf k f).ingest = m.ingest := rfl
@[simp] theorem updHalf_learn : (m.updHalf k f).learn = m.learn := rfl
@[simp] theorem updHalf_cover : (m.updHalf k f).cover = m.cover := rfl
@[simp] theorem updHalf_loops : (m.updHalf k f).loops = m.loops := rfl
@[simp] theorem updHalf_gnss : (m.updHalf k f).gnss = m.gnss := rfl
@[simp] theorem updHalf_flue : (m.updHalf k f).flue = m.flue := rfl
@[simp] theorem updHalf_can : (m.updHalf k f).can = m.can := rfl
@[simp] theorem updHalf_lsw : (m.updHalf k f).lsw = m.lsw := rfl
@[simp] theorem updHalf_fio : (m.updHalf k f).fio = m.fio := rfl
@[simp] theorem updHalf_ash : (m.updHalf k f).ash = m.ash := rfl
@[simp] theorem updHalf_sec : (m.updHalf k f).sec = m.sec := rfl
@[simp] theorem updHalf_pwr : (m.updHalf k f).pwr = m.pwr := rfl
@[simp] theorem updHalf_out : (m.updHalf k f).out = m.out := rfl
@[simp] theorem updHalf_freeCtr : (m.updHalf k f).freeCtr = m.freeCtr := rfl
@[simp] theorem updHalf_rd (o : Nat) : (m.updHalf k f).rd o = m.rd o := rfl
@[simp] theorem updHalf_cfg (o : Nat) : (m.updHalf k f).cfg o = m.cfg o := rfl
@[simp] theorem updHalf_mt : (m.updHalf k f).mt = m.mt := rfl
@[simp] theorem updHalf_recs : (m.updHalf k f).recs = m.recs := rfl
end updHalf

section updLearn
variable (m : Module) (k : Nat) (f : LearnCh → LearnCh)

@[simp] theorem updLearn_time : (m.updLearn k f).time = m.time := rfl
@[simp] theorem updLearn_regs : (m.updLearn k f).regs = m.regs := rfl
@[simp] theorem updLearn_core : (m.updLearn k f).core = m.core := rfl
@[simp] theorem updLearn_plic : (m.updLearn k f).plic = m.plic := rfl
@[simp] theorem updLearn_sess : (m.updLearn k f).sess = m.sess := rfl
@[simp] theorem updLearn_variant : (m.updLearn k f).variant = m.variant := rfl
@[simp] theorem updLearn_serial : (m.updLearn k f).serial = m.serial := rfl
@[simp] theorem updLearn_grate : (m.updLearn k f).grate = m.grate := rfl
@[simp] theorem updLearn_axes : (m.updLearn k f).axes = m.axes := rfl
@[simp] theorem updLearn_hob : (m.updLearn k f).hob = m.hob := rfl
@[simp] theorem updLearn_ingest : (m.updLearn k f).ingest = m.ingest := rfl
@[simp] theorem updLearn_vdrv : (m.updLearn k f).vdrv = m.vdrv := rfl
@[simp] theorem updLearn_cover : (m.updLearn k f).cover = m.cover := rfl
@[simp] theorem updLearn_loops : (m.updLearn k f).loops = m.loops := rfl
@[simp] theorem updLearn_gnss : (m.updLearn k f).gnss = m.gnss := rfl
@[simp] theorem updLearn_flue : (m.updLearn k f).flue = m.flue := rfl
@[simp] theorem updLearn_can : (m.updLearn k f).can = m.can := rfl
@[simp] theorem updLearn_lsw : (m.updLearn k f).lsw = m.lsw := rfl
@[simp] theorem updLearn_fio : (m.updLearn k f).fio = m.fio := rfl
@[simp] theorem updLearn_ash : (m.updLearn k f).ash = m.ash := rfl
@[simp] theorem updLearn_sec : (m.updLearn k f).sec = m.sec := rfl
@[simp] theorem updLearn_pwr : (m.updLearn k f).pwr = m.pwr := rfl
@[simp] theorem updLearn_out : (m.updLearn k f).out = m.out := rfl
@[simp] theorem updLearn_freeCtr : (m.updLearn k f).freeCtr = m.freeCtr := rfl
@[simp] theorem updLearn_rd (o : Nat) : (m.updLearn k f).rd o = m.rd o := rfl
@[simp] theorem updLearn_cfg (o : Nat) : (m.updLearn k f).cfg o = m.cfg o := rfl
@[simp] theorem updLearn_mt : (m.updLearn k f).mt = m.mt := rfl
@[simp] theorem updLearn_recs : (m.updLearn k f).recs = m.recs := rfl
end updLearn

section updFio
variable (m : Module) (f : FioSt → FioSt)

@[simp] theorem updFio_time : (m.updFio f).time = m.time := rfl
@[simp] theorem updFio_regs : (m.updFio f).regs = m.regs := rfl
@[simp] theorem updFio_core : (m.updFio f).core = m.core := rfl
@[simp] theorem updFio_plic : (m.updFio f).plic = m.plic := rfl
@[simp] theorem updFio_sess : (m.updFio f).sess = m.sess := rfl
@[simp] theorem updFio_variant : (m.updFio f).variant = m.variant := rfl
@[simp] theorem updFio_serial : (m.updFio f).serial = m.serial := rfl
@[simp] theorem updFio_grate : (m.updFio f).grate = m.grate := rfl
@[simp] theorem updFio_axes : (m.updFio f).axes = m.axes := rfl
@[simp] theorem updFio_hob : (m.updFio f).hob = m.hob := rfl
@[simp] theorem updFio_ingest : (m.updFio f).ingest = m.ingest := rfl
@[simp] theorem updFio_learn : (m.updFio f).learn = m.learn := rfl
@[simp] theorem updFio_vdrv : (m.updFio f).vdrv = m.vdrv := rfl
@[simp] theorem updFio_cover : (m.updFio f).cover = m.cover := rfl
@[simp] theorem updFio_loops : (m.updFio f).loops = m.loops := rfl
@[simp] theorem updFio_gnss : (m.updFio f).gnss = m.gnss := rfl
@[simp] theorem updFio_flue : (m.updFio f).flue = m.flue := rfl
@[simp] theorem updFio_can : (m.updFio f).can = m.can := rfl
@[simp] theorem updFio_lsw : (m.updFio f).lsw = m.lsw := rfl
@[simp] theorem updFio_ash : (m.updFio f).ash = m.ash := rfl
@[simp] theorem updFio_sec : (m.updFio f).sec = m.sec := rfl
@[simp] theorem updFio_pwr : (m.updFio f).pwr = m.pwr := rfl
@[simp] theorem updFio_out : (m.updFio f).out = m.out := rfl
@[simp] theorem updFio_freeCtr : (m.updFio f).freeCtr = m.freeCtr := rfl
@[simp] theorem updFio_rd (o : Nat) : (m.updFio f).rd o = m.rd o := rfl
@[simp] theorem updFio_cfg (o : Nat) : (m.updFio f).cfg o = m.cfg o := rfl
@[simp] theorem updFio_mt : (m.updFio f).mt = m.mt := rfl
@[simp] theorem updFio_recs : (m.updFio f).recs = m.recs := rfl
end updFio

section updFi
variable (m : Module) (k : Nat) (f : FiSt → FiSt)

@[simp] theorem updFi_time : (m.updFi k f).time = m.time := rfl
@[simp] theorem updFi_regs : (m.updFi k f).regs = m.regs := rfl
@[simp] theorem updFi_core : (m.updFi k f).core = m.core := rfl
@[simp] theorem updFi_plic : (m.updFi k f).plic = m.plic := rfl
@[simp] theorem updFi_sess : (m.updFi k f).sess = m.sess := rfl
@[simp] theorem updFi_variant : (m.updFi k f).variant = m.variant := rfl
@[simp] theorem updFi_serial : (m.updFi k f).serial = m.serial := rfl
@[simp] theorem updFi_grate : (m.updFi k f).grate = m.grate := rfl
@[simp] theorem updFi_axes : (m.updFi k f).axes = m.axes := rfl
@[simp] theorem updFi_hob : (m.updFi k f).hob = m.hob := rfl
@[simp] theorem updFi_ingest : (m.updFi k f).ingest = m.ingest := rfl
@[simp] theorem updFi_learn : (m.updFi k f).learn = m.learn := rfl
@[simp] theorem updFi_vdrv : (m.updFi k f).vdrv = m.vdrv := rfl
@[simp] theorem updFi_cover : (m.updFi k f).cover = m.cover := rfl
@[simp] theorem updFi_loops : (m.updFi k f).loops = m.loops := rfl
@[simp] theorem updFi_gnss : (m.updFi k f).gnss = m.gnss := rfl
@[simp] theorem updFi_flue : (m.updFi k f).flue = m.flue := rfl
@[simp] theorem updFi_can : (m.updFi k f).can = m.can := rfl
@[simp] theorem updFi_lsw : (m.updFi k f).lsw = m.lsw := rfl
@[simp] theorem updFi_ash : (m.updFi k f).ash = m.ash := rfl
@[simp] theorem updFi_sec : (m.updFi k f).sec = m.sec := rfl
@[simp] theorem updFi_pwr : (m.updFi k f).pwr = m.pwr := rfl
@[simp] theorem updFi_out : (m.updFi k f).out = m.out := rfl
@[simp] theorem updFi_freeCtr : (m.updFi k f).freeCtr = m.freeCtr := rfl
@[simp] theorem updFi_rd (o : Nat) : (m.updFi k f).rd o = m.rd o := rfl
@[simp] theorem updFi_cfg (o : Nat) : (m.updFi k f).cfg o = m.cfg o := rfl
@[simp] theorem updFi_mt : (m.updFi k f).mt = m.mt := rfl
@[simp] theorem updFi_recs : (m.updFi k f).recs = m.recs := rfl
end updFi

section updAi
variable (m : Module) (k : Nat) (f : AiSt → AiSt)

@[simp] theorem updAi_time : (m.updAi k f).time = m.time := rfl
@[simp] theorem updAi_regs : (m.updAi k f).regs = m.regs := rfl
@[simp] theorem updAi_core : (m.updAi k f).core = m.core := rfl
@[simp] theorem updAi_plic : (m.updAi k f).plic = m.plic := rfl
@[simp] theorem updAi_sess : (m.updAi k f).sess = m.sess := rfl
@[simp] theorem updAi_variant : (m.updAi k f).variant = m.variant := rfl
@[simp] theorem updAi_serial : (m.updAi k f).serial = m.serial := rfl
@[simp] theorem updAi_grate : (m.updAi k f).grate = m.grate := rfl
@[simp] theorem updAi_axes : (m.updAi k f).axes = m.axes := rfl
@[simp] theorem updAi_hob : (m.updAi k f).hob = m.hob := rfl
@[simp] theorem updAi_ingest : (m.updAi k f).ingest = m.ingest := rfl
@[simp] theorem updAi_learn : (m.updAi k f).learn = m.learn := rfl
@[simp] theorem updAi_vdrv : (m.updAi k f).vdrv = m.vdrv := rfl
@[simp] theorem updAi_cover : (m.updAi k f).cover = m.cover := rfl
@[simp] theorem updAi_loops : (m.updAi k f).loops = m.loops := rfl
@[simp] theorem updAi_gnss : (m.updAi k f).gnss = m.gnss := rfl
@[simp] theorem updAi_flue : (m.updAi k f).flue = m.flue := rfl
@[simp] theorem updAi_can : (m.updAi k f).can = m.can := rfl
@[simp] theorem updAi_lsw : (m.updAi k f).lsw = m.lsw := rfl
@[simp] theorem updAi_ash : (m.updAi k f).ash = m.ash := rfl
@[simp] theorem updAi_sec : (m.updAi k f).sec = m.sec := rfl
@[simp] theorem updAi_pwr : (m.updAi k f).pwr = m.pwr := rfl
@[simp] theorem updAi_out : (m.updAi k f).out = m.out := rfl
@[simp] theorem updAi_freeCtr : (m.updAi k f).freeCtr = m.freeCtr := rfl
@[simp] theorem updAi_rd (o : Nat) : (m.updAi k f).rd o = m.rd o := rfl
@[simp] theorem updAi_cfg (o : Nat) : (m.updAi k f).cfg o = m.cfg o := rfl
@[simp] theorem updAi_mt : (m.updAi k f).mt = m.mt := rfl
@[simp] theorem updAi_recs : (m.updAi k f).recs = m.recs := rfl
end updAi

section updFo
variable (m : Module) (k : Nat) (f : FoSt → FoSt)

@[simp] theorem updFo_time : (m.updFo k f).time = m.time := rfl
@[simp] theorem updFo_regs : (m.updFo k f).regs = m.regs := rfl
@[simp] theorem updFo_core : (m.updFo k f).core = m.core := rfl
@[simp] theorem updFo_plic : (m.updFo k f).plic = m.plic := rfl
@[simp] theorem updFo_sess : (m.updFo k f).sess = m.sess := rfl
@[simp] theorem updFo_variant : (m.updFo k f).variant = m.variant := rfl
@[simp] theorem updFo_serial : (m.updFo k f).serial = m.serial := rfl
@[simp] theorem updFo_grate : (m.updFo k f).grate = m.grate := rfl
@[simp] theorem updFo_axes : (m.updFo k f).axes = m.axes := rfl
@[simp] theorem updFo_hob : (m.updFo k f).hob = m.hob := rfl
@[simp] theorem updFo_ingest : (m.updFo k f).ingest = m.ingest := rfl
@[simp] theorem updFo_learn : (m.updFo k f).learn = m.learn := rfl
@[simp] theorem updFo_vdrv : (m.updFo k f).vdrv = m.vdrv := rfl
@[simp] theorem updFo_cover : (m.updFo k f).cover = m.cover := rfl
@[simp] theorem updFo_loops : (m.updFo k f).loops = m.loops := rfl
@[simp] theorem updFo_gnss : (m.updFo k f).gnss = m.gnss := rfl
@[simp] theorem updFo_flue : (m.updFo k f).flue = m.flue := rfl
@[simp] theorem updFo_can : (m.updFo k f).can = m.can := rfl
@[simp] theorem updFo_lsw : (m.updFo k f).lsw = m.lsw := rfl
@[simp] theorem updFo_ash : (m.updFo k f).ash = m.ash := rfl
@[simp] theorem updFo_sec : (m.updFo k f).sec = m.sec := rfl
@[simp] theorem updFo_pwr : (m.updFo k f).pwr = m.pwr := rfl
@[simp] theorem updFo_out : (m.updFo k f).out = m.out := rfl
@[simp] theorem updFo_freeCtr : (m.updFo k f).freeCtr = m.freeCtr := rfl
@[simp] theorem updFo_rd (o : Nat) : (m.updFo k f).rd o = m.rd o := rfl
@[simp] theorem updFo_cfg (o : Nat) : (m.updFo k f).cfg o = m.cfg o := rfl
@[simp] theorem updFo_mt : (m.updFo k f).mt = m.mt := rfl
@[simp] theorem updFo_recs : (m.updFo k f).recs = m.recs := rfl
end updFo

section updLoop
variable (m : Module) (k : Nat) (f : LoopSt → LoopSt)

@[simp] theorem updLoop_time : (m.updLoop k f).time = m.time := rfl
@[simp] theorem updLoop_regs : (m.updLoop k f).regs = m.regs := rfl
@[simp] theorem updLoop_core : (m.updLoop k f).core = m.core := rfl
@[simp] theorem updLoop_plic : (m.updLoop k f).plic = m.plic := rfl
@[simp] theorem updLoop_sess : (m.updLoop k f).sess = m.sess := rfl
@[simp] theorem updLoop_variant : (m.updLoop k f).variant = m.variant := rfl
@[simp] theorem updLoop_serial : (m.updLoop k f).serial = m.serial := rfl
@[simp] theorem updLoop_grate : (m.updLoop k f).grate = m.grate := rfl
@[simp] theorem updLoop_axes : (m.updLoop k f).axes = m.axes := rfl
@[simp] theorem updLoop_hob : (m.updLoop k f).hob = m.hob := rfl
@[simp] theorem updLoop_ingest : (m.updLoop k f).ingest = m.ingest := rfl
@[simp] theorem updLoop_learn : (m.updLoop k f).learn = m.learn := rfl
@[simp] theorem updLoop_vdrv : (m.updLoop k f).vdrv = m.vdrv := rfl
@[simp] theorem updLoop_cover : (m.updLoop k f).cover = m.cover := rfl
@[simp] theorem updLoop_gnss : (m.updLoop k f).gnss = m.gnss := rfl
@[simp] theorem updLoop_flue : (m.updLoop k f).flue = m.flue := rfl
@[simp] theorem updLoop_can : (m.updLoop k f).can = m.can := rfl
@[simp] theorem updLoop_lsw : (m.updLoop k f).lsw = m.lsw := rfl
@[simp] theorem updLoop_fio : (m.updLoop k f).fio = m.fio := rfl
@[simp] theorem updLoop_ash : (m.updLoop k f).ash = m.ash := rfl
@[simp] theorem updLoop_sec : (m.updLoop k f).sec = m.sec := rfl
@[simp] theorem updLoop_pwr : (m.updLoop k f).pwr = m.pwr := rfl
@[simp] theorem updLoop_out : (m.updLoop k f).out = m.out := rfl
@[simp] theorem updLoop_freeCtr : (m.updLoop k f).freeCtr = m.freeCtr := rfl
@[simp] theorem updLoop_rd (o : Nat) : (m.updLoop k f).rd o = m.rd o := rfl
@[simp] theorem updLoop_cfg (o : Nat) : (m.updLoop k f).cfg o = m.cfg o := rfl
@[simp] theorem updLoop_mt : (m.updLoop k f).mt = m.mt := rfl
@[simp] theorem updLoop_recs : (m.updLoop k f).recs = m.recs := rfl
end updLoop

section updFlue
variable (m : Module) (f : FlueSt → FlueSt)

@[simp] theorem updFlue_time : (m.updFlue f).time = m.time := rfl
@[simp] theorem updFlue_regs : (m.updFlue f).regs = m.regs := rfl
@[simp] theorem updFlue_core : (m.updFlue f).core = m.core := rfl
@[simp] theorem updFlue_plic : (m.updFlue f).plic = m.plic := rfl
@[simp] theorem updFlue_sess : (m.updFlue f).sess = m.sess := rfl
@[simp] theorem updFlue_variant : (m.updFlue f).variant = m.variant := rfl
@[simp] theorem updFlue_serial : (m.updFlue f).serial = m.serial := rfl
@[simp] theorem updFlue_grate : (m.updFlue f).grate = m.grate := rfl
@[simp] theorem updFlue_axes : (m.updFlue f).axes = m.axes := rfl
@[simp] theorem updFlue_hob : (m.updFlue f).hob = m.hob := rfl
@[simp] theorem updFlue_ingest : (m.updFlue f).ingest = m.ingest := rfl
@[simp] theorem updFlue_learn : (m.updFlue f).learn = m.learn := rfl
@[simp] theorem updFlue_vdrv : (m.updFlue f).vdrv = m.vdrv := rfl
@[simp] theorem updFlue_cover : (m.updFlue f).cover = m.cover := rfl
@[simp] theorem updFlue_loops : (m.updFlue f).loops = m.loops := rfl
@[simp] theorem updFlue_gnss : (m.updFlue f).gnss = m.gnss := rfl
@[simp] theorem updFlue_can : (m.updFlue f).can = m.can := rfl
@[simp] theorem updFlue_lsw : (m.updFlue f).lsw = m.lsw := rfl
@[simp] theorem updFlue_fio : (m.updFlue f).fio = m.fio := rfl
@[simp] theorem updFlue_ash : (m.updFlue f).ash = m.ash := rfl
@[simp] theorem updFlue_sec : (m.updFlue f).sec = m.sec := rfl
@[simp] theorem updFlue_pwr : (m.updFlue f).pwr = m.pwr := rfl
@[simp] theorem updFlue_out : (m.updFlue f).out = m.out := rfl
@[simp] theorem updFlue_freeCtr : (m.updFlue f).freeCtr = m.freeCtr := rfl
@[simp] theorem updFlue_rd (o : Nat) : (m.updFlue f).rd o = m.rd o := rfl
@[simp] theorem updFlue_cfg (o : Nat) : (m.updFlue f).cfg o = m.cfg o := rfl
@[simp] theorem updFlue_mt : (m.updFlue f).mt = m.mt := rfl
@[simp] theorem updFlue_recs : (m.updFlue f).recs = m.recs := rfl
end updFlue

section updFPort
variable (m : Module) (q : Fin 2) (f : FPortSt → FPortSt)

@[simp] theorem updFPort_time : (m.updFPort q f).time = m.time := rfl
@[simp] theorem updFPort_regs : (m.updFPort q f).regs = m.regs := rfl
@[simp] theorem updFPort_core : (m.updFPort q f).core = m.core := rfl
@[simp] theorem updFPort_plic : (m.updFPort q f).plic = m.plic := rfl
@[simp] theorem updFPort_sess : (m.updFPort q f).sess = m.sess := rfl
@[simp] theorem updFPort_variant : (m.updFPort q f).variant = m.variant := rfl
@[simp] theorem updFPort_serial : (m.updFPort q f).serial = m.serial := rfl
@[simp] theorem updFPort_grate : (m.updFPort q f).grate = m.grate := rfl
@[simp] theorem updFPort_axes : (m.updFPort q f).axes = m.axes := rfl
@[simp] theorem updFPort_hob : (m.updFPort q f).hob = m.hob := rfl
@[simp] theorem updFPort_ingest : (m.updFPort q f).ingest = m.ingest := rfl
@[simp] theorem updFPort_learn : (m.updFPort q f).learn = m.learn := rfl
@[simp] theorem updFPort_vdrv : (m.updFPort q f).vdrv = m.vdrv := rfl
@[simp] theorem updFPort_cover : (m.updFPort q f).cover = m.cover := rfl
@[simp] theorem updFPort_loops : (m.updFPort q f).loops = m.loops := rfl
@[simp] theorem updFPort_gnss : (m.updFPort q f).gnss = m.gnss := rfl
@[simp] theorem updFPort_can : (m.updFPort q f).can = m.can := rfl
@[simp] theorem updFPort_lsw : (m.updFPort q f).lsw = m.lsw := rfl
@[simp] theorem updFPort_fio : (m.updFPort q f).fio = m.fio := rfl
@[simp] theorem updFPort_ash : (m.updFPort q f).ash = m.ash := rfl
@[simp] theorem updFPort_sec : (m.updFPort q f).sec = m.sec := rfl
@[simp] theorem updFPort_pwr : (m.updFPort q f).pwr = m.pwr := rfl
@[simp] theorem updFPort_out : (m.updFPort q f).out = m.out := rfl
@[simp] theorem updFPort_freeCtr : (m.updFPort q f).freeCtr = m.freeCtr := rfl
@[simp] theorem updFPort_rd (o : Nat) : (m.updFPort q f).rd o = m.rd o := rfl
@[simp] theorem updFPort_cfg (o : Nat) : (m.updFPort q f).cfg o = m.cfg o := rfl
@[simp] theorem updFPort_mt : (m.updFPort q f).mt = m.mt := rfl
@[simp] theorem updFPort_recs : (m.updFPort q f).recs = m.recs := rfl
end updFPort

section updGnss
variable (m : Module) (f : GnssSt → GnssSt)

@[simp] theorem updGnss_time : (m.updGnss f).time = m.time := rfl
@[simp] theorem updGnss_regs : (m.updGnss f).regs = m.regs := rfl
@[simp] theorem updGnss_core : (m.updGnss f).core = m.core := rfl
@[simp] theorem updGnss_plic : (m.updGnss f).plic = m.plic := rfl
@[simp] theorem updGnss_sess : (m.updGnss f).sess = m.sess := rfl
@[simp] theorem updGnss_variant : (m.updGnss f).variant = m.variant := rfl
@[simp] theorem updGnss_serial : (m.updGnss f).serial = m.serial := rfl
@[simp] theorem updGnss_grate : (m.updGnss f).grate = m.grate := rfl
@[simp] theorem updGnss_axes : (m.updGnss f).axes = m.axes := rfl
@[simp] theorem updGnss_hob : (m.updGnss f).hob = m.hob := rfl
@[simp] theorem updGnss_ingest : (m.updGnss f).ingest = m.ingest := rfl
@[simp] theorem updGnss_learn : (m.updGnss f).learn = m.learn := rfl
@[simp] theorem updGnss_vdrv : (m.updGnss f).vdrv = m.vdrv := rfl
@[simp] theorem updGnss_cover : (m.updGnss f).cover = m.cover := rfl
@[simp] theorem updGnss_loops : (m.updGnss f).loops = m.loops := rfl
@[simp] theorem updGnss_flue : (m.updGnss f).flue = m.flue := rfl
@[simp] theorem updGnss_can : (m.updGnss f).can = m.can := rfl
@[simp] theorem updGnss_lsw : (m.updGnss f).lsw = m.lsw := rfl
@[simp] theorem updGnss_fio : (m.updGnss f).fio = m.fio := rfl
@[simp] theorem updGnss_ash : (m.updGnss f).ash = m.ash := rfl
@[simp] theorem updGnss_sec : (m.updGnss f).sec = m.sec := rfl
@[simp] theorem updGnss_pwr : (m.updGnss f).pwr = m.pwr := rfl
@[simp] theorem updGnss_out : (m.updGnss f).out = m.out := rfl
@[simp] theorem updGnss_freeCtr : (m.updGnss f).freeCtr = m.freeCtr := rfl
@[simp] theorem updGnss_rd (o : Nat) : (m.updGnss f).rd o = m.rd o := rfl
@[simp] theorem updGnss_cfg (o : Nat) : (m.updGnss f).cfg o = m.cfg o := rfl
@[simp] theorem updGnss_mt : (m.updGnss f).mt = m.mt := rfl
@[simp] theorem updGnss_recs : (m.updGnss f).recs = m.recs := rfl
end updGnss

section updGc
variable (m : Module) (c : Fin 96) (f : GcSt → GcSt)

@[simp] theorem updGc_time : (m.updGc c f).time = m.time := rfl
@[simp] theorem updGc_regs : (m.updGc c f).regs = m.regs := rfl
@[simp] theorem updGc_core : (m.updGc c f).core = m.core := rfl
@[simp] theorem updGc_plic : (m.updGc c f).plic = m.plic := rfl
@[simp] theorem updGc_sess : (m.updGc c f).sess = m.sess := rfl
@[simp] theorem updGc_variant : (m.updGc c f).variant = m.variant := rfl
@[simp] theorem updGc_serial : (m.updGc c f).serial = m.serial := rfl
@[simp] theorem updGc_grate : (m.updGc c f).grate = m.grate := rfl
@[simp] theorem updGc_axes : (m.updGc c f).axes = m.axes := rfl
@[simp] theorem updGc_hob : (m.updGc c f).hob = m.hob := rfl
@[simp] theorem updGc_ingest : (m.updGc c f).ingest = m.ingest := rfl
@[simp] theorem updGc_learn : (m.updGc c f).learn = m.learn := rfl
@[simp] theorem updGc_vdrv : (m.updGc c f).vdrv = m.vdrv := rfl
@[simp] theorem updGc_cover : (m.updGc c f).cover = m.cover := rfl
@[simp] theorem updGc_loops : (m.updGc c f).loops = m.loops := rfl
@[simp] theorem updGc_flue : (m.updGc c f).flue = m.flue := rfl
@[simp] theorem updGc_can : (m.updGc c f).can = m.can := rfl
@[simp] theorem updGc_lsw : (m.updGc c f).lsw = m.lsw := rfl
@[simp] theorem updGc_fio : (m.updGc c f).fio = m.fio := rfl
@[simp] theorem updGc_ash : (m.updGc c f).ash = m.ash := rfl
@[simp] theorem updGc_sec : (m.updGc c f).sec = m.sec := rfl
@[simp] theorem updGc_pwr : (m.updGc c f).pwr = m.pwr := rfl
@[simp] theorem updGc_out : (m.updGc c f).out = m.out := rfl
@[simp] theorem updGc_freeCtr : (m.updGc c f).freeCtr = m.freeCtr := rfl
@[simp] theorem updGc_rd (o : Nat) : (m.updGc c f).rd o = m.rd o := rfl
@[simp] theorem updGc_cfg (o : Nat) : (m.updGc c f).cfg o = m.cfg o := rfl
@[simp] theorem updGc_mt : (m.updGc c f).mt = m.mt := rfl
@[simp] theorem updGc_recs : (m.updGc c f).recs = m.recs := rfl
end updGc

section updSec
variable (m : Module) (f : SecSt → SecSt)

@[simp] theorem updSec_time : (m.updSec f).time = m.time := rfl
@[simp] theorem updSec_regs : (m.updSec f).regs = m.regs := rfl
@[simp] theorem updSec_core : (m.updSec f).core = m.core := rfl
@[simp] theorem updSec_plic : (m.updSec f).plic = m.plic := rfl
@[simp] theorem updSec_sess : (m.updSec f).sess = m.sess := rfl
@[simp] theorem updSec_variant : (m.updSec f).variant = m.variant := rfl
@[simp] theorem updSec_serial : (m.updSec f).serial = m.serial := rfl
@[simp] theorem updSec_grate : (m.updSec f).grate = m.grate := rfl
@[simp] theorem updSec_axes : (m.updSec f).axes = m.axes := rfl
@[simp] theorem updSec_hob : (m.updSec f).hob = m.hob := rfl
@[simp] theorem updSec_ingest : (m.updSec f).ingest = m.ingest := rfl
@[simp] theorem updSec_learn : (m.updSec f).learn = m.learn := rfl
@[simp] theorem updSec_vdrv : (m.updSec f).vdrv = m.vdrv := rfl
@[simp] theorem updSec_cover : (m.updSec f).cover = m.cover := rfl
@[simp] theorem updSec_loops : (m.updSec f).loops = m.loops := rfl
@[simp] theorem updSec_gnss : (m.updSec f).gnss = m.gnss := rfl
@[simp] theorem updSec_flue : (m.updSec f).flue = m.flue := rfl
@[simp] theorem updSec_can : (m.updSec f).can = m.can := rfl
@[simp] theorem updSec_lsw : (m.updSec f).lsw = m.lsw := rfl
@[simp] theorem updSec_fio : (m.updSec f).fio = m.fio := rfl
@[simp] theorem updSec_ash : (m.updSec f).ash = m.ash := rfl
@[simp] theorem updSec_pwr : (m.updSec f).pwr = m.pwr := rfl
@[simp] theorem updSec_out : (m.updSec f).out = m.out := rfl
@[simp] theorem updSec_freeCtr : (m.updSec f).freeCtr = m.freeCtr := rfl
@[simp] theorem updSec_rd (o : Nat) : (m.updSec f).rd o = m.rd o := rfl
@[simp] theorem updSec_cfg (o : Nat) : (m.updSec f).cfg o = m.cfg o := rfl
@[simp] theorem updSec_mt : (m.updSec f).mt = m.mt := rfl
@[simp] theorem updSec_recs : (m.updSec f).recs = m.recs := rfl
end updSec

section updGrate
variable (m : Module) (f : GrateSt → GrateSt)

@[simp] theorem updGrate_time : (m.updGrate f).time = m.time := rfl
@[simp] theorem updGrate_regs : (m.updGrate f).regs = m.regs := rfl
@[simp] theorem updGrate_core : (m.updGrate f).core = m.core := rfl
@[simp] theorem updGrate_plic : (m.updGrate f).plic = m.plic := rfl
@[simp] theorem updGrate_sess : (m.updGrate f).sess = m.sess := rfl
@[simp] theorem updGrate_variant : (m.updGrate f).variant = m.variant := rfl
@[simp] theorem updGrate_serial : (m.updGrate f).serial = m.serial := rfl
@[simp] theorem updGrate_axes : (m.updGrate f).axes = m.axes := rfl
@[simp] theorem updGrate_hob : (m.updGrate f).hob = m.hob := rfl
@[simp] theorem updGrate_ingest : (m.updGrate f).ingest = m.ingest := rfl
@[simp] theorem updGrate_learn : (m.updGrate f).learn = m.learn := rfl
@[simp] theorem updGrate_vdrv : (m.updGrate f).vdrv = m.vdrv := rfl
@[simp] theorem updGrate_cover : (m.updGrate f).cover = m.cover := rfl
@[simp] theorem updGrate_loops : (m.updGrate f).loops = m.loops := rfl
@[simp] theorem updGrate_gnss : (m.updGrate f).gnss = m.gnss := rfl
@[simp] theorem updGrate_flue : (m.updGrate f).flue = m.flue := rfl
@[simp] theorem updGrate_can : (m.updGrate f).can = m.can := rfl
@[simp] theorem updGrate_lsw : (m.updGrate f).lsw = m.lsw := rfl
@[simp] theorem updGrate_fio : (m.updGrate f).fio = m.fio := rfl
@[simp] theorem updGrate_ash : (m.updGrate f).ash = m.ash := rfl
@[simp] theorem updGrate_sec : (m.updGrate f).sec = m.sec := rfl
@[simp] theorem updGrate_pwr : (m.updGrate f).pwr = m.pwr := rfl
@[simp] theorem updGrate_out : (m.updGrate f).out = m.out := rfl
@[simp] theorem updGrate_freeCtr : (m.updGrate f).freeCtr = m.freeCtr := rfl
@[simp] theorem updGrate_rd (o : Nat) : (m.updGrate f).rd o = m.rd o := rfl
@[simp] theorem updGrate_cfg (o : Nat) : (m.updGrate f).cfg o = m.cfg o := rfl
@[simp] theorem updGrate_mt : (m.updGrate f).mt = m.mt := rfl
end updGrate

section updPort
variable (m : Module) (p : Fin 4) (f : PortSt → PortSt)

@[simp] theorem updPort_time : (m.updPort p f).time = m.time := rfl
@[simp] theorem updPort_regs : (m.updPort p f).regs = m.regs := rfl
@[simp] theorem updPort_core : (m.updPort p f).core = m.core := rfl
@[simp] theorem updPort_plic : (m.updPort p f).plic = m.plic := rfl
@[simp] theorem updPort_sess : (m.updPort p f).sess = m.sess := rfl
@[simp] theorem updPort_variant : (m.updPort p f).variant = m.variant := rfl
@[simp] theorem updPort_serial : (m.updPort p f).serial = m.serial := rfl
@[simp] theorem updPort_grate : (m.updPort p f).grate = m.grate := rfl
@[simp] theorem updPort_axes : (m.updPort p f).axes = m.axes := rfl
@[simp] theorem updPort_hob : (m.updPort p f).hob = m.hob := rfl
@[simp] theorem updPort_learn : (m.updPort p f).learn = m.learn := rfl
@[simp] theorem updPort_vdrv : (m.updPort p f).vdrv = m.vdrv := rfl
@[simp] theorem updPort_cover : (m.updPort p f).cover = m.cover := rfl
@[simp] theorem updPort_loops : (m.updPort p f).loops = m.loops := rfl
@[simp] theorem updPort_gnss : (m.updPort p f).gnss = m.gnss := rfl
@[simp] theorem updPort_flue : (m.updPort p f).flue = m.flue := rfl
@[simp] theorem updPort_can : (m.updPort p f).can = m.can := rfl
@[simp] theorem updPort_lsw : (m.updPort p f).lsw = m.lsw := rfl
@[simp] theorem updPort_fio : (m.updPort p f).fio = m.fio := rfl
@[simp] theorem updPort_ash : (m.updPort p f).ash = m.ash := rfl
@[simp] theorem updPort_sec : (m.updPort p f).sec = m.sec := rfl
@[simp] theorem updPort_pwr : (m.updPort p f).pwr = m.pwr := rfl
@[simp] theorem updPort_out : (m.updPort p f).out = m.out := rfl
@[simp] theorem updPort_freeCtr : (m.updPort p f).freeCtr = m.freeCtr := rfl
@[simp] theorem updPort_rd (o : Nat) : (m.updPort p f).rd o = m.rd o := rfl
@[simp] theorem updPort_cfg (o : Nat) : (m.updPort p f).cfg o = m.cfg o := rfl
@[simp] theorem updPort_mt : (m.updPort p f).mt = m.mt := rfl
@[simp] theorem updPort_recs : (m.updPort p f).recs = m.recs := rfl
end updPort

section updRing
variable (m : Module) (n : Nat) (f : RingSt → RingSt)

@[simp] theorem updRing_time : (m.updRing n f).time = m.time := rfl
@[simp] theorem updRing_regs : (m.updRing n f).regs = m.regs := rfl
@[simp] theorem updRing_core : (m.updRing n f).core = m.core := rfl
@[simp] theorem updRing_plic : (m.updRing n f).plic = m.plic := rfl
@[simp] theorem updRing_sess : (m.updRing n f).sess = m.sess := rfl
@[simp] theorem updRing_variant : (m.updRing n f).variant = m.variant := rfl
@[simp] theorem updRing_serial : (m.updRing n f).serial = m.serial := rfl
@[simp] theorem updRing_grate : (m.updRing n f).grate = m.grate := rfl
@[simp] theorem updRing_axes : (m.updRing n f).axes = m.axes := rfl
@[simp] theorem updRing_hob : (m.updRing n f).hob = m.hob := rfl
@[simp] theorem updRing_learn : (m.updRing n f).learn = m.learn := rfl
@[simp] theorem updRing_vdrv : (m.updRing n f).vdrv = m.vdrv := rfl
@[simp] theorem updRing_cover : (m.updRing n f).cover = m.cover := rfl
@[simp] theorem updRing_loops : (m.updRing n f).loops = m.loops := rfl
@[simp] theorem updRing_gnss : (m.updRing n f).gnss = m.gnss := rfl
@[simp] theorem updRing_flue : (m.updRing n f).flue = m.flue := rfl
@[simp] theorem updRing_can : (m.updRing n f).can = m.can := rfl
@[simp] theorem updRing_lsw : (m.updRing n f).lsw = m.lsw := rfl
@[simp] theorem updRing_fio : (m.updRing n f).fio = m.fio := rfl
@[simp] theorem updRing_ash : (m.updRing n f).ash = m.ash := rfl
@[simp] theorem updRing_sec : (m.updRing n f).sec = m.sec := rfl
@[simp] theorem updRing_pwr : (m.updRing n f).pwr = m.pwr := rfl
@[simp] theorem updRing_out : (m.updRing n f).out = m.out := rfl
@[simp] theorem updRing_freeCtr : (m.updRing n f).freeCtr = m.freeCtr := rfl
@[simp] theorem updRing_rd (o : Nat) : (m.updRing n f).rd o = m.rd o := rfl
@[simp] theorem updRing_cfg (o : Nat) : (m.updRing n f).cfg o = m.cfg o := rfl
@[simp] theorem updRing_mt : (m.updRing n f).mt = m.mt := rfl
@[simp] theorem updRing_recs : (m.updRing n f).recs = m.recs := rfl
end updRing

section updLs
variable (m : Module) (n : Nat) (f : LsSt → LsSt)

@[simp] theorem updLs_time : (m.updLs n f).time = m.time := rfl
@[simp] theorem updLs_regs : (m.updLs n f).regs = m.regs := rfl
@[simp] theorem updLs_core : (m.updLs n f).core = m.core := rfl
@[simp] theorem updLs_plic : (m.updLs n f).plic = m.plic := rfl
@[simp] theorem updLs_sess : (m.updLs n f).sess = m.sess := rfl
@[simp] theorem updLs_variant : (m.updLs n f).variant = m.variant := rfl
@[simp] theorem updLs_serial : (m.updLs n f).serial = m.serial := rfl
@[simp] theorem updLs_grate : (m.updLs n f).grate = m.grate := rfl
@[simp] theorem updLs_axes : (m.updLs n f).axes = m.axes := rfl
@[simp] theorem updLs_hob : (m.updLs n f).hob = m.hob := rfl
@[simp] theorem updLs_ingest : (m.updLs n f).ingest = m.ingest := rfl
@[simp] theorem updLs_learn : (m.updLs n f).learn = m.learn := rfl
@[simp] theorem updLs_vdrv : (m.updLs n f).vdrv = m.vdrv := rfl
@[simp] theorem updLs_cover : (m.updLs n f).cover = m.cover := rfl
@[simp] theorem updLs_loops : (m.updLs n f).loops = m.loops := rfl
@[simp] theorem updLs_gnss : (m.updLs n f).gnss = m.gnss := rfl
@[simp] theorem updLs_flue : (m.updLs n f).flue = m.flue := rfl
@[simp] theorem updLs_can : (m.updLs n f).can = m.can := rfl
@[simp] theorem updLs_fio : (m.updLs n f).fio = m.fio := rfl
@[simp] theorem updLs_ash : (m.updLs n f).ash = m.ash := rfl
@[simp] theorem updLs_sec : (m.updLs n f).sec = m.sec := rfl
@[simp] theorem updLs_pwr : (m.updLs n f).pwr = m.pwr := rfl
@[simp] theorem updLs_out : (m.updLs n f).out = m.out := rfl
@[simp] theorem updLs_freeCtr : (m.updLs n f).freeCtr = m.freeCtr := rfl
@[simp] theorem updLs_rd (o : Nat) : (m.updLs n f).rd o = m.rd o := rfl
@[simp] theorem updLs_cfg (o : Nat) : (m.updLs n f).cfg o = m.cfg o := rfl
@[simp] theorem updLs_mt : (m.updLs n f).mt = m.mt := rfl
@[simp] theorem updLs_recs : (m.updLs n f).recs = m.recs := rfl
end updLs

section updPwr
variable (m : Module) (f : PwrSt → PwrSt)

@[simp] theorem updPwr_time : (m.updPwr f).time = m.time := rfl
@[simp] theorem updPwr_regs : (m.updPwr f).regs = m.regs := rfl
@[simp] theorem updPwr_core : (m.updPwr f).core = m.core := rfl
@[simp] theorem updPwr_plic : (m.updPwr f).plic = m.plic := rfl
@[simp] theorem updPwr_sess : (m.updPwr f).sess = m.sess := rfl
@[simp] theorem updPwr_variant : (m.updPwr f).variant = m.variant := rfl
@[simp] theorem updPwr_serial : (m.updPwr f).serial = m.serial := rfl
@[simp] theorem updPwr_grate : (m.updPwr f).grate = m.grate := rfl
@[simp] theorem updPwr_axes : (m.updPwr f).axes = m.axes := rfl
@[simp] theorem updPwr_hob : (m.updPwr f).hob = m.hob := rfl
@[simp] theorem updPwr_ingest : (m.updPwr f).ingest = m.ingest := rfl
@[simp] theorem updPwr_learn : (m.updPwr f).learn = m.learn := rfl
@[simp] theorem updPwr_vdrv : (m.updPwr f).vdrv = m.vdrv := rfl
@[simp] theorem updPwr_cover : (m.updPwr f).cover = m.cover := rfl
@[simp] theorem updPwr_loops : (m.updPwr f).loops = m.loops := rfl
@[simp] theorem updPwr_gnss : (m.updPwr f).gnss = m.gnss := rfl
@[simp] theorem updPwr_flue : (m.updPwr f).flue = m.flue := rfl
@[simp] theorem updPwr_can : (m.updPwr f).can = m.can := rfl
@[simp] theorem updPwr_lsw : (m.updPwr f).lsw = m.lsw := rfl
@[simp] theorem updPwr_fio : (m.updPwr f).fio = m.fio := rfl
@[simp] theorem updPwr_ash : (m.updPwr f).ash = m.ash := rfl
@[simp] theorem updPwr_sec : (m.updPwr f).sec = m.sec := rfl
@[simp] theorem updPwr_out : (m.updPwr f).out = m.out := rfl
@[simp] theorem updPwr_freeCtr : (m.updPwr f).freeCtr = m.freeCtr := rfl
@[simp] theorem updPwr_rd (o : Nat) : (m.updPwr f).rd o = m.rd o := rfl
@[simp] theorem updPwr_cfg (o : Nat) : (m.updPwr f).cfg o = m.cfg o := rfl
@[simp] theorem updPwr_mt : (m.updPwr f).mt = m.mt := rfl
@[simp] theorem updPwr_recs : (m.updPwr f).recs = m.recs := rfl
end updPwr

@[simp] theorem wr_cfg (m : Module) (o : Nat) (v : Word) (q : Nat) : (m.wr o v).cfg q = m.cfg q := rfl
@[simp] theorem wr_mt (m : Module) (o : Nat) (v : Word) : (m.wr o v).mt = m.mt := rfl
@[simp] theorem wr_recs (m : Module) (o : Nat) (v : Word) : (m.wr o v).recs = m.recs := rfl
@[simp] theorem orR_cfg (m : Module) (o : Nat) (v : Word) (q : Nat) : (m.orR o v).cfg q = m.cfg q := rfl
@[simp] theorem orR_mt (m : Module) (o : Nat) (v : Word) : (m.orR o v).mt = m.mt := rfl
@[simp] theorem orR_recs (m : Module) (o : Nat) (v : Word) : (m.orR o v).recs = m.recs := rfl
@[simp] theorem clrR_cfg (m : Module) (o : Nat) (v : Word) (q : Nat) : (m.clrR o v).cfg q = m.cfg q := rfl
@[simp] theorem clrR_mt (m : Module) (o : Nat) (v : Word) : (m.clrR o v).mt = m.mt := rfl
@[simp] theorem clrR_recs (m : Module) (o : Nat) (v : Word) : (m.clrR o v).recs = m.recs := rfl
@[simp] theorem raise_cfg (m : Module) (o i : Nat) (q : Nat) : (m.raise o i).cfg q = m.cfg q := rfl
@[simp] theorem raise_mt (m : Module) (o i : Nat) : (m.raise o i).mt = m.mt := rfl
@[simp] theorem raise_recs (m : Module) (o i : Nat) : (m.raise o i).recs = m.recs := rfl
@[simp] theorem setBit_cfg (m : Module) (o i : Nat) (b : Bool) (q : Nat) : (m.setBit o i b).cfg q = m.cfg q := by cases b <;> rfl
@[simp] theorem setBit_mt (m : Module) (o i : Nat) (b : Bool) : (m.setBit o i b).mt = m.mt := by cases b <;> rfl
@[simp] theorem setBit_recs (m : Module) (o i : Nat) (b : Bool) : (m.setBit o i b).recs = m.recs := by cases b <;> rfl
@[simp] theorem setF_cfg (m : Module) (o h l x : Nat) (q : Nat) : (m.setF o h l x).cfg q = m.cfg q := rfl
@[simp] theorem setF_mt (m : Module) (o h l x : Nat) : (m.setF o h l x).mt = m.mt := rfl
@[simp] theorem setF_recs (m : Module) (o h l x : Nat) : (m.setF o h l x).recs = m.recs := rfl
@[simp] theorem count_cfg (m : Module) (o : Nat) (q : Nat) : (m.count o).cfg q = m.cfg q := rfl
@[simp] theorem count_mt (m : Module) (o : Nat) : (m.count o).mt = m.mt := rfl
@[simp] theorem count_recs (m : Module) (o : Nat) : (m.count o).recs = m.recs := rfl
@[simp] theorem addSat_cfg (m : Module) (o h l n : Nat) (q : Nat) : (m.addSat o h l n).cfg q = m.cfg q := rfl
@[simp] theorem addSat_mt (m : Module) (o h l n : Nat) : (m.addSat o h l n).mt = m.mt := rfl
@[simp] theorem addSat_recs (m : Module) (o h l n : Nat) : (m.addSat o h l n).recs = m.recs := rfl
@[simp] theorem send_cfg (m : Module) (d : OutDst) (b : List Byte) (q : Nat) : (m.send d b).cfg q = m.cfg q := rfl
@[simp] theorem send_mt (m : Module) (d : OutDst) (b : List Byte) : (m.send d b).mt = m.mt := rfl
@[simp] theorem send_recs (m : Module) (d : OutDst) (b : List Byte) : (m.send d b).recs = m.recs := rfl
@[simp] theorem freed_cfg (m : Module)  (q : Nat) : (m.freed ).cfg q = m.cfg q := rfl
@[simp] theorem freed_mt (m : Module)  : (m.freed ).mt = m.mt := rfl
@[simp] theorem freed_recs (m : Module)  : (m.freed ).recs = m.recs := rfl
@[simp] theorem advanceTo_recs (m : Module) (t : Nat) : (m.advanceTo t).recs = m.recs := by simp [Module.recs]
theorem advanceTo_mt (m : Module) (t : Nat) (h : t < 2 ^ 64) : (m.advanceTo t).mt = max m.mt t := by
  unfold Module.advanceTo
  split
  · have : t % 2 ^ 64 = t := Nat.mod_eq_of_lt h
    simp only [Module.mt, BitVec.toNat_ofNat] at *
    omega
  · omega

end Sys2Proof.Laws
end

