-- ==== Sys2Proof/WellFormed.lean ====
section
/-! DEFINITION. Well-formed commands: operands that the interface each arrives by can carry. A command that is not well formed is one that
no host, bus or pin can present; the machine is defined on it all the same. -/

namespace Sys2Proof

/-- A bus access: a 32-bit address, a size of 1, 2, 4 or 8 bytes (R53). -/
def busOk (addr size : Nat) : Bool := decide (addr < 2 ^ 32) && (size == 1 || size == 2 || size == 4 || size == 8)

/-- An offset of 25 bits (R65). -/
def ecallOk : EcallReq → Bool
  | .read off _ | .write off _ _ | .modify off _ _ _ => decide (off < 2 ^ 25)
  | .plicPriority _ _ | .signal _ => true

/-- The fields of a request header fit it (R65). -/
def reqOk (r : SessReq) : Bool :=
  decide (r.op < 256 ∧ r.flagsRes < 128 ∧ r.count < 65536 ∧ r.seq < 2 ^ 32 ∧ r.offset < 2 ^ 32 ∧ r.res < 2 ^ 32)

/-- The addresses and ports of a datagram fit their fields (R141). -/
def ipOk (i : IpInfo) : Bool := decide (i.src < 2 ^ 128 ∧ i.dst < 2 ^ 128 ∧ i.srcPort < 65536 ∧ i.dstPort < 65536)

/-- An Ethernet frame's header fits its fields, and its payload a jumbo frame (R142). -/
def frameOk (f : EthFrame) : Bool :=
  decide (f.dstMac < 2 ^ 48 ∧ f.srcMac < 2 ^ 48 ∧ f.ethertype < 65536 ∧ f.payload.length ≤ 9000) && (match f.ip with
    | some i => ipOk i
    | none => true)

/-- The number of an output channel of the whole module: valve, load switch or field output (R95). -/
def outputChan (c : Nat) : Bool := decide (c ≤ 127 ∨ (256 ≤ c ∧ c ≤ 271) ∨ (512 ≤ c ∧ c ≤ 527))

/-- A Flue frame's header fits its fields (R274). -/
def flueOk (f : FlueFrameIn) : Bool := decide (f.src < 65536 ∧ f.dest < 65536 ∧ f.hops < 65536 ∧ f.seq < 2 ^ 32)

/-- A frame over the field barrier has 24 bytes (R297). -/
def frameLen : Option (List Byte) → Bool
  | some bs => bs.length == 24
  | none => true

/-- Bytes that a DLC code stands for (R336). -/
def dlcLen (fdf : Bool) (dlc : Nat) : Nat :=
  match fdf, dlc with
  | true, 9 => 12 | true, 10 => 16 | true, 11 => 20 | true, 12 => 24 | true, 13 => 32 | true, 14 => 48 | true, 15 => 64
  | _, n => if n ≤ 8 then n else 8

/-- A CAN frame: an identifier of 29 bits, a DLC, the data its DLC stands for; no remote frame is FD (R336). -/
def canOk (f : CanFrame) : Bool :=
  decide (f.id < 2 ^ 29 ∧ f.dlc ≤ 15) && (if f.remote then f.data.isEmpty && !f.fdf else f.data.length == dlcLen f.fdf f.dlc)

/-- Which commands are well formed. -/
def Instr.wf : Instr → Bool
  | .mantelCycleBoundary _ => true
  | .apply _ => true
  | .pendingStageTaken _ => true
  | .registerWrite _ b => busOk b.addr b.size && decide (b.value < 256 ^ b.size)
  | .snapshotLatchRead _ b => busOk b.addr b.size
  | .tunnelSequenceRead _ off => decide (off < 2 ^ 25)
  | .imageLoad _ _ _ => true
  | .structureSwap => true
  | .check => true
  | .candDone _ => true
  | .uncorrectableError _ => true
  | .pd2ResetRelease _ _ => true
  | .mtimecmpInterrupt _ => true
  | .claim _ => true
  | .complete _ _ => true
  | .ecall _ r => ecallOk r
  | .msip _ _ _ => true
  | .sessionOpenRequest _ peer => decide (peer < 65536)
  | .challengeResponse _ key _ => decide (key < 64)
  | .challengeTimeout _ => true
  | .read _ r => r.op != 2 && r.op != 3 && reqOk r
  | .write _ r => r.op == 2 && reqOk r
  | .modify _ r => r.op == 3 && reqOk r
  | .sessionClose _ => true
  | .sessionInactivityTimeout _ => true
  | .sourceUpdate _ _ _ => true
  | .srcFault _ _ => true
  | .sourceFaultCleared _ => true
  | .gnssGap _ => true
  | .coastTimeExpiry _ => true
  | .coastDistReached _ => true
  | .rangeExceeded _ => true
  | .still _ => true
  | .index _ => true
  | .restart _ => true
  | .saveOffset _ => true
  | .clearCounts _ => true
  | .axisFrameSend _ => true
  | .batch _ f => frameOk f
  | .fire => true
  | .openEv => true
  | .closeEv => true
  | .level => true
  | .setpt => true
  | .mark => true
  | .cancel => true
  | .replace => true
  | .fence => true
  | .eventFiling => true
  | .notificationFrame _ => true
  | .noteRetx _ => true
  | .update => true
  | .ringClose _ => true
  | .discardNotes _ => true
  | .neighbourSolicitation _ mac ip target => decide (mac < 2 ^ 48 ∧ ip < 2 ^ 128 ∧ target < 2 ^ 128)
  | .echoRequest _ mac ip dst _ => decide (mac < 2 ^ 48 ∧ ip < 2 ^ 128 ∧ dst < 2 ^ 128)
  | .frameDrop _ f => frameOk f
  | .portLinkUp _ => true
  | .portLinkDown _ _ _ _ => true
  | .pagerVisit _ => true
  | .farChainSweep _ => true
  | .commit => true
  | .edgeExecution => true
  | .markInstant => true
  | .openingMeasurement _ _ => true
  | .closingMeasurement _ _ => true
  | .fingerprint _ _ => true
  | .probe b res => res.all fun r => r.chan.val / 8 == b.val
  | .delayTableSave => true
  | .forget _ => true
  | .load _ => true
  | .boostEnd _ _ _ _ => true
  | .peakEnd _ _ => true
  | .decayEnd _ _ _ => true
  | .boostStart _ _ => true
  | .boostWaitMax _ => true
  | .minimumGapEnd _ => true
  | .pwmPulseStart _ => true
  | .pwmPulseEnd _ => true
  | .holdFactorRaise _ _ => true
  | .dutyCut _ => true
  | .dutyCutRelease _ => true
  | .supWarn _ _ => true
  | .vsolWarningEnd _ _ => true
  | .reducedBudgetEnd _ => true
  | .valveOpenFault _ => true
  | .valveShort _ => true
  | .driveOvertemp _ => true
  | .inputOc _ => true
  | .bankSw _ => true
  | .vsolUv _ _ => true
  | .vsolUvRelease _ _ => true
  | .bwOv _ _ => true
  | .bwLow _ _ => true
  | .vdrvFaultClear _ _ => true
  | .bellowsFull _ _ => true
  | .bellowsConverterStart _ _ _ => true
  | .resetpolWrite c _ => outputChan c
  | .holdMsExpiry c => outputChan c
  | .coverageEvaluation => true
  | .tileFetch => true
  | .tileWriteBack => true
  | .tileLoad _ => true
  | .tileExport _ => true
  | .tileDelete _ => true
  | .newJob => true
  | .jobConfirm => true
  | .closeJob => true
  | .archive => true
  | .periodicArchive => true
  | .restore => true
  | .archDone => true
  | .loopSample => true
  | .spValue _ _ => true
  | .fbSwValue _ _ => true
  | .traceStart => true
  | .traceStop => true
  | .injStart => true
  | .injStop => true
  | .saveBanks _ => true
  | .acquisitionPass p => decide (p.sv < 256)
  | .correlatorDump _ _ => true
  | .navFifoRead _ => true
  | .channelStart _ _ => true
  | .observableEpoch _ => true
  | .pvtSolution _ => true
  | .antennaOpen _ => true
  | .antennaShort _ => true
  | .antennaOk _ => true
  | .antennaBiasRetry => true
  | .rtcmWord _ => true
  | .rtcmByte _ => true
  | .timeHoldover => true
  | .timeFree => true
  | .slewDone => true
  | .timePulse => true
  | .burstStart => true
  | .burstEnd => true
  | .gnssRestart => true
  | .clearNav => true
  | .saveNav => true
  | .navPeriodicSave => true
  | .linkFrame _ f => flueOk f
  | .linkFrameSend _ => true
  | .timeFrame _ f => flueOk f
  | .timeFrameSend => true
  | .presence _ f => flueOk f
  | .presenceSend _ => true
  | .dupIdClear => true
  | .routeExpiry => true
  | .fluePortUp _ _ => true
  | .fluePortDown _ => true
  | .gapPlacement => true
  | .placeGap => true
  | .masterLost => true
  | .masterTakeover => true
  | .positionEnumeration => true
  | .renumber => true
  | .axisFrame _ f => flueOk f
  | .batchFrame _ f => flueOk f
  | .returnFrame _ f => flueOk f
  | .mgmtFrame _ f _ => flueOk f
  | .mgmtRelayDatagram _ mac ip _ _ => decide (mac < 2 ^ 48) && ipOk ip
  | .imageFrame _ f _ => flueOk f
  | .tpin _ => true
  | .upstreamFrame frame => frameLen frame
  | .downstreamFrame _ => true
  | .fieldBarrierFault => true
  | .logicBarrierFault => true
  | .barrierRelease _ => true
  | .fiEdge _ _ _ => true
  | .foOvercurrent _ => true
  | .foShort _ => true
  | .foOpen _ _ => true
  | .foOvertemp _ => true
  | .foFaultClear _ _ => true
  | .vfWarn _ => true
  | .vfieldNormal _ => true
  | .vfCut _ => true
  | .vfieldRestore _ => true
  | .foReleased => true
  | .ackRelease => true
  | .vfOver _ => true
  | .aiConversion codes => codes.toList.all fun c => decide (c < 2 ^ 17)
  | .aiFlag _ _ => true
  | .aiFlagClear _ _ => true
  | .burdenOpen _ => true
  | .burdenReconnect _ => true
  | .ssOc _ => true
  | .sensorSupplyControl _ => true
  | .lsShort _ => true
  | .overload _ => true
  | .lsOvertemp _ => true
  | .lsOpen _ _ => true
  | .vlsUv => true
  | .vlsUvRelease => true
  | .vlsOc => true
  | .retryWaitEnd _ => true
  | .retryCounterReset _ => true
  | .thermalRelease _ => true
  | .lswFaultClear _ _ => true
  | .limpEntry inputs => decide (inputs < 256)
  | .limpInputChange inputs => decide (inputs < 256)
  | .limpExit => true
  | .controllerEnable _ _ => true
  | .controllerDisable _ _ => true
  | .busIntegration _ => true
  | .frameReceived _ f => canOk f
  | .txReq _ _ => true
  | .txAbort _ _ _ => true
  | .transmissionDone _ => true
  | .failedAttempt _ _ => true
  | .recover _ => true
  | .recoveryDone _ => true
  | .tunnelRead _ => true
  | .tunnelWrite _ => true
  | .tunnelEnable _ _ => true
  | .ashRead _ _ => true
  | .applicationPost _ code => decide (code < 65536)
  | .ashClear _ key => decide (key < 65536)
  | .clearing => true
  | .lifecycle _ r => decide (r.target < 256 ∧ r.nonce < 2 ^ 128)
  | .keyEnrolment _ _ => true
  | .keyRevocation _ _ => true
  | .begin_ _ bs => bs.length == 256
  | .block _ off bs _ => decide (off < 2 ^ 32 ∧ bs.length ≤ 8192)
  | .end_ _ => true
  | .abort _ => true
  | .activate _ _ _ _ _ => true
  | .activationPause _ => true
  | .warmRestart => true
  | .confirm _ => true
  | .rollback _ => true
  | .kindlingBoot _ => true
  | .bootWatchdog => true
  | .vbatValid _ _ => true
  | .settingsRestore => true
  | .arm _ => true
  | .disarm _ => true
  | .armWdKick => true
  | .wdDisarm => true
  | .vbatWarn _ => true
  | .vbatOk _ => true
  | .vbatLow _ => true
  | .vbatOv _ => true
  | .reset _ => true
  | .firmwareWatchdog => true
  | .debugReset => true
  | .dieHot _ => true
  | .thermal _ => true
  | .resetRelease _ => true
  | .sleep _ => true
  | .wakeFollowSleep => true
  | .wake src _ => decide (src < 16)
  | .nandRefresh _ => true
  | .dramScrub _ _ => true
  | .powerOn => true
  | .pd0Lost => true
  | .flueFrameDiscard _ _ => true
  | .errorFrame _ _ => true
  | .vlsOcClear _ => true
  | .ssOcClear _ => true
  | .debugConnectionReset => true
  | .fullEnd _ _ => true
  | .converterStop _ _ => true
  | .dieOtEnd _ => true

end Sys2Proof
end

