-- ==== Sys2Proof/Tests/Slice0.lean ====
section
/-! SUPPORT. Tests: an ill-formed command for each check, single steps whose results are worked out from the spec, and for every statement
with hypotheses one theorem that shows, clause by clause, states and operands that meet them together (the least or the last index of a
range wherever a clause ranges over one). -/

namespace Sys2Proof.Tests

open Sys2Proof Sys2Proof.Machine

set_option Elab.async false

/-! ## Ill-formed commands -/

theorem test_wf_refuses_bus_size : (.registerWrite .debug ⟨0x40000000, 3, 0⟩ : Instr).wf = false := by decide
theorem test_wf_refuses_bus_value : (.registerWrite .debug ⟨0x40000000, 1, 256⟩ : Instr).wf = false := by decide
theorem test_wf_refuses_bus_address : (.snapshotLatchRead .debug ⟨2 ^ 32, 4⟩ : Instr).wf = false := by decide
theorem test_wf_refuses_tunnel_offset : (.tunnelSequenceRead 0 (2 ^ 25) : Instr).wf = false := by decide
theorem test_wf_refuses_ecall_offset : (.ecall 1 (.read (2 ^ 25) false) : Instr).wf = false := by decide
theorem test_wf_refuses_session_peer : (.sessionOpenRequest .flue 65536 : Instr).wf = false := by decide
theorem test_wf_refuses_challenge_key : (.challengeResponse 0 64 true : Instr).wf = false := by decide
theorem test_wf_refuses_read_op : (.read 0 ⟨2, false, 0, 1, 1, 0, 0, []⟩ : Instr).wf = false := by decide
theorem test_wf_refuses_write_op : (.write 0 ⟨1, false, 0, 1, 1, 0, 0, []⟩ : Instr).wf = false := by decide
theorem test_wf_refuses_modify_op : (.modify 0 ⟨2, false, 0, 1, 1, 0, 0, []⟩ : Instr).wf = false := by decide
theorem test_wf_refuses_request_field : (.read 0 ⟨1, false, 0, 65536, 1, 0, 0, []⟩ : Instr).wf = false := by decide
theorem test_wf_refuses_frame : (.batch 0 ⟨true, 2 ^ 48, 0, [], 0x88B5, none, []⟩ : Instr).wf = false := by decide
theorem test_wf_refuses_frame_ip : (.frameDrop 0 ⟨true, 0, 0, [], 0x86DD, some ⟨2 ^ 128, 0, false, true, 0, 0⟩, []⟩ : Instr).wf = false := by decide
theorem test_wf_refuses_neighbour : (.neighbourSolicitation 0 0 0 (2 ^ 128) : Instr).wf = false := by decide
theorem test_wf_refuses_echo : (.echoRequest 0 (2 ^ 48) 0 0 [] : Instr).wf = false := by decide
theorem test_wf_refuses_probe_bank : (.probe 0 [⟨8, true, ⟨0, 0, 0⟩⟩] : Instr).wf = false := by decide
theorem test_wf_refuses_policy_channel : (.resetpolWrite 128 0 : Instr).wf = false := by decide
theorem test_wf_refuses_expiry_channel : (.holdMsExpiry 272 : Instr).wf = false := by decide
theorem test_wf_refuses_satellite : (.acquisitionPass ⟨0, 256, false, 0, 0, 0, false⟩ : Instr).wf = false := by decide
theorem test_wf_refuses_flue : (.linkFrame 0 ⟨65536, 0, 0, 0, []⟩ : Instr).wf = false := by decide
theorem test_wf_refuses_relay_mac : (.mgmtRelayDatagram 0 (2 ^ 48) ⟨0, 0, false, true, 0, 0⟩ [] none : Instr).wf = false := by decide
theorem test_wf_refuses_barrier_frame : (.upstreamFrame (some [0]) : Instr).wf = false := by decide
theorem test_wf_refuses_ai_code : (.aiConversion (Arr.fill 16 (2 ^ 17)) : Instr).wf = false := by decide
theorem test_wf_refuses_limp_inputs : (.limpEntry 256 : Instr).wf = false := by decide
theorem test_wf_refuses_limp_change : (.limpInputChange 256 : Instr).wf = false := by decide
theorem test_wf_refuses_can_id : (.frameReceived 0 ⟨true, 2 ^ 29, false, false, false, false, 0, []⟩ : Instr).wf = false := by decide
theorem test_wf_refuses_can_remote : (.frameReceived 0 ⟨false, 0, true, false, false, true, 0, []⟩ : Instr).wf = false := by decide
theorem test_wf_refuses_can_data : (.frameReceived 0 ⟨false, 0, true, false, false, false, 9, [0]⟩ : Instr).wf = false := by decide
theorem test_wf_refuses_post_code : (.applicationPost .debug 65536 : Instr).wf = false := by decide
theorem test_wf_refuses_clear_key : (.ashClear .debug 65536 : Instr).wf = false := by decide
theorem test_wf_refuses_lifecycle : (.lifecycle 0 ⟨256, 0, 0, .slot 0, true⟩ : Instr).wf = false := by decide
theorem test_wf_refuses_begin : (.begin_ 0 [] : Instr).wf = false := by decide
theorem test_wf_refuses_block : (.block 0 (2 ^ 32) [] true : Instr).wf = false := by decide
theorem test_wf_refuses_wake_source : (.wake 16 ⟨true, true, true, true⟩ : Instr).wf = false := by decide

/-! ## Small states -/

/-- A register written and in force. -/
def rg (o : Nat) (w : Word) (m : Module) : Module :=
  { m with regs := { m.regs with rw := Sparse.set resetOf m.regs.rw o w, act := Sparse.set resetOf m.regs.act o w } }

def recs0 : Records :=
  { axes := [(0, ⟨0, .enPulse, 0, 0xFF, 0, 0, true, false, 0, 16⟩), (1, ⟨1, .enQuad, 1, 0xFF, 0, 0, false, true, 0, 16⟩),
      (2, ⟨2, .gnssPath, 0xFF, 0xFF, 0, 0, false, false, 0, 16⟩), (3, ⟨3, .blended, 0xFF, 2, 0, 0, false, false, 0, 16⟩),
      (4, ⟨14, .chain, 0xFF, 0xFF, 3, 1, false, false, 0, 16⟩), (5, ⟨5, .fiQuad, 0x10, 0xFF, 0, 0, false, false, 0, 16⟩),
      (6, ⟨6, .fiPulse, 0x12, 0xFF, 0, 0, false, false, 1000, 16⟩)],
    banks := [(7, ⟨0, 0, true, 0xFF⟩), (8, ⟨15, 8, true, 0xFF⟩)],
    groups := [(9, ⟨0, [(0, 7), (120, 126)]⟩), (10, ⟨1, [(4096, 4159)]⟩)],
    loops := [(11, ⟨0, .software, 0, .lsPwm, 0, 1⟩), (12, ⟨1, .software, 0, .setpoint, 2, 4⟩), (13, ⟨2, .software, 0, .none, 0, 1⟩),
      (14, ⟨3, .can, 0x005, .can, 0x17E, 1⟩), (15, ⟨31, .software, 0, .none, 0, 1⟩)],
    rings := [(16, ⟨0, 31, 511, 0xFFFF, true, 3⟩), (17, ⟨63, 31, 511, 0xFFFF, true, 3⟩)],
    cover := [(18, ⟨2, 2, 1⟩)], limps := [(19, ⟨0, 128, 1, 1, 0xFF, 0⟩)], pols := [(20, ⟨1, .off, 0, true⟩)] }

def loaded0 : Loaded := ⟨.a, 1, 21, 0x20, [], [], 77, recs0⟩

/-- A module with a structure, awake, 5,000,000 ticks after the epoch. -/
def base : Module :=
  { Module.reset with
    time := ⟨5000000, 0, 0, .free, 5⟩, grate := { GrateSt.reset with active := some loaded0 },
    pwr := { PwrSt.reset with domains := 0x5FF } }

def st (f : Module → Module) : State := ⟨[], [], f base⟩

/-! ### Sessions and cores -/

def sess (ph : SessPhase) (tr : Transport) (priv : Bool) : SessSt :=
  { SessSt.closed with phase := ph, transport := tr, priv := priv }

def withSess (n : Fin 8) (x : SessSt) (m : Module) : Module := { m with sess := Arr.put m.sess n x }
def withKey (k : Fin 64) (priv : Bool) (m : Module) : Module :=
  { m with sec := { m.sec with keys := Arr.put m.sec.keys k (some ⟨priv, [1]⟩) } }

def sIdle : State := st (withKey 0x20 true)
def sChall : State := st fun m => withKey 63 true (withSess 7 (sess .challenged .usb false) (withSess 0 (sess .challenged (.udp 3) false) m))
def sActive : State := st fun m =>
  withSess 7 { sess .active .usb true with maxSeq := some 4, replies := [(4, [1, 2])] } (withSess 0 (sess .active (.udp 0) true) m)
def sBusy : State := st fun m => { m with sess := Arr.fill 8 (sess .active .usb false) }
def sFlue : State := st fun m => withSess 2 { sess .active .flue true with peer := 3 } m

/-! ### Axes -/

def withAx (n : Fin 15) (x : AxisSt) (m : Module) : Module := { m with axes := { m.axes with ax := Arr.put m.axes.ax n x } }
def lockedAx : AxisSt :=
  { AxisSt.reset with phase := .locked, p := 0, v := 0, mtk := 4000000, history := [(4000000, 0)], upd := 4000000, accepted := 7, dirKnown := true }

def sAxes : State := st fun m =>
  withAx 0 lockedAx (withAx 1 lockedAx (withAx 2 lockedAx (withAx 3 lockedAx (withAx 14 lockedAx (withAx 5 lockedAx m)))))
def sAcquire (k : Nat) : State := st fun m => withAx 0 { AxisSt.reset with phase := .acquire, acq := k, acqFirst := (3000000, 0), mtk := 4000000 } m
def sFault : State := st fun m => withAx 1 { lockedAx with fault := true, faultCause := some .receiver } m
def sCoast : State := st fun m =>
  rg (Reg.AXIS_AX_COAST_DIST 0) 1 (withAx 0 { lockedAx with phase := .coast, coastMt := 4500000, p := 5 * qOne, coastP := 0 } m)
def sRange : State := st fun m => withAx 0 { lockedAx with p := 2 ^ 63 } m
def sIndex : State := st fun m => rg (Reg.AXIS_AX_INDEX_CFG 0) 0x40000000 (withAx 0 lockedAx m)
def sStill : State := st fun m => rg (Reg.AXIS_AX_CFG 0) 0x6400 (withAx 0 lockedAx m)
def fUp (n : Nat) : FPortSt := { FPortSt.reset with lock := true, up := true, neighbour := n, delays := [10] }
def withFlue (a b : FPortSt) (m : Module) : Module := { m with flue := { m.flue with port := Arr.put (Arr.put m.flue.port 0 a) 1 b } }
def sPublish : State := st fun m => withFlue (fUp 3) FPortSt.reset (withAx 0 lockedAx m)

/-! ### Events -/

def evBytes (op axis chan tag target arg : Nat) : List Byte :=
  leBytes 1 op ++ leBytes 1 (16 * axis) ++ leBytes 2 chan ++ leBytes 2 tag ++ leBytes 6 target ++ leBytes 4 arg

def withRing (n : Fin 64) (x : RingSt) (m : Module) : Module := { m with ingest := { m.ingest with ring := Arr.put m.ingest.ring n x } }
def addr0 : NoteAddr := ⟨1, .udp, 0xA0, 0xB0, 50000, none, 0⟩
def openRing : RingSt := { RingSt.reset with phase := .open, epoch := 9, evLimit := 1000, addr := some addr0 }
def unch (bs : List Byte) : Unchecked := ⟨bs, 1, 1, 0⟩

/-- Ring 63 is open, the event `bs` is the next to be checked. -/
def sNext (bs : List Byte) : State := st (withRing 63 { openRing with unchecked := [unch bs] })

def ev0 : EvRec :=
  { op := .mark, axis := 1, profile := 0, chan := 4096, tag := 7, target := 256, arg := 0, producer := 63, acc := 4, accMt := 4000000,
    ref := 0, passed := false, place := .far, replaced := false, cold := false, coast := false, due := none }
def withHob (h : HobSt) (m : Module) : Module := { m with hob := h }

/-- The event `ev0` of ring 63 is pending when the event `bs` is checked. -/
def sReach (bs : List Byte) : State :=
  st fun m => withHob { HobSt.reset with events := [ev0], nextAcc := 5 } (withRing 63 { openRing with unchecked := [unch bs] } m)

def sFifo : State := st (withHob { HobSt.reset with events := [{ ev0 with place := .fifo }], nextAcc := 5 })
def sSweep : State := st fun m =>
  withHob { HobSt.reset with events := [{ ev0 with axis := 0, target := 20000000 * 256 }], nextAcc := 5 }
    (withAx 0 { lockedAx with p := 128 * 65536 * qOne } m)
/-- A mark on the MT of 1 ms after its acceptance waits in the Hob. -/
def sCommit : State :=
  st (withHob { HobSt.reset with events := [{ ev0 with axis := 15, target := 256 * 6000000, place := .hob }], nextAcc := 5 })
def edgeHob (k : Fin 256) (act : EdgeAct) : HobSt :=
  { HobSt.reset with
    queues := Arr.put HobSt.reset.queues k [⟨6000000, 4, act, 0⟩]
    nextAcc := 5
    committed := [⟨{ ev0 with chan := k.val, op := EvOp.open }, 6000000, 1, false, false, false, false⟩] }
def sEdge (k : Fin 256) (act : EdgeAct) : State :=
  st fun m => withHob (edgeHob k act) { m with pwr := { m.pwr with arm := .armed } }

def note0 (sent : Bool) : StreamNote := ⟨1, 4000000, if sent then some 4000000 else none, ⟨2, 0, 3, 7, 0x10, 0, 5⟩⟩
def sNotes (sent : Bool) : State := st (withRing 63 { openRing with notes := [note0 sent], nseq := 2 })

/-! ### Ports and batches -/

def sPort (up : Bool) : State := st fun m =>
  rg (Reg.INGEST_PORT_CFG 3) 0x80000000 (rg (Reg.INGEST_PORT_CFG 0) 0x80000000
    { m with ingest := { m.ingest with port := Arr.fill 4 ⟨0x42, up, true, false, false⟩ } })

def batch0 (ring : Nat) : List Byte :=
  [1, 0, BitVec.ofNat 8 ring, 1] ++ leBytes 2 1 ++ leBytes 2 9 ++ leBytes 4 1 ++ leBytes 4 0 ++ leBytes 4 0 ++ leBytes 2 0 ++
    List.replicate 10 0 ++ evBytes 0x30 1 4096 7 256 0
def frame0 (ring : Nat) : EthFrame := ⟨true, 0x42, 0xA0, [], 0x88B5, none, batch0 ring⟩
def sBatch (ring : Fin 64) : State := st fun m =>
  withRing ring openRing (rg Reg.INGEST_CFG 0x88B5 (rg (Reg.INGEST_RING_CFG ring.val) 0x00580000 (rg (Reg.INGEST_PORT_CFG 3) 0x90000000
    { m with ingest := { m.ingest with port := Arr.fill 4 ⟨0x42, true, true, false, false⟩ } })))

/-! ### Learning and valves -/

def withLearn (n : Fin 128) (x : LearnCh) (m : Module) : Module := { m with learn := { m.learn with ch := Arr.put m.learn.ch n x } }
def withVc (n : Fin 128) (x : VcSt) (m : Module) : Module := { m with vdrv := { m.vdrv with ch := Arr.put m.vdrv.ch n x } }
def withHalf (n : Fin 2) (x : HalfSt) (m : Module) : Module := { m with vdrv := { m.vdrv with half := Arr.put m.vdrv.half n x } }
def half0 : HalfSt := ⟨24000, false, false, 0, false, 100, 60000, true, false, false, false, 0, false⟩
def withBank (n : Fin 16) (x : BankSt) (m : Module) : Module := { m with vdrv := { m.vdrv with bank := Arr.put m.vdrv.bank n x } }

def sMeas (freeze : Bool) : State := st fun m =>
  rg (Reg.LEARN_CH_CFG 126) (if freeze then 0x100 else 0) (rg (Reg.LEARN_CH_CFG 0) (if freeze then 0x100 else 0)
    (withLearn 0 { LearnCh.clear .cold with openMeas := some 4900000, closeMeas := some 4900000 }
      (withLearn 126 { LearnCh.clear .warm with openMeas := some 4900000, closeMeas := some 4900000 } m)))
def sLearn (p : LearnPhase) : State := st (withLearn 0 { LearnCh.clear p with changed := true })
def sArming : State := st fun m => { m with pwr := { m.pwr with arm := .arming, probes := [0, 3, 127] } }

def prof0 : Prof := { Prof.zero with boostT := 10, peakT := 100, peakI := 100, holdI := 50, dutyMax := 50 }
def armedM (m : Module) : Module :=
  withHalf 0 half0 (withHalf 1 half0 { m with pwr := { m.pwr with arm := .armed } })
def sValve (x : VcSt) : State := st fun m => armedM (withVc 0 x (withVc 126 x m))
def vcIn (p : VPhase) : VcSt := { VcSt.reset with phase := p, lat := prof0, claims := [(4, 0)] }
def sBoost : State := sValve { vcIn .boost with boostStart := 4999900 }
def sWait (busy : Bool) : State := sValve { vcIn .wait with lat := { prof0 with busyReject := busy }, waitSince := 4999000 }
def sGap : State := st fun m => armedM (rg (Reg.VDRV_PF_TIME 0) 0x00640000
  (withVc 0 { VcSt.reset with startWait := .gap 5000010, claims := [(4, 0)] } m))
def sReopen : State := sValve { vcIn .decay with startWait := .reopen 5000010 }
def sPwm : State := st fun m => armedM (rg (Reg.VDRV_PF_MODE 0) 1 (rg (Reg.VDRV_PF_TIME 0) 0x00640000
  (withVc 0 { VcSt.reset with pwmRun := true, level := 30000 } m)))
def sPulse : State := sValve { VcSt.reset with phase := .hold, lat := prof0, pwmRun := true, pulse := true, pulseEnd := 5000100, level := 30000 }
def sCut : State := sValve { VcSt.reset with dutyCut := true, lat := prof0 }
def sLatched (hot : Bool) : State := st fun m =>
  rg (Reg.VDRV_CH_FAULT 0) 0x3E (armedM m |> fun m => withHalf 0 { half0 with dieOt := hot } (withVc 0 { VcSt.reset with phase := .fault } m))
def sHalf (x : HalfSt) : State := st fun m => withHalf 0 x (withHalf 1 x m)
def sHeldOut : State := st fun m =>
  { withVc 127 { VcSt.reset with phase := .held, heldUntil := 6000000 } (withVc 0 { VcSt.reset with phase := .held, heldUntil := 6000000 } m) with
    lsw := { m.lsw with ch := Arr.put m.lsw.ch 15 { LsSt.reset with heldUntil := some 6000000 } },
    fio := { m.fio with fo := Arr.put m.fio.fo 15 { FoSt.reset with heldUntil := some 6000000 } } }
def sLocked : State := st fun m =>
  { m with grate := { m.grate with retained := { Retained.empty with
    pols := [(0, ⟨.hold, 100, true⟩), (127, ⟨.off, 0, true⟩), (256, ⟨.off, 0, true⟩), (271, ⟨.off, 0, true⟩), (512, ⟨.off, 0, true⟩),
      (527, ⟨.off, 0, true⟩)] } } }

/-! ### Loops and coverage -/

def withLoops (x : LoopsSt) (m : Module) : Module := { m with loops := x }
def sLoops : State := st id
def sTrace (p : TrPhase) : State := st (withLoops { LoopsSt.reset with trace := p })
def sInj (p : InjPhase) : State := st fun m => rg Reg.LOOP_INJ_CFG 16384 (withLoops { LoopsSt.reset with inj := p } m)

def withCover (x : CoverSt) (m : Module) : Module := { m with cover := x }
def key0 : TileKey := ⟨0, 0, 0⟩
def tile0 : Tile := ⟨key0, 3, 5, true, none⟩
def job (p : JobPhase) : CoverSt := { CoverSt.reset with job := p, jobId := 9, jobStruct := 77 }
def sTiles (tiles : List Tile) : State := st fun m =>
  rg Reg.COVER_TILE_ADDR_LO 0xBFFFE000 (withCover { job .active with tiles := tiles, fetches := [key0] } m)
def sJob (c : CoverSt) : State := st fun m => rg Reg.COVER_ARCH 1 (withCover c m)

/-! ### GNSS and Flue -/

def withGnss (x : GnssSt) (m : Module) : Module := { m with gnss := x }
def sGnss (x : GnssSt) : State := st (withGnss x)
def sTracking : State := st fun m => rg (Reg.GNSS_GC_CFG 95) 0x80000000 (rg (Reg.GNSS_GC_CFG 0) 0x80000000
  (withGnss { GnssSt.reset with gc := Arr.put GnssSt.reset.gc 95 { GcSt.reset with fifo := [5, 6] } } m))
def sBias (x : GnssSt) : State := st fun m => rg Reg.GNSS_ANT 0x80000000 (withGnss x m)

def withRoutes (rs : List Route) (m : Module) : Module := { m with flue := { m.flue with routes := rs } }
def route3 (q : Fin 2) : Route := ⟨3, q, 1, 4900000, ⟨0, 1, 5⟩⟩
def sChain (s : FState) : State := st fun m =>
  let m := withRoutes [route3 1] (withFlue (fUp 2) (fUp 3) m)
  { m with flue := { m.flue with fstate := s, master := some 3, timeMt := 4990000 } }
def flue0 (src dest : Nat) (bs : List Byte) : FlueFrameIn := ⟨src, dest, 1, 9, bs⟩

/-! ### Outputs, inputs, CAN -/

def withFio (x : FioSt) (m : Module) : Module := { m with fio := x }
def sFio (x : FioSt) : State := st (withFio x)
def sLsw (x : LsSt) (cfg : Word) : State := st fun m =>
  rg (Reg.LSW_CH_CFG 15) cfg { m with pwr := { m.pwr with arm := .armed }, lsw := { m.lsw with ch := Arr.put m.lsw.ch 15 x } }
def withCn (c : Fin 4) (x : CnSt) (m : Module) : Module := { m with can := { m.can with cn := Arr.put m.can.cn c x } }
def sCan (x : CnSt) : State := st fun m => rg (Reg.CAN_CN_CFG 3) 0x80000000 (withCn 3 x m)

/-! ### Security and power -/

def withSec (f : SecSt → SecSt) (m : Module) : Module := { m with sec := f m.sec }
def withPwr (f : PwrSt → PwrSt) (m : Module) : Module := { m with pwr := f m.pwr }
def sPwr (f : PwrSt → PwrSt) : State := st (withPwr f)
def sAsh (f : AshSt → AshSt) : State := st fun m => { m with ash := f m.ash }

/-! ### Stages, loads -/

def dInt : RegDef := ⟨"SYS_INT_EN", 0x84, [], { rw := 0x1f }, 0, .none⟩
def stage0 (u : ApplyUnit) : Stage := ⟨u, 4999999, []⟩
def sStage (u : ApplyUnit) : State := st fun m => { m with regs := { m.regs with pend := [stage0 u] } }
def sTun (fs : List CanFrame) : State := st fun m =>
  rg (Reg.CAN_CN_TUN_REQ 3) 0x80000000 (withCn 3 { CnSt.reset with phase := .active, tunReq := fs } m)
def sSwap : State := st fun m => { m with grate := { m.grate with loader := .swapPending, staging := some loaded0 } }
def sSwapPause : State := st fun m => { sSwap.m with sec := { m.sec with act := .pause, swapReady := true, b0 := 6000000 } }

/-! ### Images and packages -/

/-- A structure image of one BANK record; the digest is SHA-384 of the record. -/
def image0 : List Byte :=
  leBytes 4 0x54415247 ++ leBytes 2 1 ++ leBytes 2 128 ++ leBytes 4 240 ++ leBytes 4 1 ++ leBytes 4 0 ++ leBytes 12 1 ++ leBytes 32 0 ++
    leBytes 48 0x8cc57840d89c6e184f5df1770cbb287e74fbe75398c79f11c087e464a02206b772dbd38d7ef4ece5bd5960f6ef087f7c ++
    leBytes 16 0 ++ leBytes 2 0x20 ++ leBytes 6 16 ++ leBytes 4 0 ++ leBytes 4 0xFF ++ leBytes 96 0

def imageOk (x : Except LoadFail Loaded) : Bool := match x with
  | .ok _ => true
  | .error _ => false
def imageGot (x : Except LoadFail Loaded) : Loaded := match x with
  | .ok l => l
  | .error _ => loaded0
theorem ok_of_imageOk {x : Except LoadFail Loaded} (h : imageOk x = true) : x = .ok (imageGot x) := by cases x <;> simp_all [imageOk, imageGot]

def withSlotB (p : PkgSlot) (m : Module) : Module := withSec (fun x => { x with slotB := p }) m
def sImage : State := st (withSlotB { PkgSlot.blank with phase := .stored, image := image0 })
def checked (m : Module) (slot : Slot) : Except LoadFail Loaded := checkImage (imageEnv m true) slot (slotOf m slot).image

/-- The header of a package of `len` bytes, firmware only, with the digest `d` of its body. -/
def pkgHdr (len d : Nat) : List Byte :=
  leBytes 4 0x4B505541 ++ leBytes 2 1 ++ leBytes 2 256 ++ leBytes 4 len ++ leBytes 4 0 ++ leBytes 8 0 ++ [1, 0, 0, 1] ++ leBytes 68 0 ++
    leBytes 4 256 ++ leBytes 4 (len - 352) ++ leBytes 104 0 ++ leBytes 48 d
/-- SHA-384 of 16 bytes of 0. -/
def bodyDigest : Nat := 0x6a04ccee8b819ee6c86b8734c308ca0249d29994ecf86ddde1bb2dd3833b47826a41365e4b47dfc8de3c19a19d6540ae
def pkg (d : Nat) (blocks : List (Nat × List Byte)) : PkgSlot := ⟨.receiving, pkgHdr 368 d, blocks, [], false⟩
def pkgBody (d : Nat) : List Byte := pkgHdr 368 d ++ List.replicate 112 0
def sPkg (p : PkgSlot) : State := st fun m =>
  withSess 7 (sess .active .usb true) (withSec (fun x => { x with slotB := p, delivery := some .session }) m)
def sPkgFlue : State := st fun m =>
  withFlue (fUp 2) (fUp 3) (withSec (fun x => { x with slotB := pkg 1 [], delivery := some .flue }) m)
def sBoot (f : SecSt → SecSt) : State := st (withSec f)
def storedPkg : PkgSlot := { pkg 1 [] with phase := .stored }

/-! ### More states -/

def sTime (x : GnssSt) (f : Module → Module) : State := st fun m => f (withGnss x m)
def gnssAt (ts : TState) : GnssSt := { GnssSt.reset with tstate := ts, leapKnown := true, epoch := some 4999000 }
/-- Four signals of one system are used at the epoch. -/
def sUsed : State := st fun m =>
  [0, 1, 2, 3].foldl (fun m c => rg (Reg.GNSS_OBS_W c 0) (0x80000000 + BitVec.ofNat 32 (256 * (c + 1))) m) (withGnss (gnssAt .none) m)
def sol0 : PvtSol :=
  ⟨[], [], Arr.fill 4 none, Arr.fill 4 none, none, false, 0, 0, 0, Arr.fill 3 0, 0, 0, 1, 1, 10, 10, 0, 0, 0, 0, 0, 1, none, none, none⟩
def sObj (cfg : Word) (x : ObjSt) : State := st fun m =>
  rg (Reg.CAN_CN_CFG 3) 0x80000000 (rg (Reg.CAN_OBJ_CFG 3 127) cfg (withCn 3 { CnSt.reset with phase := .active, obj := Arr.put CnSt.reset.obj 127 x } m))
def tunFrame (op off : Nat) : CanFrame := ⟨false, 0, false, false, false, false, 8, leBytes 4 (op * 2 ^ 30 + off) ++ leBytes 4 7⟩
def arch0 : Archive := ⟨9, 0, 77, 4, 5, 0, 0, 250, 200, [(key0, 5)], true⟩
def sUp : State := st (withFlue (fUp 2) { fUp 3 with up := false })
def sBad (n : Nat) : State := st (withFlue (fUp 2) { fUp 3 with badRun := n })
def sFlueSt (x : FlueSt) : State := st fun m => { m with flue := x }
def sRing : State := st fun _ => { (sChain .master).m with flue := { (sChain .master).m.flue with ring := true } }
def sOffs (p : FState) (n : Nat) : State := st fun m => { m with flue := { (sChain p).m.flue with offs := List.replicate n 0 } }
def sUp2 : State := st (withFlue (fUp 2) FPortSt.reset)
def sBeats : State := st fun m => { m with flue := { (sChain .sync).m.flue with beats := some 4000000 } }
def sBatchFlue : State := st fun _ => withFlue (fUp 2) (fUp 3) (sBatch 63).m
def sFwd : State := st fun m => { m with flue := { (sChain .sync).m.flue with fwd := [⟨3, 63, addr0⟩], mgmt := [⟨3, 0, addr0⟩] } }
def sAxisChain : State := st fun _ => { sAxes.m with flue := (sChain .sync).m.flue }
def sFoOn : State := st fun m =>
  rg (Reg.FIO_FO_CFG 15) 0x80000000 (withFio { FioSt.reset with fo := Arr.put FioSt.reset.fo 15 { FoSt.reset with level := 100 } } m)
def sLimp : State := st fun m => { m with lsw := { m.lsw with limpActive := true } }
def sOwner : State := st fun _ => withSec (fun x => { x with fuses := { x.fuses with ownerRoot := true } }) sActive.m
def sManufacture : State := st fun _ => withSec (fun x => { x with lc := .manufacture }) sActive.m
def sSwapPrep : State := st fun _ => withSec (fun x => { x with act := .preparing }) sSwap.m
def sPd2 : State := st fun m =>
  withPwr (fun x => { x with pd2Hold := some 4000000 }) (withSec (fun x => { x with slotA := { PkgSlot.blank with phase := .stored, image := image0 } }) m)
def sProbe : State := st fun m => rg (Reg.LEARN_CH_CFG 126) 0x200 (withLearn 126 (LearnCh.clear .pending) m)

/-! ## Single steps -/

/-- The state that a command leads to. -/
def then_ (c : Instr) (s : State) : State := match exec c s with
  | .next t => t
  | _ => s

/-- sha384 of "abc" (FIPS 180-4), first eight bytes. -/
theorem test_sha384_abc : (sha384 [0x61, 0x62, 0x63]).take 8 = [0xCB, 0x00, 0x75, 0x3F, 0x45, 0xA3, 0x5E, 0x8B] := by decide +kernel

/-- CRC-32 of "123456789", the check value of the standard. -/
theorem test_crc32_check : crc32 ("123456789".toList.map fun c => BitVec.ofNat 8 c.toNat) = 0xCBF43926 := by decide +kernel

/-- R13: the first boundary after reset is tick 1,000,000. -/
theorem test_first_boundary : (then_ (.mantelCycleBoundary 0) State.reset).m.mt = 1000000 := by decide +kernel

/-- log entry 6: an empty queue lets one tick pass. -/
theorem test_empty_queue : (match step State.reset with | .next t => t.m.mt | _ => 0) = 1 := by decide +kernel

/-- R8: a write of 0xFF to SYS_INT_EN keeps the five bits that exist. -/
theorem test_int_en_bits : (then_ (.registerWrite (.core 0 .machine) ⟨viewAddr true Reg.SYS_INT_EN, 4, 0xFF⟩) State.reset).m.rd Reg.SYS_INT_EN = 0x1F := by decide +kernel

/-- R51: a byte stored to shared memory is read back. -/
theorem test_store_byte : (then_ (.registerWrite (.core 1 .user) ⟨0x9C000000, 1, 0x5A⟩) State.reset).mem.rd 0x9C000000 = 0x5A := by decide +kernel

/-- R308: VFIELD of 14,999 mV cuts. -/
theorem test_vf_cut : (then_ (.vfCut 14999) (sFio { FioSt.reset with vstate := .normal })).m.fio.vstate = .cut := by decide +kernel

/-- R290: a time pulse edge is stamped with module time. -/
theorem test_tpin : (then_ (.tpin true) (st (rg Reg.FLUE_TPIN_CFG 0x80000000))).m.flue.tpin = 5000000 := by decide +kernel

/-- R200: a rail of 69,001 mV is too high, one of 69,000 mV is not. -/
theorem test_bw_ov : (half (then_ (.bwOv 1 69001) (sHalf half0)).m 1).ov = true ∧ (half (then_ (.bwOv 1 69000) (sHalf half0)).m 1).ov = false := by decide +kernel

/-- R1: a GNSS register reads as 0 on the P variant. -/
theorem test_absent_gnss : (regRead 0 true Reg.GNSS_HOLD_CFG { Module.reset with variant := .p }).1 = 0 := by decide +kernel

/-- Reset column of GNSS_HOLD_CFG (section 12). -/
theorem test_reset_hold_cfg : State.reset.m.rd Reg.GNSS_HOLD_CFG = 0x0064140F := by decide +kernel

/-! ## Witnesses of the hypotheses -/

theorem witness_EmptyQueueTicks :
    ∃ (s : State), s.pending = [] ∧ s.m.mt + 1 < 2 ^ 64 :=
  ⟨st fun m => { m with time := { m.time with mt := BitVec.ofNat 64 (2 ^ 64 - 2) } }, by decide +kernel⟩

theorem witness_StepKeepsMemoryCanonical :
    ∃ (s : State), ∃ (t : State), s.memCanonical ∧ step s = .next t :=
  ⟨sFlue, _, (by decide : sFlue.mem.wf = true), rfl⟩

theorem witness_StructureFixed :
    ∃ (c : Instr), ∃ (s : State), ∃ (t : State), c ≠ .structureSwap ∧ exec c s = .next t :=
  ⟨.check, sIdle, _, by decide +kernel, rfl⟩

theorem witness_CommandsKeepQueueAndMemory :
    ∃ (c : Instr), mayStore c = false :=
  ⟨.check, by decide +kernel⟩

theorem witness_ExportsReachTheTileBufferOnly :
    (∃ (c : Instr), ∃ (s : State), ∃ (a : Nat), ((∃ i b v, c = .registerWrite i b ∧ viewAt b.addr = some v) ∨ (∃ h r, c = .ecall h r) ∨ (∃ k,
        c = .tunnelWrite k) ∨ ∃ l, c = .tileExport l) ∧ (a < tileAddr s.m ∨ tileAddr s.m + 8192 ≤ a)) ∧
    (∃ (n : Fin 8), ∃ (r : SessReq), ∃ (s : State), ∃ (a : Nat), requestSpares n { r with op := 2 } s a) ∧
    (∃ (n : Fin 8), ∃ (r : SessReq), ∃ (s : State), ∃ (a : Nat), requestSpares n { r with op := 3 } s a) ∧
    (∃ (q : Fin 2), ∃ (f : FlueFrameIn), ∃ (n : Fin 8), ∃ (r : SessReq), ∃ (s : State), ∃ (a : Nat), requestSpares n r
        (s.onModule fun m => unicastIn m q ftMgmt f id) a) ∧
    (∃ (n : Fin 8), ∃ (r : SessReq), ∃ (s : State), ∃ (a : Nat), requestSpares n r s a) :=
  ⟨⟨.tileExport 3, sTiles [], 0xC0000000, .inr (.inr (.inr ⟨3, rfl⟩)), by decide +kernel⟩,
    ⟨7, ⟨2, true, 0, 1, 5, Reg.COVER_TILE_CMD, 0, [0#32]⟩, sActive, 8192, fun k hk _ => by
    have h : k = 0 := Nat.lt_one_iff.mp hk
    subst h; decide +kernel⟩,
    ⟨7, ⟨2, true, 0, 1, 5, Reg.COVER_TILE_CMD, 0, [0#32]⟩, sActive, 8192, fun k hk _ => by
    have h : k = 0 := Nat.lt_one_iff.mp hk
    subst h; decide +kernel⟩,
    ⟨1, flue0 3 0 [], 2, ⟨2, true, 0, 1, 5, Reg.COVER_TILE_CMD, 0, [0#32]⟩, sFlue, 8192, fun k hk _ => by
    have h : k = 0 := Nat.lt_one_iff.mp hk
    subst h; decide +kernel⟩,
    ⟨2, ⟨2, true, 0, 1, 5, Reg.COVER_TILE_CMD, 0, [0#32]⟩, sFlue, 8192, fun k hk _ => by
    have h : k = 0 := Nat.lt_one_iff.mp hk
    subst h; decide +kernel⟩⟩

theorem witness_FramesOfControl :
    (∃ (c : Instr), ∃ (s : State), ∃ (t : State), familyOf c ∈ [Family.mantel, .ash, .security, .power] ∧ exec c s = .next t) ∧
    (∃ (c : Instr), ∃ (s : State), ∃ (t : State), familyOf c ∈ [Family.mantel, .ash, .security, .power] ∧ exec c s = .next t) :=
  ⟨⟨.check, sIdle, _, by decide +kernel, rfl⟩,
    ⟨.dieHot 1200, sIdle, _, by decide +kernel, rfl⟩⟩

theorem witness_FramesOfEvents :
    (∃ (c : Instr), ∃ (s : State), ∃ (t : State), familyOf c ∈ [Family.axes, .events, .learning, .valves, .loops, .coverage] ∧ exec c s = .next t) ∧
    (∃ (c : Instr), ∃ (s : State), ∃ (t : State), familyOf c ∈ [Family.axes, .events, .learning, .valves, .loops, .coverage] ∧
        exec c s = .next t) :=
  ⟨⟨.still 0, sStill, _, by decide +kernel, rfl⟩,
    ⟨.injStop, sInj .running, _, by decide +kernel, rfl⟩⟩

theorem witness_FramesOfField :
    (∃ (c : Instr), ∃ (s : State), ∃ (t : State), familyOf c ∈ [Family.gnss, .flue, .field, .switches, .can] ∧ exec c s = .next t) ∧
    (∃ (c : Instr), ∃ (s : State), ∃ (t : State), familyOf c ∈ [Family.gnss, .flue, .field, .switches, .can] ∧ exec c s = .next t) :=
  ⟨⟨.vfOver 31000, sIdle, _, by decide +kernel, rfl⟩,
    ⟨.clearNav, sIdle, _, by decide +kernel, rfl⟩⟩

theorem witness_AbsentRegistersReadZero :
    (∃ (i : Initiator), ∃ (off : Nat), ∃ (s : State), ((s.m.variant = .p ∧ off / 0x100000 = 9) ∨ (regAt off = none ∧ off < viewLen ∧
        (restoringAt s.m off = true → heldOff i = false)))) ∧
    (∃ (i : Initiator), ∃ (off : Nat), ∃ (s : State), ((s.m.variant = .p ∧ off / 0x100000 = 9) ∨ (regAt off = none ∧ off < viewLen ∧
        (restoringAt s.m off = true → heldOff i = false)))) :=
  ⟨⟨.debug, 0x9FFFFC, st fun m => { m with variant := .p }, .inl (by decide +kernel)⟩,
    ⟨.core 3 .user, viewLen - 4, sIdle, .inr (by decide +kernel)⟩⟩

theorem witness_RegisterWriteEffect :
    (∃ (i : Initiator), ∃ (priv : Bool), ∃ (off : Nat), ∃ (d : RegDef), ∃ (ix : List Nat), ∃ (s : State), present s.m i = true ∧
        granted s.m i priv = true ∧ plainReg s.m priv off d ix) ∧
    (∃ (h : Fin 4), ∃ (mode : Mode), ∃ (a : Nat), ∃ (n : Nat), plainOk h mode a n = true) ∧
    (∃ (h : Fin 4), ∃ (mode : Mode), ∃ (a : Nat), ∃ (n : Nat), plainOk h mode a n = true) :=
  ⟨⟨.session 7, true, Reg.SYS_INT_EN, dInt, [], sActive, by decide +kernel, by decide +kernel, ⟨by decide +kernel, by decide +kernel,
        by decide +kernel, by decide +kernel, by decide +kernel, by decide +kernel, by decide +kernel, by decide +kernel, ⟨by decide, by decide,
        by decide⟩, fun _ _ => by simp [writeSpecial]⟩⟩,
    ⟨3, .user, 0xBFFFFFF8, 8, by decide +kernel⟩,
    ⟨0, .machine, 0x203FFFFF, 1, by decide +kernel⟩⟩

theorem witness_SnapshotReads :
    (∃ (i : Initiator), ∃ (priv : Bool), ∃ (s : State), present s.m i = true ∧ granted s.m i priv = true) ∧
    (∃ (c : Fin 4), ∃ (p : PubSet), ∃ (s : State), p ∈ pubSets ∧ tunEn s.m c = true ∧ (s.m.variant = .g ∨ p.seq < Reg.GNSS_STATUS)) :=
  ⟨⟨.session 7, true, sActive, by decide +kernel⟩,
    ⟨3, pubSets.getLast (by decide), sTun [], by decide +kernel, by decide +kernel, .inl rfl⟩⟩

theorem witness_CyclesAndStages :
    (∃ (s : State), comingBoundary s.m * 1000000 < 2 ^ 64) ∧
    (∃ (u : ApplyUnit), ∃ (st : Stage), ∃ (s : State), u ∈ [ApplyUnit.hob, .ingest, .learn, .vdrv, .flue, .fio, .lsw, .pwr] ∧
        stageOf s.m u = some st ∧ boundaryAfter s.m st.mt < 2 ^ 64) ∧
    (∃ (u : ApplyUnit), ∃ (ok : Stage → Bool), ∃ (r : Nat), ∃ (b : Nat), ∃ (st : Stage), ∃ (s : State), (u, ok, r, b) ∈ [(ApplyUnit.vdrv,
        vdrvStageOk, Reg.VDRV_INT_STATUS, 10), (.lsw, lswStageOk, Reg.LSW_INT_STATUS, 9), (.pwr, pwrStageOk, Reg.PWR_INT_STATUS, 9)] ∧
        stageOf s.m u = some st ∧ Sparse.wf resetOf st.regs = true ∧ (∀ e ∈ st.regs, unitOf e.1 = some u) ∧ boundaryAfter s.m st.mt < 2 ^ 64) ∧
    (∃ (u : ApplyUnit), ∃ (ok : Stage → Bool), ∃ (r : Nat), ∃ (b : Nat), ∃ (st : Stage), ∃ (s : State), (u, ok, r, b) ∈ [(ApplyUnit.vdrv,
        vdrvStageOk, Reg.VDRV_INT_STATUS, 10), (.lsw, lswStageOk, Reg.LSW_INT_STATUS, 9), (.pwr, pwrStageOk, Reg.PWR_INT_STATUS, 9)] ∧
        stageOf s.m u = some st ∧ Sparse.wf resetOf st.regs = true ∧ (∀ e ∈ st.regs, unitOf e.1 = some u) ∧ boundaryAfter s.m st.mt < 2 ^ 64) ∧
    (∃ (u : ApplyUnit), ∃ (ok : Stage → Bool), ∃ (r : Nat), ∃ (b : Nat), ∃ (st : Stage), ∃ (s : State), (u, ok, r, b) ∈ [(ApplyUnit.vdrv,
        vdrvStageOk, Reg.VDRV_INT_STATUS, 10), (.lsw, lswStageOk, Reg.LSW_INT_STATUS, 9), (.pwr, pwrStageOk, Reg.PWR_INT_STATUS, 9)] ∧
        stageOf s.m u = some st ∧ Sparse.wf resetOf st.regs = true ∧ (∀ e ∈ st.regs, unitOf e.1 = some u) ∧ boundaryAfter s.m st.mt < 2 ^ 64) :=
  ⟨⟨sIdle, by decide +kernel⟩,
    ⟨.pwr, stage0 .pwr, sStage .pwr, by decide +kernel⟩,
    ⟨.pwr, pwrStageOk, Reg.PWR_INT_STATUS, 9, stage0 .pwr, sStage .pwr, .tail _ (.tail _ (.head _)), by decide +kernel, by decide +kernel,
        by decide +kernel, by decide +kernel⟩,
    ⟨.lsw, lswStageOk, Reg.LSW_INT_STATUS, 9, stage0 .lsw, sStage .lsw, .tail _ (.head _), by decide +kernel, by decide +kernel, by decide +kernel,
        by decide +kernel⟩,
    ⟨.vdrv, vdrvStageOk, Reg.VDRV_INT_STATUS, 10, stage0 .vdrv, sStage .vdrv, .head _, by decide +kernel, by decide +kernel, by decide +kernel,
        by decide +kernel⟩⟩

theorem witness_ImageLoadsAndChecks :
    (∃ (slot : Slot), ∃ (l : Loaded), ∃ (s : State), s.m.grate.loader = .idle ∧ s.m.grate.candRunning = false ∧ checkImage
        (imageEnv s.m true) slot (slotOf s.m slot).image = .ok l) ∧
    (∃ (s : State), s.m.grate.loader = .idle ∧ s.m.grate.candRunning = false) ∧
    (∃ (s : State), s.m.grate.candRunning = true ∧ s.m.grate.waiting = none) :=
  ⟨⟨.b, imageGot (checked sImage.m .b), sImage, by decide +kernel, by decide +kernel, ok_of_imageOk (by decide +kernel : imageOk
        (checked sImage.m .b) = true)⟩,
    ⟨sIdle, by decide +kernel⟩,
    ⟨st fun m => { m with grate := { m.grate with candRunning := true } }, by decide +kernel⟩⟩

theorem witness_FailedLoadLeavesStructure :
    (∃ (slot : Slot), ∃ (sig : Bool), ∃ (rb : Bool), ∃ (f : LoadFail), ∃ (s : State), ((s.m.grate.loader ≠ .idle ∧ f = ⟨.busy, hdrRec, 0⟩) ∨
        (s.m.grate.loader = .idle ∧ s.m.grate.candRunning = false ∧ (checkImage (imageEnv s.m sig) slot (slotOf s.m slot).image = .error f ∨ ∃ l,
        checkImage (imageEnv s.m sig) slot (slotOf s.m slot).image = .ok l ∧ rb = false ∧ f = ⟨.readback, hdrRec, 0⟩)))) ∧
    (∃ (slot : Slot), ∃ (sig : Bool), ∃ (rb : Bool), ∃ (f : LoadFail), ∃ (s : State), ((s.m.grate.loader ≠ .idle ∧ f = ⟨.busy, hdrRec, 0⟩) ∨
        (s.m.grate.loader = .idle ∧ s.m.grate.candRunning = false ∧ (checkImage (imageEnv s.m sig) slot (slotOf s.m slot).image = .error f ∨ ∃ l,
        checkImage (imageEnv s.m sig) slot (slotOf s.m slot).image = .ok l ∧ rb = false ∧ f = ⟨.readback, hdrRec, 0⟩)))) ∧
    (∃ (slot : Slot), ∃ (sig : Bool), ∃ (rb : Bool), ∃ (f : LoadFail), ∃ (s : State), ((s.m.grate.loader ≠ .idle ∧ f = ⟨.busy, hdrRec, 0⟩) ∨
        (s.m.grate.loader = .idle ∧ s.m.grate.candRunning = false ∧ (checkImage (imageEnv s.m sig) slot (slotOf s.m slot).image = .error f ∨ ∃ l,
        checkImage (imageEnv s.m sig) slot (slotOf s.m slot).image = .ok l ∧ rb = false ∧ f = ⟨.readback, hdrRec, 0⟩)))) :=
  ⟨⟨.b, true, true, ⟨.busy, hdrRec, 0⟩, sSwap, .inl (by decide +kernel)⟩,
    ⟨.b, true, true, ⟨.magic, hdrRec, 0⟩, sIdle, .inr ⟨by decide +kernel, by decide +kernel, .inl rfl⟩⟩,
    ⟨.b, true, false, ⟨.readback, hdrRec, 0⟩, sImage, .inr ⟨by decide +kernel, by decide +kernel, .inr ⟨_, ok_of_imageOk
        (by decide +kernel : imageOk (checked sImage.m .b) = true), rfl, rfl⟩⟩⟩⟩

theorem witness_StructureSwaps :
    (∃ (l : Loaded), ∃ (s : State), s.m.grate.loader = .swapPending ∧ s.m.grate.staging = some l ∧ s.m.pwr.arm = .disarmed ∧ (s.m.sec.act = .idle ∨
        (s.m.sec.act = .pause ∧ s.m.sec.swapReady = true ∧ s.m.sec.b0 % 1000000 = 0)) ∧ swapBoundary s.m < 2 ^ 64) ∧
    (∃ (l : Loaded), ∃ (s : State), s.m.grate.loader = .swapPending ∧ s.m.grate.staging = some l ∧ s.m.pwr.arm = .disarmed ∧ (s.m.sec.act = .idle ∨
        (s.m.sec.act = .pause ∧ s.m.sec.swapReady = true ∧ s.m.sec.b0 % 1000000 = 0)) ∧ swapBoundary s.m < 2 ^ 64) :=
  ⟨⟨loaded0, sSwap, by decide +kernel⟩,
    ⟨loaded0, sSwapPause, by decide +kernel⟩⟩

theorem witness_CoresAndDebugPort :
    (∃ (ctx : Fin 8), ∃ (src : Fin 32), ∃ (s : State), bit (Arr.at' s.m.plic.enable ctx) src.val = true) ∧
    (∃ (h : Fin 4), ∃ (off : Nat), h.val ≠ 0 ∧ off % 4 = 0 ∧ off < viewLen) ∧
    (∃ (h : Fin 4), h.val ≠ 0) ∧
    (∃ (h : Fin 4), ∃ (src : Fin 32), h.val ≠ 0 ∧ src.val ≠ 0 ∧ firmwareSource src.val = false) ∧
    (∃ (h : Fin 4), h.val ≠ 0) :=
  ⟨⟨7, 31, st fun m => { m with plic := { m.plic with enable := Arr.put m.plic.enable 7 0x80000000 } }, by decide +kernel⟩,
    ⟨3, viewLen - 4, by decide +kernel⟩,
    ⟨3, by decide +kernel⟩,
    ⟨3, 31, by decide +kernel⟩,
    ⟨3, by decide +kernel⟩⟩

theorem witness_SessionLife :
    (∃ (tr : Transport), ∃ (n : Fin 8), ∃ (s : State), served s.m tr = true ∧ idleSession s.m = some n) ∧
    (∃ (tr : Transport), ∃ (n : Fin 8), ∃ (s : State), served s.m tr = true ∧ idleSession s.m = some n) ∧
    (∃ (n : Fin 8), ∃ (key : Nat), ∃ (priv : Bool), ∃ (s : State), (Arr.at' s.m.sess n).phase = .challenged ∧ credential s.m key = some priv) ∧
    (∃ (n : Fin 8), ∃ (s : State), (Arr.at' s.m.sess n).phase = .challenged ∧ cdiv
        ((Arr.at' s.m.sess n).since + 800000000) 1000000 * 1000000 < 2 ^ 64) ∧
    (∃ (c : Fin 8 → Instr), ∃ (n : Fin 8), ∃ (s : State), (c = .sessionClose ∨ c = .sessionInactivityTimeout) ∧ sessActive s.m n = true) ∧
    (∃ (c : Fin 8 → Instr), ∃ (n : Fin 8), ∃ (s : State), (c = .sessionClose ∨ c = .sessionInactivityTimeout) ∧ sessActive s.m n = true) ∧
    (∃ (tr : Transport), ∃ (s : State), tr ≠ .flue ∧ served s.m tr = true ∧ idleSession s.m = none) ∧
    (∃ (n : Fin 8), ∃ (key : Nat), ∃ (sig : Bool), ∃ (s : State), (Arr.at' s.m.sess n).phase = .challenged ∧ (credential s.m key = none ∨
        sig = false)) ∧
    (∃ (n : Fin 8), ∃ (key : Nat), ∃ (sig : Bool), ∃ (s : State), (Arr.at' s.m.sess n).phase = .challenged ∧ (credential s.m key = none ∨
        sig = false)) :=
  ⟨⟨.udp 3, 7, st fun m => withSess 7 SessSt.closed sBusy.m, by decide +kernel⟩,
    ⟨.usb, 0, sIdle, by decide +kernel⟩,
    ⟨7, 63, true, sChall, by decide +kernel⟩,
    ⟨7, sChall, by decide +kernel⟩,
    ⟨Instr.sessionClose, 7, sActive, .inl rfl, by decide +kernel⟩,
    ⟨Instr.sessionInactivityTimeout, 0, sActive, .inr rfl, by decide +kernel⟩,
    ⟨.usb, sBusy, by decide +kernel⟩,
    ⟨7, 62, true, sChall, by decide +kernel⟩,
    ⟨7, 63, false, sChall, by decide +kernel⟩⟩

theorem witness_RequestsExecuted :
    (∃ (n : Fin 8), ∃ (r : SessReq), ∃ (s : State), r.op = 1 ∧ newRequest s.m n r ∧ reqStatus s.m n r = .ok ∧
        (Arr.at' s.m.sess n).transport ≠ .flue) ∧
    (∃ (n : Fin 8), ∃ (r : SessReq), ∃ (w : Word), ∃ (d : RegDef), ∃ (ix : List Nat), ∃ (s : State), r.op = 2 ∧ r.data = [w] ∧ newRequest s.m n r ∧
        reqStatus s.m n r = .ok ∧ plainReg s.m r.view r.offset d ix) ∧
    (∃ (n : Fin 8), ∃ (r : SessReq), ∃ (mask : Word), ∃ (v : Word), ∃ (old : Word), ∃ (d : RegDef), ∃ (ix : List Nat), ∃ (s : State), r.op = 3 ∧
        r.data = [mask, v] ∧ newRequest s.m n r ∧ reqStatus s.m n r = .ok ∧ plainReg s.m r.view r.offset d ix ∧ old = (regRead
        (4 + n.val) r.view r.offset (heard s.m n)).1 ∧ (Arr.at' s.m.sess n).transport ≠ .flue) ∧
    (∃ (n : Fin 8), ∃ (r : SessReq), ∃ (x : Nat × List Byte), ∃ (s : State), r.op = 2 ∧ sessActive s.m n = true ∧
        (Arr.at' s.m.sess n).replies.find? (·.1 == r.seq) = some x ∧ (Arr.at' s.m.sess n).transport ≠ .flue) :=
  ⟨⟨7, ⟨1, true, 0, 1, 5, 0, 0, []⟩, sActive, by decide +kernel, ⟨by decide +kernel, by decide +kernel, fun _ h => Option.some.inj h ▸ by decide⟩,
        by decide +kernel, by decide +kernel⟩,
    ⟨7, ⟨2, true, 0, 1, 5, Reg.SYS_INT_EN, 0, [7#32]⟩, 7, dInt, [], sActive, by decide +kernel, by decide +kernel, ⟨by decide +kernel,
        by decide +kernel, fun _ h => Option.some.inj h ▸ by decide⟩, by decide +kernel, ⟨by decide +kernel, by decide +kernel, by decide +kernel,
        by decide +kernel, by decide +kernel, by decide +kernel, by decide +kernel, by decide +kernel, ⟨by decide, by decide, by decide⟩,
        fun _ _ => by simp [writeSpecial]⟩⟩,
    ⟨7, ⟨3, true, 0, 1, 5, Reg.SYS_INT_EN, 0, [1#32, 7#32]⟩, 1, 7, 0, dInt, [], sActive, by decide +kernel, by decide +kernel, ⟨by decide +kernel,
        by decide +kernel, fun _ h => Option.some.inj h ▸ by decide⟩, by decide +kernel, ⟨by decide +kernel, by decide +kernel, by decide +kernel,
        by decide +kernel, by decide +kernel, by decide +kernel, by decide +kernel, by decide +kernel, ⟨by decide, by decide, by decide⟩,
        fun _ _ => by simp [writeSpecial]⟩, by decide +kernel, by decide +kernel⟩,
    ⟨7, ⟨2, true, 0, 1, 4, Reg.SYS_INT_EN, 0, [7#32]⟩, (4, [1, 2]), sActive, by decide +kernel⟩⟩

theorem witness_AxisTakesUpdates :
    (∃ (n : Fin 15), ∃ (ts : Nat), ∃ (rec : AxisRec), ∃ (s : State), axisRec s.m n.val = some rec ∧ rec.source ∈ [AxisSource.enPulse, .enGate,
        .fiPulse] ∧ stageOf s.m (.axis n) = none ∧ (axisAt s.m n).fault = false ∧ s.m.mt < ts ∧ ts < 2 ^ 64 ∧ (axisAt s.m n).mtk < ts ∧
      let x := axisAt s.m n
      let d : Int := if rec.invert then -scaleQ (s.m.cfg (Reg.AXIS_AX_SCALE n.val)) else scaleQ (s.m.cfg (Reg.AXIS_AX_SCALE n.val))
      let y := axisOffset s.m n.val + (x.sum + d)
      let q := predictBy x.p x.v x.a (ts - x.mtk)
      outOfRange (axisWrap s.m n.val) y = false ∧ x.phase = .locked ∧ x.resync = .none ∧ (gateOf s.m n = 0 ∨ (absN (y - q) : Int) ≤ gateOf s.m n) ∧
        outOfRange (axisWrap s.m n.val) (q + rdiv (y - q) (2 ^ posShift s.m n)) = false) ∧
    (∃ (n : Fin 15), ∃ (ts : Nat), ∃ (rec : AxisRec), ∃ (s : State), axisRec s.m n.val = some rec ∧ rec.source ∈ [AxisSource.enPulse, .enGate,
        .fiPulse] ∧ stageOf s.m (.axis n) = none ∧ (axisAt s.m n).fault = false ∧ s.m.mt < ts ∧ ts < 2 ^ 64 ∧ (axisAt s.m n).mtk < ts ∧
      let x := axisAt s.m n
      let d : Int := if rec.invert then -scaleQ (s.m.cfg (Reg.AXIS_AX_SCALE n.val)) else scaleQ (s.m.cfg (Reg.AXIS_AX_SCALE n.val))
      let y := axisOffset s.m n.val + (x.sum + d)
      outOfRange (axisWrap s.m n.val) y = false ∧ x.phase = .acquire ∧ x.acq < 3) ∧
    (∃ (n : Fin 15), ∃ (ts : Nat), ∃ (rec : AxisRec), ∃ (s : State), axisRec s.m n.val = some rec ∧ rec.source ∈ [AxisSource.enPulse, .enGate,
        .fiPulse] ∧ stageOf s.m (.axis n) = none ∧ (axisAt s.m n).fault = false ∧ s.m.mt < ts ∧ ts < 2 ^ 64 ∧ (axisAt s.m n).mtk < ts ∧
      let x := axisAt s.m n
      let d : Int := if rec.invert then -scaleQ (s.m.cfg (Reg.AXIS_AX_SCALE n.val)) else scaleQ (s.m.cfg (Reg.AXIS_AX_SCALE n.val))
      let y := axisOffset s.m n.val + (x.sum + d)
      outOfRange (axisWrap s.m n.val) y = false ∧ x.phase = .acquire ∧ x.acq = 3 ∧ x.acqFirst.1 < ts) :=
  ⟨⟨0, 5000500, ⟨0, .enPulse, 0, 0xFF, 0, 0, true, false, 0, 16⟩, sAxes, by decide +kernel⟩,
    ⟨0, 5000001, ⟨0, .enPulse, 0, 0xFF, 0, 0, true, false, 0, 16⟩, sAcquire 2, by decide +kernel⟩,
    ⟨0, 5000001, ⟨0, .enPulse, 0, 0xFF, 0, 0, true, false, 0, 16⟩, sAcquire 3, by decide +kernel⟩⟩

theorem witness_AxisStatesAndServices :
    (∃ (n : Fin 15), ∃ (c : FaultCause), ∃ (src : AxisSource), ∃ (s : State), axisSrc s.m n.val = src ∧ (c, src) ∈ [(FaultCause.receiver,
        AxisSource.enQuad), (.receiver, .enPulse), (.receiver, .enGate), (.phase, .enQuad), (.phase, .fiQuad), (.barrier, .fiQuad), (.barrier,
        .fiPulse), (.epochs, .gnssPath), (.chainLost, .chain)] ∧ (axisAt s.m n).fault = false ∧ (axisAt s.m n).phase = .locked) ∧
    (∃ (n : Fin 15), ∃ (c : FaultCause), ∃ (src : AxisSource), ∃ (s : State), axisSrc s.m n.val = src ∧ (c, src) ∈ [(FaultCause.receiver,
        AxisSource.enQuad), (.receiver, .enPulse), (.receiver, .enGate), (.phase, .enQuad), (.phase, .fiQuad), (.barrier, .fiQuad), (.barrier,
        .fiPulse), (.epochs, .gnssPath), (.chainLost, .chain)] ∧ (axisAt s.m n).fault = false ∧ (axisAt s.m n).phase = .locked) ∧
    (∃ (n : Fin 15), ∃ (s : State), axisSrc s.m n.val = .chain ∧ (axisAt s.m n).phase ≠ .down) ∧
    (∃ (n : Fin 15), ∃ (s : State), (axisAt s.m n).fault = true ∧ (axisAt s.m n).selfClearing = false) ∧
    (∃ (n : Fin 15), ∃ (s : State), axisSrc s.m n.val = .blended ∧ (axisAt s.m n).phase = .locked ∧ (axisAt s.m n).gnssGap = false) ∧
    (∃ (n : Fin 15), ∃ (s : State), (axisAt s.m n).phase = .coast ∧ (axisAt s.m n).coastMt + s.m.cf
        (Reg.AXIS_AX_COAST n.val) 31 16 * 40000 < 2 ^ 64) ∧
    (∃ (n : Fin 15), ∃ (s : State), (axisAt s.m n).phase = .coast ∧ s.m.cfg (Reg.AXIS_AX_COAST_DIST n.val) ≠ 0 ∧ ((s.m.cfg
        (Reg.AXIS_AX_COAST_DIST n.val)).toNat : Int) * qOne ≤ absN ((predOf s.m n.val (axisAt s.m n)).atMt s.m.mt - (axisAt s.m n).coastP)) ∧
    (∃ (n : Fin 15), ∃ (s : State), axisWrap s.m n.val = 0 ∧ ((axisAt s.m n).phase = .locked ∨ (axisAt s.m n).phase = .coast) ∧ outOfRange 0
        (axisNow s.m n.val) = true) ∧
    (∃ (n : Fin 15), ∃ (s : State), ((axisAt s.m n).phase ≠ .down ∨ axisSrc s.m n.val ≠ .none)) ∧
    (∃ (n : Fin 15), ∃ (s : State), (axisAt s.m n).phase = .locked ∧ (axisAt s.m n).still = false ∧ s.m.cf (Reg.AXIS_AX_CFG n.val) 15 8 ≠ 0) ∧
    (∃ (n : Fin 15), ∃ (s : State), axisSrc s.m n.val ∈ [AxisSource.enQuad, .enPulse] ∧ s.m.cf (Reg.AXIS_AX_INDEX_CFG n.val) 31 30 = 1 ∧
        (axisAt s.m n).phase ≠ .down) ∧
    (∃ (n : Fin 15), ∃ (r : AxisRec), ∃ (s : State), axisRec s.m n.val = some r ∧ r.publish = true ∧ yieldsId s.m = false ∧ carries s.m 0 = true ∧
        carries s.m 1 = false) :=
  ⟨⟨1, .receiver, .enQuad, sAxes, by decide +kernel⟩,
    ⟨14, .chainLost, .chain, sAxes, by decide +kernel⟩,
    ⟨14, sAxes, by decide +kernel⟩,
    ⟨1, sFault, by decide +kernel⟩,
    ⟨3, sAxes, by decide +kernel⟩,
    ⟨0, sCoast, by decide +kernel⟩,
    ⟨0, sCoast, by decide +kernel⟩,
    ⟨0, sRange, by decide +kernel⟩,
    ⟨14, sAxes, by decide +kernel⟩,
    ⟨0, sStill, by decide +kernel⟩,
    ⟨0, sIndex, by decide +kernel⟩,
    ⟨0, ⟨0, .enPulse, 0, 0xFF, 0, 0, true, false, 0, 16⟩, sPublish, by decide +kernel⟩⟩

theorem witness_BatchAccepted :
    ∃ (p : Fin 4), ∃ (f : EthFrame), ∃ (e : Encap), ∃ (rec : RingRec), ∃ (s : State), batchEncap s.m p f = some e ∧
        bufferFull s.m p.val f.payload.length = false ∧
      let a := senderOf p e f
      let h := batchHdr f.payload
      let r := s.m.ringAt h.ring
      formatOk s.m a f.payload = true ∧ h.ring < 64 ∧ ringRec s.m h.ring = some rec ∧ tb rec.ports p.val = true ∧ s.m.sec.act ≠ .pause ∧
        (h.fwd = true → h.dest = nodeId s.m) ∧ r.phase = .open ∧ r.epoch = h.epoch ∧ h.count ≠ 0 ∧ h.bseq = r.ackBseq + 1 ∧ h.firstEv = r.ackEv ∧
        after (h.firstEv + w32 h.count) r.evLimit = false ∧ claimOk s.m h.ring h.count = true :=
  ⟨3, frame0 63, .ethertype, ⟨63, 31, 511, 0xFFFF, true, 3⟩, sBatch 63, by decide +kernel⟩

theorem witness_EventsTakenInTurn :
    (∃ (c : Instr), ∃ (code : Nat), ∃ (op : EvOp), ∃ (n : Fin 64), ∃ (u : Unchecked), ∃ (rest : List Unchecked), ∃ (s : State), (c, code,
        op) ∈ [(Instr.fire, 0x10, EvOp.fire), (.openEv, 0x11, .open), (.closeEv, 0x12, .close), (.level, 0x20, .level), (.setpt, 0x21, .setpt),
        (.mark, 0x30, .mark)] ∧ noteRoom s.m = true ∧ nextRing s.m = some n ∧ (s.m.ringAt n.val).unchecked = u :: rest ∧ byteAt u.bytes 0 = code ∧
        fifoFill s.m < fifoSlots ∧ checkFault s.m n.val (rawOf u.bytes) = none) ∧
    (∃ (c : Instr), ∃ (code : Nat), ∃ (op : EvOp), ∃ (n : Fin 64), ∃ (u : Unchecked), ∃ (rest : List Unchecked), ∃ (s : State), (c, code,
        op) ∈ [(Instr.fire, 0x10, EvOp.fire), (.openEv, 0x11, .open), (.closeEv, 0x12, .close), (.level, 0x20, .level), (.setpt, 0x21, .setpt),
        (.mark, 0x30, .mark)] ∧ noteRoom s.m = true ∧ nextRing s.m = some n ∧ (s.m.ringAt n.val).unchecked = u :: rest ∧ byteAt u.bytes 0 = code ∧
        fifoFill s.m < fifoSlots ∧ checkFault s.m n.val (rawOf u.bytes) = none) ∧
    (∃ (c : Instr), ∃ (code : Nat), ∃ (op : EvOp), ∃ (n : Fin 64), ∃ (u : Unchecked), ∃ (rest : List Unchecked), ∃ (s : State), ∃ r, (c, code,
        op) ∈ [(Instr.fire, 0x10, EvOp.fire), (.openEv, 0x11, .open), (.closeEv, 0x12, .close), (.level, 0x20, .level), (.setpt, 0x21, .setpt),
        (.mark, 0x30, .mark)] ∧ noteRoom s.m = true ∧ nextRing s.m = some n ∧ (s.m.ringAt n.val).unchecked = u :: rest ∧ byteAt u.bytes 0 = code ∧
        fifoFill s.m < fifoSlots ∧ checkFault s.m n.val (rawOf u.bytes) = some r) ∧
    (∃ (n : Fin 64), ∃ (u : Unchecked), ∃ (rest : List Unchecked), ∃ (s : State), noteRoom s.m = true ∧ nextRing s.m = some n ∧
        (s.m.ringAt n.val).unchecked = u :: rest ∧ fifoFill s.m < fifoSlots ∧ checkFault s.m n.val (rawOf u.bytes) = none ∧
        byteAt u.bytes 0 = 0x40) ∧
    (∃ (n : Fin 64), ∃ (u : Unchecked), ∃ (rest : List Unchecked), ∃ (s : State), ∃ x, noteRoom s.m = true ∧ nextRing s.m = some n ∧
        (s.m.ringAt n.val).unchecked = u :: rest ∧ fifoFill s.m < fifoSlots ∧ checkFault s.m n.val (rawOf u.bytes) = none ∧
        byteAt u.bytes 0 = 0x41 ∧ replaceMatch s.m n.val (rawOf u.bytes) = some (.pending x) ∧ axisReady s.m (rawOf u.bytes).axis = false) ∧
    (∃ (n : Fin 64), ∃ (u : Unchecked), ∃ (rest : List Unchecked), ∃ (s : State), noteRoom s.m = true ∧ nextRing s.m = some n ∧
        (s.m.ringAt n.val).unchecked = u :: rest ∧ fifoFill s.m < fifoSlots ∧ checkFault s.m n.val (rawOf u.bytes) = none ∧
        byteAt u.bytes 0 = 0x50 ∧ fenceFull s.m n.val (rawOf u.bytes) = false) :=
  ⟨⟨.mark, 0x30, .mark, 63, unch (evBytes 0x30 1 4096 7 256 0), [], sNext (evBytes 0x30 1 4096 7 256 0), by decide +kernel⟩,
    ⟨.fire, 0x10, .fire, 63, unch (evBytes 0x10 1 0 7 256 1000), [], sNext (evBytes 0x10 1 0 7 256 1000), by decide +kernel⟩,
    ⟨.mark, 0x30, .mark, 63, unch (evBytes 0x30 1 0 7 256 0), [], sNext (evBytes 0x30 1 0 7 256 0), 3, by decide +kernel⟩,
    ⟨63, unch (evBytes 0x40 0 4096 7 0 0), [], sReach (evBytes 0x40 0 4096 7 0 0), by decide +kernel⟩,
    ⟨63, unch (evBytes 0x41 1 4096 7 512 0), [], sReach (evBytes 0x41 1 4096 7 512 0), ev0, by decide +kernel⟩,
    ⟨63, unch (evBytes 0x50 0 4096 7 0 0), [], sReach (evBytes 0x50 0 4096 7 0 0), by decide +kernel⟩⟩

theorem witness_EventsReachTheirEdges :
    (∃ (e : EvRec), ∃ (s : State), s.m.hob.events.find? (·.place == .fifo) = some e ∧ (∀ x ∈ s.m.hob.events, x.acc < s.m.hob.nextAcc)) ∧
    (∃ (n : Fin 15), ∃ (s : State), axisReady s.m n.val = true) ∧
    (∃ (n : Fin 15), ∃ (s : State), axisReady s.m n.val = true) ∧
    (∃ (n : Fin 15), ∃ (s : State), 128 ≤ absN (bucketAt s.m n.val (axisNow s.m n.val) - (axisAt s.m n).sweepBucket)) ∧
    (∃ (t0 : Nat), ∃ (e : EvRec), ∃ (τ : Int), ∃ (k : Fin 256), ∃ (s : State), nextCommitMt s.m = some t0 ∧
      let m := (s.m.advanceTo t0).enterPhase 5
      m.time.commits < 2 ∧ nextCommit m = some e ∧ timeOf m e = some τ ∧ targetIx e.chan = some k ∧
      let e1 := τ - ((firstDelay m e).1 : Int)
      let dist := e.op == .fire && tb e.arg 31
      commitFault m e e1 (if dist then (timeOfDistance m e).isSome else true) = none ∧ (∀ x ∈ s.m.hob.events, x.acc < s.m.hob.nextAcc)) ∧
    (∃ (k : Fin 256), ∃ (τ : Nat), ∃ (s : State), firstEdge s.m 0 160 = some (k.val, τ) ∧ s.m.mt < τ ∧ τ < 2 ^ 64) ∧
    (∃ (k : Fin 256), ∃ (τ : Nat), ∃ (s : State), firstEdge s.m 0 160 = some (k.val, τ) ∧ s.m.mt < τ ∧ τ < 2 ^ 64) ∧
    (∃ (k : Fin 256), ∃ (τ : Nat), ∃ (s : State), firstEdge s.m 192 64 = some (k.val, τ) ∧ s.m.mt < τ ∧ τ < 2 ^ 64) :=
  ⟨⟨{ ev0 with place := .fifo }, sFifo, by decide +kernel⟩,
    ⟨0, sAxes, by decide +kernel⟩,
    ⟨14, sAxes, by decide +kernel⟩,
    ⟨0, sSweep, by decide +kernel⟩,
    ⟨5920000, { ev0 with axis := 15, target := 256 * 6000000, place := .hob }, 6000000, 192, sCommit, by decide +kernel⟩,
    ⟨0, 6000000, sEdge 0 .on, by decide +kernel⟩,
    ⟨159, 6000000, sEdge 159 .on, by decide +kernel⟩,
    ⟨255, 6000000, sEdge 255 .mark, by decide +kernel⟩⟩

theorem witness_RingsAndPorts :
    (∃ (n : Fin 64), ∃ (a : NoteAddr), ∃ (p : Fin 4), ∃ (x : StreamNote), ∃ (xs : List StreamNote), ∃ (s : State),
        (s.m.ringAt n.val).addr = some a ∧ a.port = p.val ∧ ((s.m.ringAt n.val).notes.filter (·.sent.isNone)) = x :: xs) ∧
    (∃ (n : Fin 64), ∃ (a : NoteAddr), ∃ (s : State), (s.m.ringAt n.val).addr = some a ∧ (s.m.ringAt n.val).notes.any (·.sent.isSome) = true) ∧
    (∃ (s : State), s.m.ingest.lastUpdate + usT (s.m.cf Reg.INGEST_TIMING 15 0) < 2 ^ 64) ∧
    (∃ (n : Fin 64), ∃ (s : State), (s.m.ringAt n.val).phase = .open) ∧
    (∃ (n : Fin 64), ∃ (s : State), (s.m.ringAt n.val).notes ≠ []) ∧
    (∃ (p : Fin 4), ∃ (target : Nat), ∃ (s : State), s.m.cb (Reg.INGEST_PORT_CFG p.val) 31 = true ∧ ownIp s.m p target = true) ∧
    (∃ (p : Fin 4), ∃ (dst : Nat), ∃ (s : State), s.m.cb (Reg.INGEST_PORT_CFG p.val) 31 = true ∧ ownIp s.m p dst = true) ∧
    (∃ (p : Fin 4), ∃ (f : EthFrame), ∃ (s : State), batchEncap s.m p f = none) ∧
    (∃ (p : Fin 4), ∃ (s : State), s.m.cb (Reg.INGEST_PORT_CFG p.val) 31 = true ∧ (netPort s.m p).link = false) ∧
    (∃ (p : Fin 4), ∃ (s : State), (netPort s.m p).link = true) :=
  ⟨⟨63, addr0, 1, note0 false, [], sNotes false, by decide +kernel⟩,
    ⟨63, addr0, sNotes true, by decide +kernel⟩,
    ⟨sIdle, by decide +kernel⟩,
    ⟨63, sNotes true, by decide +kernel⟩,
    ⟨63, sNotes true, by decide +kernel⟩,
    ⟨3, linkLocal 0x42, sPort true, by decide +kernel⟩,
    ⟨3, linkLocal 0x42, sPort true, by decide +kernel⟩,
    ⟨3, { frame0 63 with fcsOk := false }, sBatch 63, by decide +kernel⟩,
    ⟨3, sPort false, by decide +kernel⟩,
    ⟨3, sPort true, by decide +kernel⟩⟩

theorem witness_MeasurementsLearned :
    (∃ (k : Fin 128), ∃ (t0 : Nat), ∃ (s : State),
      let h := homeVc s.m k
      let l := learnCh s.m h
      l.openMeas = some t0 ∧ l.phase ≠ .none) ∧
    (∃ (k : Fin 128), ∃ (t0 : Nat), ∃ (s : State),
      let h := homeVc s.m k
      let l := learnCh s.m h
      l.closeMeas = some t0 ∧ l.phase ≠ .none) :=
  ⟨⟨127, 4900000, sMeas false, by decide +kernel⟩,
    ⟨127, 4900000, sMeas false, by decide +kernel⟩⟩

theorem witness_FrozenLearningOnlyReports :
    (∃ (k : Fin 128), ∃ (t0 : Nat), ∃ (s : State),
      let h := homeVc s.m k
      (learnCh s.m h).openMeas = some t0 ∧ (learnCh s.m h).phase ≠ .none ∧ s.m.cb (Reg.LEARN_CH_CFG h) 8 = true) ∧
    (∃ (k : Fin 128), ∃ (t0 : Nat), ∃ (s : State),
      let h := homeVc s.m k
      (learnCh s.m h).closeMeas = some t0 ∧ (learnCh s.m h).phase ≠ .none ∧ s.m.cb (Reg.LEARN_CH_CFG h) 8 = true) :=
  ⟨⟨127, 4900000, sMeas true, by decide +kernel⟩,
    ⟨127, 4900000, sMeas true, by decide +kernel⟩⟩

theorem witness_FingerprintsAndProbes :
    (∃ (k : Fin 128), ∃ (s : State),
      let h := homeVc s.m k
      let l := learnCh s.m h
      l.phase ≠ .none ∧ l.phase ≠ .pair) ∧
    (∃ (b : Fin 16), ∃ (s : State), s.m.pwr.arm = .arming ∧ (∃ k ∈ s.m.pwr.probes, k.val / 8 = b.val)) ∧
    (∃ (b : Fin 16), ∃ (s : State), s.m.pwr.arm = .arming ∧ (∃ k ∈ s.m.pwr.probes, k.val / 8 = b.val)) :=
  ⟨⟨127, sMeas false, by decide +kernel⟩,
    ⟨15, sArming, by decide +kernel⟩,
    ⟨0, sArming, by decide +kernel⟩⟩

theorem witness_LearningKept :
    (∃ (s : State), (∃ k < 128, (learnCh s.m k).changed = true ∨ (learnCh s.m k).erase = true)) ∧
    (∃ (k : Fin 128), ∃ (s : State),
      let h := homeVc s.m k
      (learnCh s.m h).phase ∈ [LearnPhase.cold, .warm, .pending]) ∧
    (∃ (k : Fin 128), ∃ (s : State),
      let h := homeVc s.m k
      (learnCh s.m h).phase ∈ [LearnPhase.cold, .warm, .pending]) ∧
    (∃ (k : Fin 128), ∃ (s : State),
      let h := homeVc s.m k
      (learnCh s.m h).phase ∈ [LearnPhase.cold, .warm, .pending]) ∧
    (∃ (k : Fin 128), ∃ (s : State),
      let h := homeVc s.m k
      (learnCh s.m h).phase ∈ [LearnPhase.cold, .warm, .pending]) :=
  ⟨⟨sLearn .cold, by decide +kernel⟩,
    ⟨0, sLearn .pending, by decide +kernel⟩,
    ⟨127, sMeas false, by decide +kernel⟩,
    ⟨0, sLearn .pending, by decide +kernel⟩,
    ⟨127, sMeas false, by decide +kernel⟩⟩

theorem witness_ValvePhases :
    (∃ (k : Fin 128), ∃ (s : State),
      let h := homeVc s.m k
      let x := vc s.m h
      let until_ := x.boostStart + x.lat.boostT * 200 + usT x.lat.peakT
      x.phase = .boost ∧ x.lat.peakT ≠ 0 ∧ s.m.mt + 1 < until_) ∧
    (∃ (k : Fin 128), ∃ (s : State),
      let h := homeVc s.m k
      let x := vc s.m h
      x.phase = .peak) ∧
    (∃ (k : Fin 128), ∃ (s : State),
      let h := homeVc s.m k
      (vc s.m h).phase = .decay ∧ (vc s.m h).startWait ≠ .decayFull) ∧
    (∃ (b : Fin 16), ∃ (rail : Nat), ∃ (k : Nat), ∃ (ma : Nat), ∃ (lim : Bool), ∃ (s : State), longestWait s.m b.val = some k ∧
        (bankSt s.m b.val).owner = none ∧ vminBoost s.m (b.val / 8) ≤ rail ∧ supplyWarn s.m (b.val / 8) = false ∧ (takeOn s.m k
        (vc s.m k).lat).1 = some (ma, lim)) ∧
    (∃ (k : Fin 128), ∃ (s : State),
      let h := homeVc s.m k
      let x := vc s.m h
      x.phase = .wait ∧ x.lat.busyReject = true ∧ x.claims ≠ []) ∧
    (∃ (k : Fin 128), ∃ (s : State),
      let h := homeVc s.m k
      let x := vc s.m h
      x.phase = .wait ∧ x.lat.busyReject = false ∧ 0 < x.lat.boostT ∧ (takeOn s.m h x.lat).1 ≠ none) ∧
    (∃ (k : Fin 128), ∃ (g : Nat), ∃ (s : State),
      let h := homeVc s.m k
      let x := vc s.m h
      let p := latchProfile s.m h
      x.startWait = .gap g ∧ x.phase = .idle ∧ (profOf s.m p).boostT = 0 ∧ (profOf s.m p).peakT ≠ 0 ∧ (takeOn s.m h (profOf s.m p)).1 ≠ none) ∧
    (∃ (k : Fin 128), ∃ (g : Nat), ∃ (s : State),
      let h := homeVc s.m k
      let x := vc s.m h
      x.startWait = .reopen g ∧ x.phase = .decay ∧ x.lat.peakT ≠ 0 ∧ (takeOn s.m h x.lat).1 ≠ none) :=
  ⟨⟨127, sBoost, by decide +kernel⟩,
    ⟨127, sValve (vcIn .peak), by decide +kernel⟩,
    ⟨127, sValve (vcIn .decay), by decide +kernel⟩,
    ⟨15, 60000, 126, 200, false, sWait true, by decide +kernel⟩,
    ⟨127, sWait true, by decide +kernel⟩,
    ⟨127, sWait false, by decide +kernel⟩,
    ⟨0, 5000010, sGap, by decide +kernel⟩,
    ⟨127, 5000010, sReopen, by decide +kernel⟩⟩

theorem witness_NozzlePwmAndDuty :
    (∃ (k : Fin 128), ∃ (s : State),
      let h := homeVc s.m k
      let x := vc s.m h
      let p := profOf s.m x.levelProf
      x.pwmRun = true ∧ x.pulse = false ∧ x.claims = [] ∧ p.pwm = true) ∧
    (∃ (k : Fin 128), ∃ (s : State),
      let h := homeVc s.m k
      let x := vc s.m h
      x.pulse = true ∧ x.pulseEnd ≠ 0 ∧ x.claims = [] ∧ x.phase.drives = true) ∧
    (∃ (k : Fin 128), ∃ (s : State),
      let h := homeVc s.m k
      (vc s.m h).phase.drives = true ∧ (vc s.m h).lat.dutyMax < 100) ∧
    (∃ (k : Fin 128), ∃ (s : State),
      let h := homeVc s.m k
      (vc s.m h).dutyCut = true ∧ (vc s.m h).phase.drives = false) ∧
    (∃ (s : State), (s.m.mt / 4000 + 1) * 4000 < 2 ^ 64) :=
  ⟨⟨0, sPwm, by decide +kernel⟩,
    ⟨127, sPulse, by decide +kernel⟩,
    ⟨127, sBoost, by decide +kernel⟩,
    ⟨127, sCut, by decide +kernel⟩,
    ⟨sIdle, by decide +kernel⟩⟩

theorem witness_ValveFaultsLatch :
    (∃ (k : Fin 128), ∃ (s : State),
      let h := homeVc s.m k
      ((vc s.m h).phase = .boost ∨ (vc s.m h).phase = .peak ∨ (vc s.m h).phase = .hold)) ∧
    (∃ (k : Fin 128), ∃ (s : State),
      let h := homeVc s.m k
      (vc s.m h).phase ≠ .fault) ∧
    (∃ (i : Fin 2), ∃ (s : State), (half s.m i.val).dieOt = false) ∧
    (∃ (k : Fin 128), ∃ (mask : Word), ∃ (s : State),
      let h := homeVc s.m k
      (vc s.m h).phase = .fault ∧ (∀ b, 1 ≤ b → b ≤ 5 → bit mask b = true) ∧ (half s.m (halfOf h)).dieOt = false ∧ limpGoverns s.m h = false) ∧
    (∃ (k : Fin 128), ∃ (s : State),
      let h := homeVc s.m k
      (vc s.m h).phase = .fault ∧ (half s.m (halfOf h)).dieOt = true ∧ bit (s.m.rd (Reg.VDRV_CH_FAULT h)) 3 = true) :=
  ⟨⟨127, sBoost, by decide +kernel⟩,
    ⟨127, sBoost, by decide +kernel⟩,
    ⟨1, sHalf half0, by decide +kernel⟩,
    ⟨0, 0x3E, sLatched false, by decide +kernel, fun b h1 h5 => by
      have h : b = 1 ∨ b = 2 ∨ b = 3 ∨ b = 4 ∨ b = 5 := by omega
      rcases h with rfl | rfl | rfl | rfl | rfl <;> decide, by decide +kernel, by decide +kernel⟩,
    ⟨0, sLatched true, by decide +kernel⟩⟩

theorem witness_ValveSuppliesAndPolicies :
    (∃ (i : Fin 2), ∃ (mv : Nat), ∃ (s : State), mv < s.m.cf (Reg.VDRV_SUP_WARN i.val) 8 0 * 100 ∧ (half s.m i.val).vsolWarn = false) ∧
    (∃ (i : Fin 2), ∃ (mv : Nat), ∃ (s : State), s.m.cf (Reg.VDRV_SUP_WARN i.val) 8 0 * 100 + 500 ≤ mv ∧ (half s.m i.val).vsolWarn = true) ∧
    (∃ (i : Fin 2), ∃ (s : State), (half s.m i.val).reduced = true ∧ supplyWarn s.m i.val = false ∧ (half s.m i.val).okSince + msTicks < 2 ^ 64) ∧
    (∃ (i : Fin 2), ∃ (mv : Nat), ∃ (s : State), mv < 6000 ∧ (half s.m i.val).uv = false) ∧
    (∃ (mv : Nat), 7000 ≤ mv) ∧
    (∃ (i : Fin 2), ∃ (mv : Nat), ∃ (s : State), 69000 < mv ∧ (half s.m i.val).ov = false) ∧
    (∃ (i : Fin 2), ∃ (mv : Nat), ∃ (s : State), mv < vminBoost s.m i.val ∧ (half s.m i.val).run = true ∧ (half s.m i.val).low = false) ∧
    (∃ (i : Fin 2), ∃ (mv : Nat), ∃ (s : State), vset s.m i.val + 3000 ≤ mv) ∧
    (∃ (i : Fin 2), ∃ (mv : Nat), ∃ (s : State), mv < vset s.m i.val + 2000) ∧
    (∃ (i : Fin 2), ∃ (v : Nat), ∃ (s : State), bwMayRun (s.m.updHalf i.val fun h => { h with vsol := v }) i.val = true) ∧
    (∃ (i : Fin 2), ∃ (v : Nat), ∃ (s : State), bwMayRun (s.m.updHalf i.val fun h => { h with vsol := v }) i.val = false) ∧
    (∃ (c : Nat), ∃ (r : Nat), ∃ (b : Nat), ∃ (s : State), ((c ≤ 127 ∧ r = Reg.VDRV_INT_STATUS ∧ b = 11) ∨ (256 ≤ c ∧ c ≤ 271 ∧
        r = Reg.LSW_INT_STATUS ∧ b = 8) ∨ (512 ≤ c ∧ c ≤ 527 ∧ r = Reg.FIO_INT_STATUS ∧ b = 7)) ∧ (policyFor s.m c).lock = false) ∧
    (∃ (c : Nat), ∃ (r : Nat), ∃ (b : Nat), ∃ (s : State), ((c ≤ 127 ∧ r = Reg.VDRV_INT_STATUS ∧ b = 11) ∨ (256 ≤ c ∧ c ≤ 271 ∧
        r = Reg.LSW_INT_STATUS ∧ b = 8) ∨ (512 ≤ c ∧ c ≤ 527 ∧ r = Reg.FIO_INT_STATUS ∧ b = 7)) ∧ (policyFor s.m c).lock = false) ∧
    (∃ (c : Nat), ∃ (r : Nat), ∃ (b : Nat), ∃ (s : State), ((c ≤ 127 ∧ r = Reg.VDRV_INT_STATUS ∧ b = 11) ∨ (256 ≤ c ∧ c ≤ 271 ∧
        r = Reg.LSW_INT_STATUS ∧ b = 8) ∨ (512 ≤ c ∧ c ≤ 527 ∧ r = Reg.FIO_INT_STATUS ∧ b = 7)) ∧ (policyFor s.m c).lock = false) ∧
    (∃ (c : Nat), ∃ (r : Nat), ∃ (b : Nat), ∃ (s : State), ((c ≤ 127 ∧ r = Reg.VDRV_INT_STATUS ∧ b = 11) ∨ (256 ≤ c ∧ c ≤ 271 ∧
        r = Reg.LSW_INT_STATUS ∧ b = 8) ∨ (512 ≤ c ∧ c ≤ 527 ∧ r = Reg.FIO_INT_STATUS ∧ b = 7)) ∧ (policyFor s.m c).lock = false) ∧
    (∃ (c : Nat), ∃ (r : Nat), ∃ (b : Nat), ∃ (s : State), ((c ≤ 127 ∧ r = Reg.VDRV_INT_STATUS ∧ b = 11) ∨ (256 ≤ c ∧ c ≤ 271 ∧
        r = Reg.LSW_INT_STATUS ∧ b = 8) ∨ (512 ≤ c ∧ c ≤ 527 ∧ r = Reg.FIO_INT_STATUS ∧ b = 7)) ∧ (policyFor s.m c).lock = false) ∧
    (∃ (c : Nat), ∃ (r : Nat), ∃ (b : Nat), ∃ (s : State), ((c ≤ 127 ∧ r = Reg.VDRV_INT_STATUS ∧ b = 11) ∨ (256 ≤ c ∧ c ≤ 271 ∧
        r = Reg.LSW_INT_STATUS ∧ b = 8) ∨ (512 ≤ c ∧ c ≤ 527 ∧ r = Reg.FIO_INT_STATUS ∧ b = 7)) ∧ (policyFor s.m c).lock = true) ∧
    (∃ (c : Nat), ∃ (r : Nat), ∃ (b : Nat), ∃ (s : State), ((c ≤ 127 ∧ r = Reg.VDRV_INT_STATUS ∧ b = 11) ∨ (256 ≤ c ∧ c ≤ 271 ∧
        r = Reg.LSW_INT_STATUS ∧ b = 8) ∨ (512 ≤ c ∧ c ≤ 527 ∧ r = Reg.FIO_INT_STATUS ∧ b = 7)) ∧ (policyFor s.m c).lock = true) ∧
    (∃ (c : Nat), ∃ (r : Nat), ∃ (b : Nat), ∃ (s : State), ((c ≤ 127 ∧ r = Reg.VDRV_INT_STATUS ∧ b = 11) ∨ (256 ≤ c ∧ c ≤ 271 ∧
        r = Reg.LSW_INT_STATUS ∧ b = 8) ∨ (512 ≤ c ∧ c ≤ 527 ∧ r = Reg.FIO_INT_STATUS ∧ b = 7)) ∧ (policyFor s.m c).lock = true) ∧
    (∃ (c : Nat), ∃ (r : Nat), ∃ (b : Nat), ∃ (s : State), ((c ≤ 127 ∧ r = Reg.VDRV_INT_STATUS ∧ b = 11) ∨ (256 ≤ c ∧ c ≤ 271 ∧
        r = Reg.LSW_INT_STATUS ∧ b = 8) ∨ (512 ≤ c ∧ c ≤ 527 ∧ r = Reg.FIO_INT_STATUS ∧ b = 7)) ∧ (policyFor s.m c).lock = true) ∧
    (∃ (c : Nat), ∃ (r : Nat), ∃ (b : Nat), ∃ (s : State), ((c ≤ 127 ∧ r = Reg.VDRV_INT_STATUS ∧ b = 11) ∨ (256 ≤ c ∧ c ≤ 271 ∧
        r = Reg.LSW_INT_STATUS ∧ b = 8) ∨ (512 ≤ c ∧ c ≤ 527 ∧ r = Reg.FIO_INT_STATUS ∧ b = 7)) ∧ (policyFor s.m c).lock = true) ∧
    (∃ (c : Nat), ∃ (s : State), c ≤ 127 ∧ (vc s.m c).phase = .held) ∧
    (∃ (c : Nat), ∃ (s : State), c ≤ 127 ∧ (vc s.m c).phase = .held) ∧
    (∃ (n : Fin 16), ∃ (u : Nat), ∃ (s : State), (ls s.m n).heldUntil = some u) ∧
    (∃ (n : Fin 16), ∃ (u : Nat), ∃ (s : State), (fo s.m n).heldUntil = some u) :=
  ⟨⟨1, 0, sHalf half0, by decide +kernel⟩,
    ⟨1, 60000, sHalf { half0 with vsolWarn := true }, by decide +kernel⟩,
    ⟨1, sHalf { half0 with reduced := true }, by decide +kernel⟩,
    ⟨1, 5999, sHalf half0, by decide +kernel⟩,
    ⟨7000, by decide +kernel⟩,
    ⟨1, 69001, sHalf half0, by decide +kernel⟩,
    ⟨1, 0, sHalf half0, by decide +kernel⟩,
    ⟨1, 69000, sHalf half0, by decide +kernel⟩,
    ⟨1, 0, sHalf half0, by decide +kernel⟩,
    ⟨1, 24000, sHalf half0, by decide +kernel⟩,
    ⟨1, 0, sHalf half0, by decide +kernel⟩,
    ⟨127, Reg.VDRV_INT_STATUS, 11, sIdle, .inl (by decide), by decide +kernel⟩,
    ⟨256, Reg.LSW_INT_STATUS, 8, sIdle, .inr (.inl (by decide)), by decide +kernel⟩,
    ⟨271, Reg.LSW_INT_STATUS, 8, sIdle, .inr (.inl (by decide)), by decide +kernel⟩,
    ⟨512, Reg.FIO_INT_STATUS, 7, sIdle, .inr (.inr (by decide)), by decide +kernel⟩,
    ⟨527, Reg.FIO_INT_STATUS, 7, sIdle, .inr (.inr (by decide)), by decide +kernel⟩,
    ⟨127, Reg.VDRV_INT_STATUS, 11, sLocked, .inl (by decide), by decide +kernel⟩,
    ⟨256, Reg.LSW_INT_STATUS, 8, sLocked, .inr (.inl (by decide)), by decide +kernel⟩,
    ⟨271, Reg.LSW_INT_STATUS, 8, sLocked, .inr (.inl (by decide)), by decide +kernel⟩,
    ⟨512, Reg.FIO_INT_STATUS, 7, sLocked, .inr (.inr (by decide)), by decide +kernel⟩,
    ⟨527, Reg.FIO_INT_STATUS, 7, sLocked, .inr (.inr (by decide)), by decide +kernel⟩,
    ⟨127, sHeldOut, by decide +kernel⟩,
    ⟨0, sHeldOut, by decide +kernel⟩,
    ⟨15, 6000000, sHeldOut, by decide +kernel⟩,
    ⟨15, 6000000, sHeldOut, by decide +kernel⟩⟩

theorem witness_LoopsRunAndServe :
    (∃ (τ : Nat), ∃ (l : LoopRec), ∃ (s : State), nextLoopMt s.m = some τ ∧ τ + 800 < 2 ^ 64 ∧ l ∈ dueLoops s.m τ ∧ l.loop < 32 ∧
        (∀ x ∈ dueLoops s.m τ, x.loop = l.loop → x = l)) ∧
    (∃ (n : Fin 32), ∃ (s : State), (s.m.recs.loopAt n.val).isSome = true ∧ (feederOf s.m n.val).isNone = true) ∧
    (∃ (n : Fin 32), ∃ (s : State), (s.m.recs.loopAt n.val).isSome = true ∧ (feederOf s.m n.val).isSome = true) ∧
    (∃ (n : Fin 32), ∃ (s : State), (s.m.recs.loopAt n.val).isSome = true) ∧
    (∃ (s : State), (s.m.loops.trace = .idle ∨ s.m.loops.trace = .done)) ∧
    (∃ (s : State), (s.m.loops.trace = .idle ∨ s.m.loops.trace = .done)) ∧
    (∃ (s : State), (s.m.loops.trace = .armed ∨ s.m.loops.trace = .triggered)) ∧
    (∃ (s : State), (s.m.loops.trace = .armed ∨ s.m.loops.trace = .triggered)) ∧
    (∃ (s : State), s.m.loops.inj ≠ .running ∧ 0 < injLength s.m ∧ injLength s.m ≤ 16384) ∧
    (∃ (s : State), s.m.loops.inj = .running) ∧
    (∃ (n : Fin 32), ∃ (s : State), (s.m.recs.loopAt n.val).isSome = true) :=
  ⟨⟨5200000, ⟨31, .software, 0, .none, 0, 1⟩, sLoops, by decide +kernel⟩,
    ⟨31, sLoops, by decide +kernel⟩,
    ⟨2, sLoops, by decide +kernel⟩,
    ⟨31, sLoops, by decide +kernel⟩,
    ⟨sTrace .idle, by decide +kernel⟩,
    ⟨sTrace .done, by decide +kernel⟩,
    ⟨sTrace .armed, by decide +kernel⟩,
    ⟨sTrace .triggered, by decide +kernel⟩,
    ⟨sInj .idle, by decide +kernel⟩,
    ⟨sInj .running, by decide +kernel⟩,
    ⟨31, sLoops, by decide +kernel⟩⟩

theorem witness_TilesMove :
    (∃ (layer : Fin 4), ∃ (s : State), ∃ t0, (coverRec s.m).isSome = true ∧ layer.val ≠ 3 ∧
      let key := cmdKey s.m layer.val
      let x := tileAddr s.m
      s.m.cover.job = .active ∧ tileAddrOk x = true ∧ tileAt s.m key = some t0) ∧
    (∃ (layer : Fin 4), ∃ (s : State), ∃ slot, (coverRec s.m).isSome = true ∧ layer.val ≠ 3 ∧
      let key := cmdKey s.m layer.val
      let x := tileAddr s.m
      s.m.cover.job = .active ∧ tileAddrOk x = true ∧ tileAt s.m key = none ∧ freeSlot s.m = some slot) ∧
    (∃ (layer : Fin 4), ∃ (s : State), (coverRec s.m).isSome = true ∧ layer.val ≠ 3 ∧
      let x := tileAddr s.m
      s.m.cover.job ∈ [JobPhase.active, .pending, .stale] ∧ tileAddrOk x = true) ∧
    (∃ (layer : Fin 4), ∃ (s : State), (coverRec s.m).isSome = true ∧ layer.val ≠ 3 ∧ s.m.cover.job = .active) ∧
    (∃ (key : TileKey), ∃ (rest : List TileKey), ∃ (t0 : Tile), ∃ (s : State), s.m.cover.fetches = key :: rest ∧ tileAt s.m key = some t0 ∧
        t0.cache = none ∧ (s.m.cover.tiles.filter (·.cache.isSome)).length < 64) ∧
    (∃ (d : Nat), ∃ (key : TileKey), ∃ (t0 : Tile), ∃ (l : CacheLine), ∃ (s : State), oldestDirty s.m = some (d, key) ∧ tileAt s.m key = some t0 ∧
        t0.cache = some l) :=
  ⟨⟨0, sTiles [tile0], tile0, by decide +kernel⟩,
    ⟨2, sTiles [], 128, by decide +kernel⟩,
    ⟨2, sTiles [], by decide +kernel⟩,
    ⟨2, sTiles [], by decide +kernel⟩,
    ⟨key0, [], tile0, sTiles [tile0], by decide +kernel⟩,
    ⟨4000000, key0, { tile0 with cache := some ⟨5, some 4000000, 4000000⟩ }, ⟨5, some 4000000, 4000000⟩, sTiles [{ tile0 with cache := some ⟨5,
        some 4000000, 4000000⟩ }], by decide +kernel⟩⟩

theorem witness_JobsAndEvaluation :
    (∃ (s : State), (coverRec s.m).isSome = true ∧ nextEval s.m < 2 ^ 64) ∧
    (∃ (s : State), (coverRec s.m).isSome = true ∧ s.m.cover.arch = .none ∧ nextEval s.m < 2 ^ 64) ∧
    (∃ (s : State), (coverRec s.m).isSome = true ∧ s.m.cover.arch = .none ∧ nextEval s.m < 2 ^ 64 ∧
      let m := s.m.advanceTo (nextEval s.m)
      s.m.cover.job = .pending ∧ jobReq s.m = s.m.cover.jobId ∧ utcNow m = none) ∧
    (∃ (s : State), ∃ now, ∃ w, (coverRec s.m).isSome = true ∧ s.m.cover.arch = .none ∧ nextEval s.m < 2 ^ 64 ∧
      let m := s.m.advanceTo (nextEval s.m)
      s.m.cover.job = .pending ∧ jobReq s.m = s.m.cover.jobId ∧ utcNow m = some now ∧ s.m.cover.written = some w) ∧
    (∃ (s : State), ∃ now, ∃ w, (coverRec s.m).isSome = true ∧ s.m.cover.arch = .none ∧ nextEval s.m < 2 ^ 64 ∧
      let m := s.m.advanceTo (nextEval s.m)
      s.m.cover.job = .pending ∧ jobReq s.m = s.m.cover.jobId ∧ utcNow m = some now ∧ s.m.cover.written = some w) ∧
    (∃ (s : State), (coverRec s.m).isSome = true ∧ s.m.cover.arch = .none ∧ nextEval s.m < 2 ^ 64 ∧ s.m.cover.job = .pending ∧
        jobReq s.m ≠ s.m.cover.jobId) ∧
    (∃ (s : State), (coverRec s.m).isSome = true ∧ s.m.cover.arch = .none ∧ nextEval s.m < 2 ^ 64 ∧ s.m.cover.job ≠ .none) ∧
    (∃ (s : State), (coverRec s.m).isSome = true ∧ s.m.cover.arch = .none ∧ nextEval s.m < 2 ^ 64 ∧ s.m.cover.job = .active) ∧
    (∃ (s : State), (coverRec s.m).isSome = true ∧ s.m.cover.arch = .none ∧ nextEval s.m < 2 ^ 64 ∧ (s.m.cover.job = .pending ∨
        s.m.cover.job = .stale)) ∧
    (∃ (s : State), (coverRec s.m).isSome = true ∧ s.m.cover.arch = .none ∧ nextEval s.m < 2 ^ 64 ∧ (s.m.cover.job = .pending ∨
        s.m.cover.job = .stale)) ∧
    (∃ (s : State), (coverRec s.m).isSome = true ∧ s.m.cf Reg.COVER_ARCH 7 0 ≠ 0 ∧ s.m.cover.dirty = true ∧ s.m.cover.job = .active ∧
        s.m.cover.arch = .none) ∧
    (∃ (s : State), s.m.cover.arch = .archive ∧ s.m.cover.tiles.length ≤ 6136) ∧
    (∃ (s : State), s.m.cover.arch = .restore ∧ bestArchive s.m = none) ∧
    (∃ (s : State), ∃ h, ∃ x, s.m.cover.arch = .restore ∧ bestArchive s.m = some (h, x)) :=
  ⟨⟨sTiles [], by decide +kernel⟩,
    ⟨sTiles [], by decide +kernel⟩,
    ⟨sJob { job .pending with jobId := 0 }, by decide +kernel⟩,
    ⟨sTime (gnssAt .locked) fun m => rg Reg.COVER_ARCH 0x10001 (withCover { job .pending with jobId := 0, written := some 5 } m), 315964800, 5,
        by decide +kernel⟩,
    ⟨sTime (gnssAt .locked) fun m => rg Reg.COVER_ARCH 1 (withCover { job .pending with jobId := 0, written := some 5 } m), 315964800, 5,
        by decide +kernel⟩,
    ⟨sJob (job .pending), by decide +kernel⟩,
    ⟨sJob (job .stale), by decide +kernel⟩,
    ⟨sJob (job .active), by decide +kernel⟩,
    ⟨sJob (job .pending), by decide +kernel⟩,
    ⟨sJob (job .stale), by decide +kernel⟩,
    ⟨sJob { job .active with dirty := true }, by decide +kernel⟩,
    ⟨sJob { job .active with arch := .archive, tiles := [tile0] }, by decide +kernel⟩,
    ⟨sJob { job .none with arch := .restore }, by decide +kernel⟩,
    ⟨sJob { job .none with arch := .restore, half1 := some arch0 }, true, arch0, by decide +kernel⟩⟩

theorem witness_GnssTracksAndLatches :
    (∃ (s : State), s.m.variant = .g) ∧
    (∃ (c : Fin 96), ∃ (s : State), s.m.variant = .g ∧ tracked s.m c.val = true) ∧
    (∃ (c : Fin 96), ∃ (w : Word), ∃ (ws : List Word), ∃ (s : State), (gc s.m c).fifo = w :: ws) ∧
    (∃ (p : AcqPass), ∃ (s : State), s.m.variant = .g ∧ coldPasses p.signal.val ≠ 0) ∧
    (∃ (p : AcqPass), ∃ (s : State), s.m.variant = .g ∧ coldPasses p.signal.val ≠ 0) ∧
    (∃ (s : State), s.m.variant = .g ∧ nextEpoch s.m < 2 ^ 64) ∧
    (∃ (s : State), s.m.variant = .g ∧ burstSet s.m = true ∧ s.m.gnss.burst = false ∧ cdiv s.m.mt secTicks * secTicks < 2 ^ 64) ∧
    (∃ (s : State), s.m.gnss.burst = true ∧ s.m.mt / secTicks * secTicks + secTicks / 10 < 2 ^ 64) ∧
    (∃ (s : State), s.m.variant = .g) :=
  ⟨⟨sIdle, by decide +kernel⟩,
    ⟨95, sTracking, by decide +kernel⟩,
    ⟨95, 5, [6], sTracking, by decide +kernel⟩,
    ⟨⟨0, 1, false, 0, 0, 5, true⟩, sIdle, by decide +kernel⟩,
    ⟨⟨9, 1, true, 0, 0, 5, false⟩, sIdle, by decide +kernel⟩,
    ⟨sTracking, by decide +kernel⟩,
    ⟨sTime GnssSt.reset (rg Reg.GNSS_CFG 0x100000), by decide +kernel⟩,
    ⟨sGnss { GnssSt.reset with burst := true }, by decide +kernel⟩,
    ⟨sTracking, by decide +kernel⟩⟩

theorem witness_GnssSolves :
    (∃ (sol : PvtSol), ∃ (e : Nat), ∃ (s : State), s.m.variant = .g ∧ s.m.gnss.epoch = some e ∧ s.m.gnss.solved ≠ some e ∧
        s.m.mt < e + epochPeriod s.m ∧
      let m0 := s.m.updGnss fun g => { g with solved := some e }
      let m1 := (List.range 4).foldl (fun m i => checkSys m i (Arr.getD sol.isb i none)) (checkRes 4 sol.residuals (sol.devs.foldl checkDev m0))
      solvable m1 sol = false) ∧
    (∃ (sol : PvtSol), ∃ (e : Nat), ∃ (s : State), s.m.variant = .g ∧ s.m.gnss.epoch = some e ∧ s.m.gnss.solved ≠ some e ∧
        s.m.mt < e + epochPeriod s.m ∧
      let m0 := s.m.updGnss fun g => { g with solved := some e }
      let m1 := (List.range 4).foldl (fun m i => checkSys m i (Arr.getD sol.isb i none)) (checkRes 4 sol.residuals (sol.devs.foldl checkDev m0))
      solvable m1 sol = true) ∧
    (∃ (c : Instr), ∃ (bs : List Byte), ∃ (s : State), s.m.variant = .g ∧ ((∃ w : Word, c = .rtcmWord w ∧ bs = leBytes 4 w.toNat) ∨ ∃ x : Byte,
        c = .rtcmByte x ∧ bs = [x]) ∧
      let f := s.m.gnss.rtcm ++ bs
      let n := bitsAt f 14 10
      f.head? = some 0xD3#8 ∧ (f.length < 3 ∨ f.length < n + 6) ∧ f.length ≤ 4096) ∧
    (∃ (c : Instr), ∃ (bs : List Byte), ∃ (s : State), s.m.variant = .g ∧ ((∃ w : Word, c = .rtcmWord w ∧ bs = leBytes 4 w.toNat) ∨ ∃ x : Byte,
        c = .rtcmByte x ∧ bs = [x]) ∧
      let f := s.m.gnss.rtcm ++ bs
      let n := bitsAt f 14 10
      f.head? = some 0xD3#8 ∧ 3 ≤ f.length ∧ f.length = n + 6 ∧ crc24q (f.take (n + 3)) = beNat (f.drop (n + 3)) ∧ 19 ≤ n) ∧
    (∃ (c : Instr), ∃ (bs : List Byte), ∃ (s : State), s.m.variant = .g ∧ ((∃ w : Word, c = .rtcmWord w ∧ bs = leBytes 4 w.toNat) ∨ ∃ x : Byte,
        c = .rtcmByte x ∧ bs = [x]) ∧
      let f := s.m.gnss.rtcm ++ bs
      let n := bitsAt f 14 10
      f.head? = some 0xD3#8 ∧ 3 ≤ f.length ∧ f.length = n + 6 ∧ crc24q (f.take (n + 3)) ≠ beNat (f.drop (n + 3))) ∧
    (∃ (c : Instr), ∃ (s : State), s.m.variant = .g ∧ (c = .saveNav ∨ (c = .navPeriodicSave ∧ s.m.gnss.navChanged = true))) ∧
    (∃ (c : Instr), ∃ (s : State), s.m.variant = .g ∧ (c = .saveNav ∨ (c = .navPeriodicSave ∧ s.m.gnss.navChanged = true))) ∧
    (∃ (s : State), s.m.variant = .g) :=
  ⟨⟨sol0, 4999000, sGnss (gnssAt .locked), by decide +kernel⟩,
    ⟨sol0, 4999000, sUsed, by decide +kernel⟩,
    ⟨.rtcmByte 0xD3, [0xD3], sGnss GnssSt.reset, by decide +kernel, .inr ⟨_, rfl, rfl⟩, by decide +kernel, by decide +kernel, by decide +kernel⟩,
    ⟨.rtcmByte 0xA3, [0xA3], sGnss { GnssSt.reset with rtcm := [0xD3, 0, 0x13] ++ List.replicate 19 0 ++ [0xB0, 0xB3] }, by decide +kernel, .inr
        ⟨_, rfl, rfl⟩, by decide +kernel⟩,
    ⟨.rtcmWord 0, [0, 0, 0, 0], sGnss { GnssSt.reset with rtcm := [0xD3, 0] }, by decide +kernel, .inl ⟨0, rfl, rfl⟩, by decide +kernel⟩,
    ⟨.saveNav, sIdle, by decide +kernel, .inl rfl⟩,
    ⟨.navPeriodicSave, sGnss { GnssSt.reset with navChanged := true }, by decide +kernel, .inr ⟨rfl, by decide +kernel⟩⟩,
    ⟨sIdle, by decide +kernel⟩⟩

theorem witness_GnssAntennaAndTime :
    (∃ (ma : Nat), ∃ (s : State), s.m.variant = .g ∧ biasEn s.m = true ∧ ma < 2) ∧
    (∃ (ma : Nat), ∃ (s : State), s.m.variant = .g ∧ biasEn s.m = true ∧ 110 < ma) ∧
    (∃ (ma : Nat), ∃ (s : State), s.m.variant = .g ∧ biasEn s.m = true ∧ 2 ≤ ma ∧ ma ≤ 110) ∧
    (∃ (ma : Nat), ∃ (s : State), s.m.variant = .g ∧ biasEn s.m = true ∧ 2 ≤ ma ∧ ma ≤ 110) ∧
    (∃ (s : State), s.m.gnss.ant = .short ∧ biasEn s.m = true ∧ s.m.gnss.bias = false ∧ s.m.gnss.antMt + secTicks < 2 ^ 64) ∧
    (∃ (s : State), s.m.gnss.tstate = .locked ∧ s.m.gnss.discMt + 2 * secTicks < 2 ^ 64) ∧
    (∃ (s : State), s.m.gnss.tstate = .holdover ∧ s.m.cf Reg.GNSS_HOLD_CFG 31 16 * 1000 * 6400000000000000000000 < uncNum s.m (2 ^ 63)) ∧
    (∃ (x : Int × Nat), ∃ (s : State), s.m.gnss.slew = some x) ∧
    (∃ (s : State), timeKnown s.m = true ∧
      let at_ := pulseAt (pulseMap s.m)
      at_.2 < 2 ^ 64) :=
  ⟨⟨1, sBias GnssSt.reset, by decide +kernel⟩,
    ⟨111, sBias GnssSt.reset, by decide +kernel⟩,
    ⟨2, sBias GnssSt.reset, by decide +kernel⟩,
    ⟨110, sBias GnssSt.reset, by decide +kernel⟩,
    ⟨sBias { GnssSt.reset with ant := .short }, by decide +kernel⟩,
    ⟨sGnss (gnssAt .locked), by decide +kernel⟩,
    ⟨sGnss { gnssAt .holdover with u0 := 10000000 }, by decide +kernel⟩,
    ⟨(5, 6000000), sGnss { GnssSt.reset with slew := some (5, 6000000) }, by decide +kernel⟩,
    ⟨sGnss (gnssAt .locked), by decide +kernel⟩⟩

theorem witness_FlueLinksAndRoutes :
    (∃ (q : Fin 2), ∃ (s : State), (∀ x, (fport s.m q).linkSent = some x → x + msTicks < 2 ^ 64)) ∧
    (∃ (q : Fin 2), ∃ (s : State), (fport s.m q).up = false ∧ (fport s.m q).lock = true ∧ (fport s.m q).delays ≠ []) ∧
    (∃ (c : Instr), ∃ (q : Fin 2), ∃ (s : State), (fport s.m q).up = true ∧ (c = .fluePortDown q ∨ (c = .flueFrameDiscard q .crc ∧ 7 ≤
        (fport s.m q).badRun))) ∧
    (∃ (c : Instr), ∃ (q : Fin 2), ∃ (s : State), (fport s.m q).up = true ∧ (c = .fluePortDown q ∨ (c = .flueFrameDiscard q .crc ∧ 7 ≤
        (fport s.m q).badRun))) ∧
    (∃ (q : Fin 2), ∃ (s : State), (fport s.m q).badRun < 7) ∧
    (∃ (q : Fin 2), ∃ (f : FlueFrameIn), ∃ (s : State), carries s.m q = true ∧ f.src ≠ nodeId s.m) ∧
    (∃ (q : Fin 2), ∃ (f : FlueFrameIn), ∃ (s : State), carries s.m q = true ∧ f.src = nodeId s.m ∧ leAt f.payload 0 8 ≠ s.m.serial.toNat) ∧
    (∃ (s : State), (∀ x, s.m.flue.presSent = some x → x + 100 * msTicks < 2 ^ 64)) ∧
    (∃ (s : State), s.m.flue.dup = true ∧ s.m.flue.dupMt + secTicks < 2 ^ 64) ∧
    (∃ (x : Nat), ∃ (s : State), (s.m.flue.routes.map (·.seen)).min? = some x ∧ x + 350 * msTicks < 2 ^ 64) ∧
    (∃ (x : Nat), ∃ (s : State), s.m.flue.firstUp = some x ∧ s.m.flue.fixed = false ∧ x + 50 * msTicks < 2 ^ 64) ∧
    (∃ (s : State), anyUp s.m = true) ∧
    (∃ (c : Instr), ∃ (x : Nat), ∃ (s : State), s.m.flue.master = some x ∧ s.m.flue.ring = true ∧ (c = .gapPlacement ∨ (c = .placeGap ∧
        s.m.flue.fstate = .master))) ∧
    (∃ (c : Instr), ∃ (x : Nat), ∃ (s : State), s.m.flue.master = some x ∧ s.m.flue.ring = true ∧ (c = .gapPlacement ∨ (c = .placeGap ∧
        s.m.flue.fstate = .master))) :=
  ⟨⟨1, sChain .sync, (fun _ h => nomatch h)⟩,
    ⟨1, sUp, by decide +kernel⟩,
    ⟨.fluePortDown 1, 1, sChain .sync, by decide +kernel, .inl rfl⟩,
    ⟨.flueFrameDiscard 1 .crc, 1, sBad 7, by decide +kernel, .inr ⟨rfl, by decide +kernel⟩⟩,
    ⟨1, sBad 6, by decide +kernel⟩,
    ⟨1, flue0 5 0 [], sChain .sync, by decide +kernel⟩,
    ⟨1, flue0 0 0 (leBytes 8 1), sChain .sync, by decide +kernel⟩,
    ⟨sChain .sync, (fun _ h => nomatch h)⟩,
    ⟨sFlueSt { FlueSt.reset with dup := true, dupMt := 4000000 }, by decide +kernel⟩,
    ⟨4900000, sChain .sync, by decide +kernel⟩,
    ⟨4000000, sFlueSt { FlueSt.reset with firstUp := some 4000000 }, by decide +kernel⟩,
    ⟨sChain .sync, by decide +kernel⟩,
    ⟨.gapPlacement, 3, sRing, by decide +kernel, by decide +kernel, .inl rfl⟩,
    ⟨.placeGap, 3, sRing, by decide +kernel, by decide +kernel, .inr ⟨rfl, by decide +kernel⟩⟩⟩

theorem witness_FlueTime :
    (∃ (q : Fin 2), ∃ (f : FlueFrameIn), ∃ (s : State), carries s.m q = true ∧ follows s.m q f.src = true ∧ s.m.flue.fstate ∈ [FState.alone,
        .holdover, .master]) ∧
    (∃ (q : Fin 2), ∃ (f : FlueFrameIn), ∃ (s : State), carries s.m q = true ∧ follows s.m q f.src = true ∧ s.m.flue.fstate ∈ [FState.alone,
        .holdover, .master]) ∧
    (∃ (q : Fin 2), ∃ (f : FlueFrameIn), ∃ (s : State), carries s.m q = true ∧ follows s.m q f.src = true ∧ s.m.flue.fstate = .sync) ∧
    (∃ (q : Fin 2), ∃ (f : FlueFrameIn), ∃ (s : State), carries s.m q = true ∧ follows s.m q f.src = true ∧
      let e : Int := ((s.m.mt : Int) - (leAt f.payload 0 8 : Nat)) * 2500 * 65536 - (leAt f.payload 8 8 : Nat) * 1000 - delayPs16 (fport s.m q)
      let offs := (e :: s.m.flue.offs).take 16
      let mean := rdiv offs.sum offs.length
      s.m.flue.fstate = .acquire ∧ 15 ≤ s.m.flue.offs.length ∧ absN mean < 100 * 1000 * 65536) ∧
    (∃ (q : Fin 2), ∃ (f : FlueFrameIn), ∃ (s : State), carries s.m q = true ∧ follows s.m q f.src = true ∧ s.m.flue.fstate = .acquire ∧
        s.m.flue.offs.length < 15) ∧
    (∃ (q : Fin 2), ∃ (f : FlueFrameIn), ∃ (s : State), carries s.m q = true ∧ follows s.m q f.src = true ∧ s.m.flue.fstate = .slew) ∧
    (∃ (s : State), s.m.flue.fstate = .master ∧ (∀ x, s.m.flue.timeSent = some x → x + 100 * usTicks < 2 ^ 64)) ∧
    (∃ (s : State), s.m.flue.timeMt + msTicks < 2 ^ 64 ∧ s.m.flue.fstate ∈ [FState.sync, .slew, .acquire, .blocked]) ∧
    (∃ (s : State), s.m.flue.timeMt + msTicks < 2 ^ 64 ∧ s.m.flue.fstate ∈ [FState.sync, .slew, .acquire, .blocked]) ∧
    (∃ (s : State), anyUp s.m = true ∧ (ownKey s.m).prio ≠ 255 ∧ s.m.flue.fstate ≠ .master ∧ ((s.m.flue.master = none ∧ ∀ r ∈ s.m.flue.routes,
        r.key.prio = 255 ∨ r.seen + 350 * msTicks ≤ s.m.mt ∨ (ownKey s.m).beats r.key = true) ∨ ∃ x, s.m.flue.beats = some x ∧
        x + secTicks < 2 ^ 64)) ∧
    (∃ (s : State), anyUp s.m = true ∧ (ownKey s.m).prio ≠ 255 ∧ s.m.flue.fstate ≠ .master ∧ ((s.m.flue.master = none ∧ ∀ r ∈ s.m.flue.routes,
        r.key.prio = 255 ∨ r.seen + 350 * msTicks ≤ s.m.mt ∨ (ownKey s.m).beats r.key = true) ∨ ∃ x, s.m.flue.beats = some x ∧
        x + secTicks < 2 ^ 64)) :=
  ⟨⟨1, flue0 3 0 (leBytes 8 4999000 ++ leBytes 8 0), sChain .alone, by decide +kernel⟩,
    ⟨1, flue0 3 0 (leBytes 8 4999000 ++ leBytes 8 0), sChain .holdover, by decide +kernel⟩,
    ⟨1, flue0 3 0 (leBytes 8 4999000 ++ leBytes 8 0), sChain .sync, by decide +kernel⟩,
    ⟨1, flue0 3 0 (leBytes 8 4999990 ++ leBytes 8 0), sOffs .acquire 15, by decide +kernel⟩,
    ⟨1, flue0 3 0 (leBytes 8 4999000 ++ leBytes 8 0), sOffs .acquire 14, by decide +kernel⟩,
    ⟨1, flue0 3 0 (leBytes 8 4999000 ++ leBytes 8 0), sChain .slew, by decide +kernel⟩,
    ⟨sChain .master, by decide +kernel, (fun _ h => nomatch h)⟩,
    ⟨sChain .sync, by decide +kernel⟩,
    ⟨sChain .blocked, by decide +kernel⟩,
    ⟨sUp2, by decide +kernel, by decide +kernel, by decide +kernel, .inl ⟨rfl, by decide +kernel⟩⟩,
    ⟨sBeats, by decide +kernel, by decide +kernel, by decide +kernel, .inr ⟨4000000, by decide +kernel, by decide +kernel⟩⟩⟩

theorem witness_FlueTraffic :
    (∃ (c : Instr), ∃ (ty : Nat), ∃ (q : Fin 2), ∃ (f : FlueFrameIn), ∃ (msg : Option SessMsg), ∃ (r : Route), ∃ (s : State), (c,
        ty) ∈ [(Instr.batchFrame q f, ftBatch), (.returnFrame q f, ftReturn), (.mgmtFrame q f msg, ftMgmt)] ∧ carries s.m q = true ∧
        f.dest ≠ nodeId s.m ∧ routeTo s.m f.dest = some r ∧ r.port ≠ q) ∧
    (∃ (c : Instr), ∃ (ty : Nat), ∃ (q : Fin 2), ∃ (f : FlueFrameIn), ∃ (msg : Option SessMsg), ∃ (r : Route), ∃ (s : State), (c,
        ty) ∈ [(Instr.batchFrame q f, ftBatch), (.returnFrame q f, ftReturn), (.mgmtFrame q f msg, ftMgmt)] ∧ carries s.m q = true ∧
        f.dest ≠ nodeId s.m ∧ routeTo s.m f.dest = some r ∧ r.port ≠ q) ∧
    (∃ (q : Fin 2), ∃ (f : FlueFrameIn), ∃ (rec : RingRec), ∃ (s : State), carries s.m q = true ∧ f.dest = nodeId s.m ∧ yieldsId s.m = false ∧
      let a : NoteAddr := ⟨4, .ethertype, 0, 0, 0, none, f.src⟩
      let h := batchHdr f.payload
      let r := s.m.ringAt h.ring
      formatOk s.m a f.payload = true ∧ h.ring < 64 ∧ ringRec s.m h.ring = some rec ∧ tb rec.ports 4 = true ∧ s.m.sec.act ≠ .pause ∧
        (h.fwd = true → h.dest = nodeId s.m) ∧ r.phase = .open ∧ r.epoch = h.epoch ∧ h.count ≠ 0 ∧ h.bseq = r.ackBseq + 1 ∧ h.firstEv = r.ackEv ∧
        after (h.firstEv + w32 h.count) r.evLimit = false ∧ claimOk s.m h.ring h.count = true) ∧
    (∃ (q : Fin 2), ∃ (f : FlueFrameIn), ∃ (e : FwdEntry), ∃ (p : Fin 4), ∃ (s : State), endsHere s.m q f = true ∧ s.m.flue.fwd.find?
        (fun x => x.dest == f.src && x.ring == byteAt f.payload 2) = some e ∧ e.addr.port = p.val) ∧
    (∃ (q : Fin 2), ∃ (f : FlueFrameIn), ∃ (s : State), ∃ (e : FwdEntry), ∃ (p : Fin 4), endsHere s.m q f = true ∧ s.m.flue.mgmt.find?
        (·.dest == f.src) = some e ∧ e.addr.port = p.val) ∧
    (∃ (q : Fin 2), ∃ (f : FlueFrameIn), ∃ (s : State), ∃ n, endsHere s.m q f = true ∧ served s.m .flue = true ∧ idleSession s.m = some n) ∧
    (∃ (ip : IpInfo), ∃ (payload : List Byte), ∃ (r : Route), ∃ (s : State),
      let dest := leAt payload 0 2
      relayTakes s.m ip payload = true ∧ dest ≠ nodeId s.m ∧ routeTo s.m dest = some r ∧ yieldsId s.m = false) ∧
    (∃ (q : Fin 2), ∃ (s : State), carries s.m q = true ∧ (s.m.flue.fstate = .acquire ∨ s.m.flue.fstate = .blocked)) ∧
    (∃ (q : Fin 2), ∃ (s : State), carries s.m q = true ∧ (s.m.flue.fstate = .acquire ∨ s.m.flue.fstate = .blocked)) ∧
    (∃ (q : Fin 2), ∃ (f : FlueFrameIn), ∃ (s : State), ∃ (n : Fin 15), ∃ (r : AxisRec), carries s.m q = true ∧ s.m.flue.fstate ≠ .acquire ∧
        s.m.flue.fstate ≠ .blocked ∧ axisRec s.m n.val = some r ∧ r.source = .chain ∧ r.chainNode = f.src ∧ r.chainAxis = byteAt f.payload 0 ∧
        byteAt f.payload 1 % 4 = 2 ∧ (axisAt s.m n).phase = .locked ∧ stageOf s.m (.axis n) = none) :=
  ⟨⟨.batchFrame 0 (flue0 9 3 []), ftBatch, 0, flue0 9 3 [], none, route3 1, sChain .sync, by decide +kernel⟩,
    ⟨.mgmtFrame 0 (flue0 9 3 []) none, ftMgmt, 0, flue0 9 3 [], none, route3 1, sChain .sync, by decide +kernel⟩,
    ⟨1, flue0 3 0 (batch0 63), ⟨63, 31, 511, 0xFFFF, true, 3⟩, sBatchFlue, by decide +kernel⟩,
    ⟨1, flue0 3 0 [0, 0, 63], ⟨3, 63, addr0⟩, 1, sFwd, by decide +kernel⟩,
    ⟨1, flue0 3 0 [], sFwd, ⟨3, 0, addr0⟩, 1, by decide +kernel⟩,
    ⟨1, flue0 3 0 [], sChain .sync, 0, by decide +kernel⟩,
    ⟨⟨0, 0, false, true, 0, 0xC0AA⟩, leBytes 4 3, route3 1, sChain .sync, by decide +kernel⟩,
    ⟨1, sChain .acquire, by decide +kernel⟩,
    ⟨1, sChain .blocked, by decide +kernel⟩,
    ⟨1, flue0 3 0 [1, 2], sAxisChain, 14, ⟨14, .chain, 0xFF, 0xFF, 3, 1, false, false, 0, 16⟩, by decide +kernel⟩⟩

theorem witness_TimePulseInputCaptured :
    (∃ (rising : Bool), ∃ (s : State), s.m.cb Reg.FLUE_TPIN_CFG 31 = true ∧ (rising = !s.m.cb Reg.FLUE_TPIN_CFG 30)) ∧
    (∃ (rising : Bool), ∃ (s : State), s.m.cb Reg.FLUE_TPIN_CFG 31 = true ∧ (rising = !s.m.cb Reg.FLUE_TPIN_CFG 30)) ∧
    (∃ (rising : Bool), ∃ (s : State), (s.m.cb Reg.FLUE_TPIN_CFG 31 = false ∨ (rising = s.m.cb Reg.FLUE_TPIN_CFG 30))) ∧
    (∃ (rising : Bool), ∃ (s : State), (s.m.cb Reg.FLUE_TPIN_CFG 31 = false ∨ (rising = s.m.cb Reg.FLUE_TPIN_CFG 30))) :=
  ⟨⟨true, st (rg Reg.FLUE_TPIN_CFG 0x80000000), by decide +kernel⟩,
    ⟨false, st (rg Reg.FLUE_TPIN_CFG 0xC0000000), by decide +kernel⟩,
    ⟨true, sIdle, by decide +kernel⟩,
    ⟨true, st (rg Reg.FLUE_TPIN_CFG 0xC0000000), by decide +kernel⟩⟩

theorem witness_FieldBarrierAndInputs :
    (∃ (bs : List Byte), ∃ (s : State),
      let s0 := s.m.mt / frameTicks * frameTicks
      let seq := bits (byteAt bs 0) 7 4
      s0 + frameTicks < 2 ^ 64 ∧ crc8 (bs.take 23) = (byteAt bs 23) ∧ (∀ r, s.m.fio.up.ref = some r → seq = (r + 1) % 16) ∧
        s.m.fio.up.fault = false) ∧
    (∃ (s : State), s.m.mt / frameTicks * frameTicks + frameTicks < 2 ^ 64 ∧ s.m.fio.up.bad < 2) ∧
    (∃ (s : State), s.m.mt / frameTicks * frameTicks + frameTicks < 2 ^ 64 ∧ 2 ≤ s.m.fio.up.bad ∧ s.m.fio.up.fault = false) ∧
    (∃ (s : State), s.m.fio.up.fault = false) ∧
    (∃ (s : State), s.m.fio.up.fault = true) ∧
    (∃ (s : State), s.m.fio.fieldLatch = true ∧ s.m.fio.rel = true) ∧
    (∃ (s : State), s.m.fio.up.fault = false) ∧
    (∃ (s : State), cdiv s.m.mt frameTicks * frameTicks < 2 ^ 64 ∧
      let s0 := cdiv s.m.mt frameTicks * frameTicks
      (∀ r, s.m.fio.down.ref = some r → s0 / frameTicks % 16 = (r + 1) % 16)) ∧
    (∃ (s : State), cdiv s.m.mt frameTicks * frameTicks < 2 ^ 64) :=
  ⟨⟨([0x30] ++ List.replicate 22 0 ++ [135]), sFio FioSt.reset, by decide +kernel, by decide +kernel, (fun _ h => nomatch h), by decide +kernel⟩,
    ⟨sFio FioSt.reset, by decide +kernel⟩,
    ⟨sFio { FioSt.reset with up := ⟨none, 2, 0, false⟩ }, by decide +kernel⟩,
    ⟨sFio FioSt.reset, by decide +kernel⟩,
    ⟨sFio { FioSt.reset with up := ⟨none, 2, 0, true⟩ }, by decide +kernel⟩,
    ⟨sFio { FioSt.reset with fieldLatch := true, rel := true }, by decide +kernel⟩,
    ⟨sFio FioSt.reset, by decide +kernel⟩,
    ⟨sFio FioSt.reset, by decide +kernel, (fun _ h => nomatch h)⟩,
    ⟨sFio FioSt.reset, by decide +kernel⟩⟩

theorem witness_FieldOutputsAndSupply :
    (∃ (c : Instr), ∃ (i : Nat), ∃ (n : Fin 16), (c, i) ∈ [(Instr.foOvercurrent n, 1), (.foShort n, 2), (.foOvertemp n, 3)]) ∧
    (∃ (c : Instr), ∃ (i : Nat), ∃ (n : Fin 16), (c, i) ∈ [(Instr.foOvercurrent n, 1), (.foShort n, 2), (.foOvertemp n, 3)]) ∧
    (∃ (c : Instr), ∃ (i : Nat), ∃ (n : Fin 16), (c, i) ∈ [(Instr.foOvercurrent n, 1), (.foShort n, 2), (.foOvertemp n, 3)]) ∧
    (∃ (n : Fin 16), ∃ (s : State), s.m.cb (Reg.FIO_FO_CFG n.val) 31 = true ∧ foDuty s.m n.val ≠ 0) ∧
    (∃ (mv : Nat), ∃ (s : State), s.m.fio.vstate = .normal ∧ mv < 18000) ∧
    (∃ (mv : Nat), ∃ (s : State), s.m.fio.vstate = .warn ∧ 18500 ≤ mv) ∧
    (∃ (mv : Nat), ∃ (s : State), (s.m.fio.vstate = .normal ∨ s.m.fio.vstate = .warn) ∧ mv < 15000) ∧
    (∃ (mv : Nat), ∃ (s : State), (s.m.fio.vstate = .normal ∨ s.m.fio.vstate = .warn) ∧ mv < 15000) ∧
    (∃ (mv : Nat), ∃ (s : State), s.m.fio.vstate = .cut ∧ 19000 ≤ mv) ∧
    (∃ (mv : Nat), ∃ (s : State), s.m.fio.vstate = .restore ∧ mv < 19000) ∧
    (∃ (s : State), s.m.fio.vstate = .restore ∧ s.m.fio.ready = false ∧ max s.m.mt (s.m.fio.restoreFrom + 10 * msTicks) + 1 < 2 ^ 64 ∧
        s.m.cb Reg.FIO_CFG 8 = true ∧ s.m.fio.up.fault = false) ∧
    (∃ (s : State), s.m.fio.vstate = .restore ∧ s.m.fio.ready = false ∧ max s.m.mt (s.m.fio.restoreFrom + 10 * msTicks) + 1 < 2 ^ 64 ∧
        s.m.cb Reg.FIO_CFG 8 = false) ∧
    (∃ (s : State), s.m.fio.vstate = .restore ∧ s.m.fio.ready = true ∧ s.m.fio.up.fault = false) :=
  ⟨⟨.foOvercurrent 15, 1, 15, by decide +kernel⟩,
    ⟨.foShort 15, 2, 15, by decide +kernel⟩,
    ⟨.foOvertemp 15, 3, 15, by decide +kernel⟩,
    ⟨15, sFoOn, by decide +kernel⟩,
    ⟨17999, sFio { FioSt.reset with vstate := .normal }, by decide +kernel⟩,
    ⟨18500, sFio { FioSt.reset with vstate := .warn }, by decide +kernel⟩,
    ⟨14999, sFio { FioSt.reset with vstate := .normal }, by decide +kernel⟩,
    ⟨14999, sFio { FioSt.reset with vstate := .warn }, by decide +kernel⟩,
    ⟨19000, sFio { FioSt.reset with vstate := .cut }, by decide +kernel⟩,
    ⟨18999, sFio { FioSt.reset with vstate := .restore }, by decide +kernel⟩,
    ⟨sTime GnssSt.reset fun m => rg Reg.FIO_CFG 0x100 (withFio { FioSt.reset with vstate := .restore } m), by decide +kernel⟩,
    ⟨sFio { FioSt.reset with vstate := .restore }, by decide +kernel⟩,
    ⟨sFio { FioSt.reset with vstate := .restore, ready := true }, by decide +kernel⟩⟩

theorem witness_AnalogInputsAndSensorSupplies :
    (∃ (s : State), s.m.mt < s.m.fio.aiMt + 3800 ∧ s.m.fio.aiMt + 2200 < 2 ^ 64) ∧
    (∃ (n : Fin 16), ∃ (c : AiCond), ∃ (s : State), aiKnows (aiMode s.m n.val) c = true) ∧
    (∃ (n : Fin 16), ∃ (s : State), aiMode s.m n.val = 1) ∧
    (∃ (n : Fin 16), ∃ (x : Nat), ∃ (s : State), (Arr.at' s.m.fio.ai n).burdenOpen = some x ∧ x + 100 * msTicks < 2 ^ 64) ∧
    (∃ (n : Fin 8), ∃ (s : State), tb (s.m.rf Reg.FIO_SS_CTL 7 0) n.val = true ∧ tb s.m.fio.ssLatched n.val = false) :=
  ⟨⟨sFio { FioSt.reset with aiMt := 4998000 }, by decide +kernel⟩,
    ⟨15, .over_, sIdle, by decide +kernel⟩,
    ⟨15, st (rg (Reg.FIO_AI_CFG 15) 1), by decide +kernel⟩,
    ⟨15, 4000000, sFio { FioSt.reset with ai := Arr.put FioSt.reset.ai 15 { AiSt.reset with burdenOpen := some 4000000 } }, by decide +kernel⟩,
    ⟨7, st (rg Reg.FIO_SS_CTL 0x80), by decide +kernel⟩⟩

theorem witness_LoadSwitchesTripAndLatch :
    (∃ (n : Fin 16), ∃ (c : Instr), ∃ (b : Nat), ∃ (s : State), ((c = .lsShort n ∧ b = 2) ∨ (c = .overload n ∧ b = 3)) ∧ lsDuty s.m n ≠ 0 ∧
        (ls s.m n).heldUntil = none ∧ (ls s.m n).retries < lsRetryMax s.m n) ∧
    (∃ (n : Fin 16), ∃ (c : Instr), ∃ (b : Nat), ∃ (s : State), ((c = .lsShort n ∧ b = 2) ∨ (c = .overload n ∧ b = 3)) ∧ lsDuty s.m n ≠ 0 ∧
        (ls s.m n).heldUntil = none ∧ (ls s.m n).retries < lsRetryMax s.m n) ∧
    (∃ (n : Fin 16), ∃ (s : State), (ls s.m n).hot = false ∧ (ls s.m n).heldUntil = none ∧ (ls s.m n).latched = false) ∧
    (∃ (s : State), s.m.lsw.uv = false) :=
  ⟨⟨15, .lsShort 15, 2, sLsw { LsSt.reset with level := 100 } 0x00700000, .inl (by decide), by decide +kernel, by decide +kernel,
        by decide +kernel⟩,
    ⟨15, .overload 15, 3, sLsw { LsSt.reset with level := 100 } 0x00700000, .inr (by decide), by decide +kernel, by decide +kernel,
        by decide +kernel⟩,
    ⟨15, sLsw LsSt.reset 0, by decide +kernel⟩,
    ⟨sIdle, by decide +kernel⟩⟩

theorem witness_SwitchesRecoverAndLimp :
    (∃ (n : Fin 16), ∃ (u : Nat), ∃ (s : State), (ls s.m n).wait = .retry u) ∧
    (∃ (n : Fin 16), ∃ (u : Nat), ∃ (s : State), (ls s.m n).onSince = some u) ∧
    (∃ (n : Fin 16), ∃ (s : State), (ls s.m n).hot = true ∧ (ls s.m n).wait = .thermal ∧ s.m.cb (Reg.LSW_CH_CFG n) 18 = true ∧
        (ls s.m n).retries < lsRetryMax s.m n) ∧
    (∃ (n : Fin 16), ∃ (s : State), s.m.cb (Reg.LSW_CH_CFG n) 17 = true ∧ s.m.cb (Reg.LSW_CH_CFG n) 16 = false ∧ lsDuty s.m n = 0) ∧
    (∃ (mask : Word), ∃ (s : State), bit mask 0 = true ∧ s.m.lsw.uv = false) ∧
    (∃ (n : Fin 16), ∃ (mask : Word), ∃ (s : State), bit mask 4 = true ∧ bit mask 5 = true ∧ (ls s.m n).hot = false ∧ (ls s.m n).wait = .none ∧
        s.m.lsw.uv = false ∧ s.m.rf Reg.LSW_SUP_FAULT 0 0 = 0) ∧
    (∃ (s : State), s.m.lsw.limpActive = false) ∧
    (∃ (s : State), s.m.lsw.limpActive = true) ∧
    (∃ (s : State), s.m.lsw.limpActive = true ∧ inReset s.m = false) :=
  ⟨⟨15, 6000000, sLsw { LsSt.reset with wait := .retry 6000000 } 0, by decide +kernel⟩,
    ⟨15, 4000000, sLsw { LsSt.reset with onSince := some 4000000 } 0, by decide +kernel⟩,
    ⟨15, sLsw { LsSt.reset with hot := true, wait := .thermal } 0x00740000, by decide +kernel⟩,
    ⟨15, sLsw LsSt.reset 0x20000, by decide +kernel⟩,
    ⟨1, sIdle, by decide +kernel⟩,
    ⟨15, 0x30, sLsw LsSt.reset 0, by decide +kernel⟩,
    ⟨sIdle, by decide +kernel⟩,
    ⟨sLimp, by decide +kernel⟩,
    ⟨sLimp, by decide +kernel⟩⟩

theorem witness_CanControllersAndTunnel :
    (∃ (c : Fin 4), ∃ (w : Word), ∃ (s : State), cnEn s.m c = false ∧
      let ok := timingOk (s.m.setF (Reg.CAN_CN_CFG c.val) 30 27 (fld w 30 27)) c
      ok = true) ∧
    (∃ (c : Fin 4), ∃ (w : Word), ∃ (s : State), cnEn s.m c = false ∧
      let ok := timingOk (s.m.setF (Reg.CAN_CN_CFG c.val) 30 27 (fld w 30 27)) c
      ok = false) ∧
    (∃ (c : Fin 4), ∃ (s : State), cnEn s.m c = true) ∧
    (∃ (c : Fin 4), ∃ (s : State), (cn s.m c).phase = .integrating) ∧
    (∃ (c : Fin 4), ∃ (s : State), (cn s.m c).phase = .busOff) ∧
    (∃ (c : Fin 4), ∃ (s : State), (cn s.m c).phase = .recovering) ∧
    (∃ (c : Fin 4), ∃ (s : State), cnOnBus s.m c = true ∧ cnListens s.m c = false) ∧
    (∃ (c : Fin 4), ∃ (w : Word), ∃ (s : State), bit w 31 = true ∧ objOwned s.m c 126 = false ∧ objOwned s.m c 127 = false ∧ tunEn s.m c = false) ∧
    (∃ (c : Fin 4), ∃ (w : Word), ∃ (s : State), bit w 31 = true ∧ (objOwned s.m c 126 = true ∨ objOwned s.m c 127 = true)) ∧
    (∃ (c : Fin 4), ∃ (f : CanFrame), ∃ (rest : List CanFrame), ∃ (s : State), (cn s.m c).tunReq = f :: rest ∧ tunEn s.m c = true ∧
        tunStatus s.m f = .ok ∧ (obj s.m c 127).tx ≠ txPending ∧ tunOp f = 1) ∧
    (∃ (c : Fin 4), ∃ (f : CanFrame), ∃ (rest : List CanFrame), ∃ (s : State), ∃ d, ∃ ix, (cn s.m c).tunReq = f :: rest ∧ tunEn s.m c = true ∧
        tunStatus s.m f = .ok ∧ (obj s.m c 127).tx ≠ txPending ∧
      let off := bits (tunWord f 0) 24 0
      tunOp f = 2 ∧ plainReg s.m false off d ix) :=
  ⟨⟨3, 0x80000000, sIdle, by decide +kernel⟩,
    ⟨3, 0xE0000000, sIdle, by decide +kernel⟩,
    ⟨3, sCan CnSt.reset, by decide +kernel⟩,
    ⟨3, sCan { CnSt.reset with phase := .integrating }, by decide +kernel⟩,
    ⟨3, sCan { CnSt.reset with phase := .busOff }, by decide +kernel⟩,
    ⟨3, sCan { CnSt.reset with phase := .recovering }, by decide +kernel⟩,
    ⟨3, sCan { CnSt.reset with phase := .active, recv := 254 }, by decide +kernel⟩,
    ⟨3, 0x80000000, sIdle, by decide +kernel⟩,
    ⟨1, 0x80000000, sIdle, by decide +kernel⟩,
    ⟨3, tunFrame 1 Reg.SYS_INT_EN, [], sTun [tunFrame 1 Reg.SYS_INT_EN], by decide +kernel⟩,
    ⟨3, tunFrame 2 Reg.SYS_INT_EN, [], sTun [tunFrame 2 Reg.SYS_INT_EN], dInt, [], by decide +kernel, by decide +kernel, by decide +kernel,
        by decide +kernel, by decide +kernel, ⟨by decide +kernel, by decide +kernel, by decide +kernel, by decide +kernel, by decide +kernel,
        by decide +kernel, by decide +kernel, by decide +kernel, ⟨by decide, by decide, by decide⟩, fun _ _ => by simp [writeSpecial,
        (by decide +kernel : bits (tunWord (tunFrame 2 Reg.SYS_INT_EN) 0) 24 0 = Reg.SYS_INT_EN)]⟩⟩⟩

theorem witness_CanObjects :
    (∃ (c : Fin 4), ∃ (f : CanFrame), ∃ (s : State), ∃ i, cnOnBus s.m c = true ∧ (f.fdf = true → s.m.rf (Reg.CAN_CN_CFG c.val) 28 28 = 1) ∧
        f.remote = false ∧ tunnelTakes s.m c f = false ∧ (List.finRange 128).find? (fun i => objMatches s.m c i f) = some i ∧
        objFeeds s.m c i = none ∧ dlcBytes f.fdf f.dlc ≤ f.data.length) ∧
    (∃ (c : Fin 4), ∃ (f : CanFrame), ∃ (s : State), cnOnBus s.m c = true ∧ (f.fdf = true → s.m.rf (Reg.CAN_CN_CFG c.val) 28 28 = 1) ∧
        f.remote = false ∧ tunnelTakes s.m c f = false ∧ (List.finRange 128).find? (fun i => objMatches s.m c i f) = none) ∧
    (∃ (c : Fin 4), ∃ (i : Fin 128), ∃ (s : State), objTunnel s.m c i = false ∧ objDriven s.m c i = none ∧ objDir s.m c i = 2 ∧
        (obj s.m c i).tx ≠ txPending) ∧
    (∃ (c : Fin 4), ∃ (i : Fin 128), ∃ (s : State), objTunnel s.m c i = false ∧ objDriven s.m c i = none ∧ (obj s.m c i).tx = txPending) ∧
    (∃ (c : Fin 4), ∃ (i : Fin 128), ∃ (s : State), objTunnel s.m c i = false ∧ objDriven s.m c i = none ∧ (obj s.m c i).tx = txPending) ∧
    (∃ (c : Fin 4), ∃ (i : Fin 128), ∃ (s : State), txWinner s.m c = some i ∧ cnSends s.m c = true) ∧
    (∃ (c : Fin 4), ∃ (i : Fin 128), ∃ (s : State), txWinner s.m c = some i ∧ cnSends s.m c = true) :=
  ⟨⟨3, ⟨false, 0, false, false, false, false, 8, List.replicate 8 1⟩, sObj 0x40000000 ObjSt.reset, 127, by decide +kernel⟩,
    ⟨3, ⟨false, 0, false, false, false, false, 8, List.replicate 8 1⟩, sObj 0 ObjSt.reset, by decide +kernel⟩,
    ⟨3, 127, sObj 0x80000000 ObjSt.reset, by decide +kernel⟩,
    ⟨3, 127, sObj 0x80000000 { ObjSt.reset with tx := txPending }, by decide +kernel⟩,
    ⟨3, 127, sObj 0x80000000 { ObjSt.reset with tx := txPending }, by decide +kernel⟩,
    ⟨3, 127, sObj 0x80000000 { ObjSt.reset with tx := txPending }, by decide +kernel⟩,
    ⟨3, 127, sObj 0x80000000 { ObjSt.reset with tx := txPending }, by decide +kernel⟩⟩

theorem witness_AshLogServes :
    (∃ (i : Initiator), ∃ (code : Nat), ∃ (s : State), 0x8000 ≤ code ∧ code ≤ 0xFFFF ∧ s.m.ash.appPosts < 16 ∧ s.m.ash.staged.length < 960 ∧
        s.m.ash.lost = 0 ∧
      let r := ashMake s.m code .operation (postData s.m (Initiator.idx i)) (some (Initiator.idx i))
      s.m.ash.staged.any r.same = false) ∧
    (∃ (i : Initiator), ∃ (code : Nat), ∃ (s : State), 0x8000 ≤ code ∧ code ≤ 0xFFFF ∧ s.m.ash.appPosts < 16 ∧ s.m.ash.staged.length < 960 ∧
        s.m.ash.lost = 0 ∧
      let r := ashMake s.m code .operation (postData s.m (Initiator.idx i)) (some (Initiator.idx i))
      s.m.ash.staged.any r.same = false) ∧
    (∃ (code : Nat), ∃ (s : State), (code < 0x8000 ∨ 0xFFFF < code ∨ 16 ≤ s.m.ash.appPosts)) ∧
    (∃ (code : Nat), ∃ (s : State), (code < 0x8000 ∨ 0xFFFF < code ∨ 16 ≤ s.m.ash.appPosts)) ∧
    (∃ (code : Nat), ∃ (s : State), (code < 0x8000 ∨ 0xFFFF < code ∨ 16 ≤ s.m.ash.appPosts)) ∧
    (∃ (i : Initiator), ∃ (key : Nat), ∃ (s : State), viewOf s.m i = true ∧ s.m.ash.clear = .none ∧ s.m.sec.lc ≠ .return_ ∧
        s.m.sec.lc ≠ .scrapped ∧ key = s.m.ash.head.toNat % 65536) ∧
    (∃ (i : Initiator), ∃ (key : Nat), ∃ (s : State), viewOf s.m i = true ∧ s.m.ash.clear = .none ∧ s.m.sec.lc ≠ .return_ ∧
        s.m.sec.lc ≠ .scrapped ∧ key ≠ s.m.ash.head.toNat % 65536) ∧
    (∃ (s : State), s.m.ash.clear = .running) :=
  ⟨⟨.tunnel 3, 0x8000, sIdle, by decide +kernel⟩,
    ⟨.core 3 .user, 0xFFFF, sIdle, by decide +kernel⟩,
    ⟨0x7FFF, sIdle, by decide +kernel⟩,
    ⟨0x10000, sIdle, by decide +kernel⟩,
    ⟨0x8000, sAsh fun a => { a with appPosts := 16 }, by decide +kernel⟩,
    ⟨.debug, 0, sIdle, by decide +kernel⟩,
    ⟨.debug, 1, sIdle, by decide +kernel⟩,
    ⟨sAsh fun a => { a with clear := .running }, by decide +kernel⟩⟩

theorem witness_LifeCycleAndKeys :
    (∃ (n : Fin 8), ∃ (r : LcReq), ∃ (s : State), sessActive s.m n = true ∧ lcCheck s.m r = 0 ∧ s.m.pwr.asleep = false ∧ s.m.pwr.hold = none) ∧
    (∃ (n : Fin 8), ∃ (r : LcReq), ∃ (s : State), sessActive s.m n = true ∧ lcCheck s.m r ≠ 0) ∧
    (∃ (n : Fin 8), ∃ (r : EnrolRec), ∃ (k : Fin 64), ∃ (s : State), sessActive s.m n = true ∧ recordHere s.m r = true ∧ r.target = .slot k ∧
        keyAuthority s.m n r k.val = true) ∧
    (∃ (n : Fin 8), ∃ (r : EnrolRec), ∃ (k : Fin 64), ∃ (s : State), sessActive s.m n = true ∧ recordHere s.m r = true ∧ r.target = .slot k ∧
        keyAuthority s.m n r k.val = true) ∧
    (∃ (n : Fin 8), ∃ (r : EnrolRec), ∃ (k : Fin 64), ∃ (s : State), sessActive s.m n = true ∧ recordHere s.m r = true ∧ r.target = .slot k ∧
        keyAuthority s.m n r k.val = true ∧ 4 ≤ k.val) ∧
    (∃ (n : Fin 8), ∃ (r : EnrolRec), ∃ (k : Fin 64), ∃ (s : State), sessActive s.m n = true ∧ recordHere s.m r = true ∧ r.target = .slot k ∧
        keyAuthority s.m n r k.val = true ∧ 4 ≤ k.val) ∧
    (∃ (n : Fin 8), ∃ (r : EnrolRec), ∃ (k : Fin 64), ∃ (s : State), sessActive s.m n = true ∧ recordHere s.m r = true ∧ r.target = .slot k ∧
        keyAuthority s.m n r k.val = true ∧ k.val < 4) ∧
    (∃ (n : Fin 8), ∃ (r : EnrolRec), ∃ (k : Fin 64), ∃ (s : State), sessActive s.m n = true ∧ recordHere s.m r = true ∧ r.target = .slot k ∧
        keyAuthority s.m n r k.val = false) ∧
    (∃ (n : Fin 8), ∃ (r : EnrolRec), ∃ (k : Fin 64), ∃ (s : State), sessActive s.m n = true ∧ recordHere s.m r = true ∧ r.target = .slot k ∧
        keyAuthority s.m n r k.val = false) ∧
    (∃ (n : Fin 8), ∃ (r : EnrolRec), ∃ (s : State), sessActive s.m n = true ∧ recordHere s.m r = true ∧ r.target = .ownerRoot ∧
        ownerRootOk s.m n r = true) :=
  ⟨⟨7, ⟨5, 0, 0, .slot 3, true⟩, sActive, by decide +kernel⟩,
    ⟨7, ⟨5, 0, 0, .slot 3, false⟩, sActive, by decide +kernel⟩,
    ⟨7, ⟨.slot 31, true, [1], 0, none, false⟩, 31, sActive, by decide +kernel⟩,
    ⟨7, ⟨.slot 63, true, [1], 0, some .ownerRoot, true⟩, 63, sOwner, by decide +kernel⟩,
    ⟨7, ⟨.slot 31, true, [1], 0, none, false⟩, 31, sActive, by decide +kernel⟩,
    ⟨7, ⟨.slot 8, true, [1], 0, some (.slot 3), true⟩, 8, sActive, by decide +kernel⟩,
    ⟨7, ⟨.slot 3, true, [1], 0, none, false⟩, 3, sManufacture, by decide +kernel⟩,
    ⟨7, ⟨.slot 7, true, [1], 0, none, false⟩, 7, sActive, by decide +kernel⟩,
    ⟨7, ⟨.slot 4, true, [1], 0, none, false⟩, 4, sActive, by decide +kernel⟩,
    ⟨7, ⟨.ownerRoot, false, [1], 0, some (.slot 0), true⟩, sActive, by decide +kernel⟩⟩

theorem witness_PackageDelivery :
    (∃ (n : Fin 8), ∃ (bs : List Byte), ∃ (s : State), sessPriv s.m n = true ∧ beginCheck s.m bs = 0) ∧
    (∃ (n : Fin 8), ∃ (bs : List Byte), ∃ (s : State), sessPriv s.m n = true ∧ beginCheck s.m bs ≠ 0) ∧
    (∃ (n : Fin 8), ∃ (off : Nat), ∃ (bs : List Byte), ∃ (s : State), sessPriv s.m n = true ∧ s.m.sec.delivery = some .session ∧
      let p := slotOf s.m (inactive s.m)
      blockCheck p off bs = 0 ∧ p.blockAt off = none) ∧
    (∃ (n : Fin 8), ∃ (s : State), ∃ image, sessPriv s.m n = true ∧ s.m.sec.delivery = some .session ∧
      let p := slotOf s.m (inactive s.m)
      let body := p.bytes
      let good := sha384 (sliceAt body 256 (pkgLen p.hdr - 352)) = sliceAt p.hdr 208 48
      p.complete = true ∧ good ∧ (pkgHasSt p.hdr = true → Config.openStructure p.hdr (sliceAt body (leAt p.hdr 104 4)
        (leAt p.hdr 108 4)) = some image) ∧ (pkgHasSt p.hdr = false → image = (slotOf s.m s.m.sec.boot.active).image)) ∧
    (∃ (n : Fin 8), ∃ (s : State), sessPriv s.m n = true ∧ s.m.sec.delivery = some .session ∧
      let p := slotOf s.m (inactive s.m)
      p.complete = false) ∧
    (∃ (n : Fin 8), ∃ (s : State), sessPriv s.m n = true ∧ s.m.sec.delivery = some .session ∧
      let p := slotOf s.m (inactive s.m)
      let body := p.bytes
      let good := sha384 (sliceAt body 256 (pkgLen p.hdr - 352)) = sliceAt p.hdr 208 48
      p.complete = true ∧ ¬good) ∧
    (∃ (n : Fin 8), ∃ (s : State), sessPriv s.m n = true ∧ s.m.sec.delivery = some .session) ∧
    (∃ (q : Fin 2), ∃ (f : FlueFrameIn), ∃ (s : State), carries s.m q = true ∧ s.m.sec.delivery = some .flue ∧
      let p := slotOf s.m (inactive s.m)
      let p1 := { p with blocks := Sparse.insert (leAt f.payload 0 4) (f.payload.drop 4) p.blocks }
      blockCheck p (leAt f.payload 0 4) (f.payload.drop 4) = 0 ∧ p.blockAt (leAt f.payload 0 4) = none ∧ p1.complete = false) :=
  ⟨⟨7, pkgHdr 4096 1, sActive, by decide +kernel⟩,
    ⟨7, [], sActive, by decide +kernel⟩,
    ⟨7, 0, pkgBody 1, sPkg (pkg 1 []), by decide +kernel⟩,
    ⟨7, sPkg (pkg bodyDigest [(0, pkgBody bodyDigest)]), [], by decide +kernel, by decide +kernel, by decide +kernel, by decide +kernel,
        fun h => absurd h (by decide +kernel), fun _ => rfl⟩,
    ⟨7, sPkg (pkg 1 []), by decide +kernel⟩,
    ⟨7, sPkg (pkg 1 [(0, pkgBody 1)]), by decide +kernel⟩,
    ⟨7, sPkg (pkg 1 []), by decide +kernel⟩,
    ⟨1, flue0 3 0 (leBytes 4 0 ++ pkgHdr 368 1), sPkgFlue, by decide +kernel⟩⟩

theorem witness_ActivationRuns :
    (∃ (i : Initiator), ∃ (sig : Bool), ∃ (s : State), ∃ l, viewOf s.m i = true ∧ actCheck s.m = 0 ∧ s.m.grate.loader = .idle ∧
        s.m.grate.candRunning = false ∧ checkImage (imageEnv s.m sig) (inactive s.m) (slotOf s.m (inactive s.m)).image = .ok l) ∧
    (∃ (i : Initiator), ∃ (s : State), viewOf s.m i = true ∧ actCheck s.m ≠ 0) ∧
    (∃ (s : State), s.m.sec.act = .preparing ∧ s.m.grate.loader = .swapPending ∧ (s.m.pwr.arm = .disarmed ∨ s.m.sec.disarm = true) ∧
        (ringsClear s.m = true ∨ s.m.sec.force = true) ∧ s.m.nextBoundary < 2 ^ 64) ∧
    (∃ (s : State), s.m.sec.warmDue = true) :=
  ⟨⟨.debug, true, sImage, imageGot (checked sImage.m .b), by decide +kernel, by decide +kernel, by decide +kernel, by decide +kernel,
        ok_of_imageOk (by decide +kernel : imageOk (checked sImage.m .b) = true)⟩,
    ⟨.debug, sIdle, by decide +kernel⟩,
    ⟨sSwapPrep, by decide +kernel⟩,
    ⟨sBoot fun x => { x with warmDue := true }, by decide +kernel⟩⟩

theorem witness_BootAndTrial :
    (∃ (s : State),
      let m := s.m.updSec fun x => { x with lc := lifeOf x.fuses }
      m.sec.lc = .scrapped) ∧
    (∃ (v : BootSeen), ∃ (s : State),
      let m := s.m.updSec fun x => { x with lc := lifeOf x.fuses }
      let sl := s.m.sec.boot.active
      m.sec.lc ≠ .scrapped ∧ s.m.sec.bootFail = none ∧ s.m.sec.boot.trial = false ∧ bootFault m v sl = 0) ∧
    (∃ (v : BootSeen), ∃ (s : State),
      let m := s.m.updSec fun x => { x with lc := lifeOf x.fuses }
      let sl := s.m.sec.boot.active
      m.sec.lc ≠ .scrapped ∧ s.m.sec.bootFail = none ∧ s.m.sec.boot.trial = false ∧ bootFault m v sl ≠ 0 ∧ bootFault m v (otherSlot sl) = 0) ∧
    (∃ (v : BootSeen), ∃ (s : State),
      let m := s.m.updSec fun x => { x with lc := lifeOf x.fuses }
      let sl := s.m.sec.boot.active
      m.sec.lc ≠ .scrapped ∧ s.m.sec.bootFail = none ∧ s.m.sec.boot.trial = false ∧ bootFault m v sl ≠ 0 ∧ bootFault m v (otherSlot sl) ≠ 0) ∧
    (∃ (o : Nat), ∃ (s : State), s.m.sec.bootWait = some o ∧ o + 800000000 < 2 ^ 64) ∧
    (∃ (i : Initiator), ∃ (s : State), viewOf s.m i = true ∧ s.m.sec.boot.trial = true ∧ s.m.sec.warmDue = false) ∧
    (∃ (i : Initiator), ∃ (s : State), viewOf s.m i = true ∧ s.m.sec.boot.trial = true ∧ s.m.sec.warmDue = false) :=
  ⟨⟨sBoot fun x => { x with fuses := { x.fuses with scrap := true } }, by decide +kernel⟩,
    ⟨⟨true, true, true, true⟩, sBoot fun x => { x with slotA := storedPkg }, by decide +kernel⟩,
    ⟨⟨true, true, true, true⟩, sBoot fun x => { x with slotB := storedPkg }, by decide +kernel⟩,
    ⟨⟨true, true, true, true⟩, sIdle, by decide +kernel⟩,
    ⟨5, sBoot fun x => { x with bootWait := some 5 }, by decide +kernel⟩,
    ⟨.debug, sBoot fun x => { x with boot := { x.boot with trial := true } }, by decide +kernel⟩,
    ⟨.core 3 .machine, sBoot fun x => { x with boot := { x.boot with trial := true } }, by decide +kernel⟩⟩

theorem witness_ArmingAndSupplies :
    (∃ (i : Initiator), ∃ (s : State), s.m.pwr.arm = .disarmed ∧ armPermitted s.m (viewOf s.m i) = true ∧ s.m.structActive = true ∧
        s.m.sec.lc ≠ .scrapped ∧ s.m.grate.restoring = false ∧ s.m.sec.act ≠ .pause ∧ s.m.pwr.asleep = false ∧ (List.finRange 128).filter
        (probeDue s.m) = []) ∧
    (∃ (i : Initiator), ∃ (s : State), s.m.pwr.arm = .disarmed ∧ armPermitted s.m (viewOf s.m i) = true ∧ s.m.structActive = true ∧
        s.m.sec.lc ≠ .scrapped ∧ s.m.grate.restoring = false ∧ s.m.sec.act ≠ .pause ∧ s.m.pwr.asleep = false ∧ (List.finRange 128).filter
        (probeDue s.m) ≠ []) ∧
    (∃ (i : Initiator), ∃ (s : State), s.m.pwr.arm = .disarmed ∧ armPermitted s.m (viewOf s.m i) = false) ∧
    (∃ (i : Initiator), ∃ (s : State), s.m.pwr.arm ≠ .disarmed ∧ armPermitted s.m (viewOf s.m i) = true) ∧
    (∃ (s : State), s.m.pwr.arm = .armed ∧ s.m.cf Reg.PWR_ARM_WD 13 0 ≠ 0) ∧
    (∃ (mv : Nat), ∃ (s : State), mv < 8000 ∧ s.m.pwr.vbatWarn = false) ∧
    (∃ (mv : Nat), ∃ (s : State), 8500 ≤ mv ∧ s.m.pwr.vbatWarn = true) ∧
    (∃ (mv : Nat), 40000 < mv) ∧
    (∃ (temp : Int), 1200 ≤ temp) ∧
    (∃ (p : NandPage), ∃ (s : State), (s.m.sec.delivery = none ∨ p.slot ≠ some (inactive s.m)) ∧ p.bad = false ∧ 4 ≤ p.worst) ∧
    (∃ (p : NandPage), ∃ (s : State), ∃ sl, (s.m.sec.delivery = none ∨ p.slot ≠ some (inactive s.m)) ∧ p.bad = true ∧ p.slot = some sl) :=
  ⟨⟨.debug, sIdle, by decide +kernel⟩,
    ⟨.debug, sProbe, by decide +kernel⟩,
    ⟨.tunnel 3, st (rg Reg.PWR_CFG 0x80000000), by decide +kernel⟩,
    ⟨.debug, sPwr fun x => { x with arm := .armed }, by decide +kernel⟩,
    ⟨st fun m => rg Reg.PWR_ARM_WD 10 (withPwr (fun x => { x with arm := .armed }) m), by decide +kernel⟩,
    ⟨7999, sIdle, by decide +kernel⟩,
    ⟨8500, sPwr fun x => { x with vbatWarn := true }, by decide +kernel⟩,
    ⟨40001, by decide +kernel⟩,
    ⟨1200, by decide +kernel⟩,
    ⟨⟨none, 4, 4, 0, 0, false⟩, sIdle, by decide +kernel⟩,
    ⟨⟨some .b, 0, 0, 0, 0, true⟩, sIdle, .b, by decide +kernel⟩⟩

theorem witness_ResetsAndStartUp :
    (∃ (c : Instr), ∃ (cause : ResetCause), ∃ (s : State), ((c = .firmwareWatchdog ∧ cause = .watchdog) ∨ (∃ mv, mv < 6500 ∧ c = .vbatLow mv ∧
        cause = .vbatLow) ∨ (∃ i, viewOf s.m i = true ∧ c = .reset i ∧ cause = .software) ∨ (s.m.sec.lc ≠ .field ∧ s.m.sec.lc ≠ .scrapped ∧
        c = .debugReset ∧ cause = .debug) ∨ (∃ temp : Int, 1350 ≤ temp ∧ c = .thermal temp ∧ cause = .thermal)) ∧ s.m.pwr.asleep = false ∧
        s.m.pwr.hold = none) ∧
    (∃ (c : Instr), ∃ (cause : ResetCause), ∃ (s : State), ((c = .firmwareWatchdog ∧ cause = .watchdog) ∨ (∃ mv, mv < 6500 ∧ c = .vbatLow mv ∧
        cause = .vbatLow) ∨ (∃ i, viewOf s.m i = true ∧ c = .reset i ∧ cause = .software) ∨ (s.m.sec.lc ≠ .field ∧ s.m.sec.lc ≠ .scrapped ∧
        c = .debugReset ∧ cause = .debug) ∨ (∃ temp : Int, 1350 ≤ temp ∧ c = .thermal temp ∧ cause = .thermal)) ∧ s.m.pwr.asleep = false ∧
        s.m.pwr.hold = none) ∧
    (∃ (c : Instr), ∃ (cause : ResetCause), ∃ (s : State), ((c = .firmwareWatchdog ∧ cause = .watchdog) ∨ (∃ mv, mv < 6500 ∧ c = .vbatLow mv ∧
        cause = .vbatLow) ∨ (∃ i, viewOf s.m i = true ∧ c = .reset i ∧ cause = .software) ∨ (s.m.sec.lc ≠ .field ∧ s.m.sec.lc ≠ .scrapped ∧
        c = .debugReset ∧ cause = .debug) ∨ (∃ temp : Int, 1350 ≤ temp ∧ c = .thermal temp ∧ cause = .thermal)) ∧ s.m.pwr.asleep = false ∧
        s.m.pwr.hold = none) ∧
    (∃ (c : Instr), ∃ (cause : ResetCause), ∃ (s : State), ((c = .firmwareWatchdog ∧ cause = .watchdog) ∨ (∃ mv, mv < 6500 ∧ c = .vbatLow mv ∧
        cause = .vbatLow) ∨ (∃ i, viewOf s.m i = true ∧ c = .reset i ∧ cause = .software) ∨ (s.m.sec.lc ≠ .field ∧ s.m.sec.lc ≠ .scrapped ∧
        c = .debugReset ∧ cause = .debug) ∨ (∃ temp : Int, 1350 ≤ temp ∧ c = .thermal temp ∧ cause = .thermal)) ∧ s.m.pwr.asleep = false ∧
        s.m.pwr.hold = none) ∧
    (∃ (c : Instr), ∃ (cause : ResetCause), ∃ (s : State), ((c = .firmwareWatchdog ∧ cause = .watchdog) ∨ (∃ mv, mv < 6500 ∧ c = .vbatLow mv ∧
        cause = .vbatLow) ∨ (∃ i, viewOf s.m i = true ∧ c = .reset i ∧ cause = .software) ∨ (s.m.sec.lc ≠ .field ∧ s.m.sec.lc ≠ .scrapped ∧
        c = .debugReset ∧ cause = .debug) ∨ (∃ temp : Int, 1350 ≤ temp ∧ c = .thermal temp ∧ cause = .thermal)) ∧ s.m.pwr.asleep = false ∧
        s.m.pwr.hold = none) ∧
    (∃ (c : Instr), ∃ (cause : ResetCause), ∃ (s : State), ∃ h, ((c = .firmwareWatchdog ∧ cause = .watchdog) ∨ (∃ mv, mv < 6500 ∧ c = .vbatLow mv ∧
        cause = .vbatLow) ∨ (∃ i, viewOf s.m i = true ∧ c = .reset i ∧ cause = .software) ∨ (s.m.sec.lc ≠ .field ∧ s.m.sec.lc ≠ .scrapped ∧
        c = .debugReset ∧ cause = .debug) ∨ (∃ temp : Int, 1350 ≤ temp ∧ c = .thermal temp ∧ cause = .thermal)) ∧ s.m.pwr.asleep = false ∧
        s.m.pwr.hold = some h) ∧
    (∃ (h : ResetHold), ∃ (s : State), s.m.pwr.hold = some h ∧ h.onset + 400000 < 2 ^ 64) ∧
    (∃ (h : ResetHold), ∃ (s : State), ∃ mv, s.m.pwr.hold = some h ∧ h.onset + 400000 < 2 ^ 64 ∧ 7000 ≤ mv) ∧
    (∃ (mv : Nat), ∃ (s : State), 7000 ≤ mv ∧ s.m.pwr.hold = none ∧ s.m.pwr.domains = 1 ∧ s.m.pwr.asleep = false) ∧
    (∃ (s : State), s.m.pwr.hold = none ∧ s.m.pwr.pd2Hold = none) ∧
    (∃ (o : Nat), ∃ (s : State), s.m.pwr.hold = none ∧ s.m.pwr.pd2Hold = some o) ∧
    (∃ (o : Nat), ∃ (sig : Bool), ∃ (l : Loaded), ∃ (s : State), s.m.pwr.pd2Hold = some o ∧ o + 400000 < 2 ^ 64 ∧ s.m.grate.loader = .idle ∧
        checkImage (imageEnv s.m sig) s.m.sec.boot.active (slotOf s.m s.m.sec.boot.active).image = .ok l) ∧
    (∃ (s : State), s.m.grate.restoring = true) :=
  ⟨⟨.firmwareWatchdog, .watchdog, sIdle, .inl ⟨rfl, rfl⟩, by decide +kernel, by decide +kernel⟩,
    ⟨.vbatLow 6499, .vbatLow, sIdle, .inr (.inl ⟨6499, by decide, rfl, rfl⟩), by decide +kernel, by decide +kernel⟩,
    ⟨.reset .debug, .software, sIdle, .inr (.inr (.inl ⟨.debug, by decide +kernel, rfl, rfl⟩)), by decide +kernel, by decide +kernel⟩,
    ⟨.debugReset, .debug, sIdle, .inr (.inr (.inr (.inl ⟨by decide +kernel, by decide +kernel, rfl, rfl⟩))), by decide +kernel, by decide +kernel⟩,
    ⟨.thermal 1350, .thermal, sIdle, .inr (.inr (.inr (.inr ⟨1350, by decide, rfl, rfl⟩))), by decide +kernel, by decide +kernel⟩,
    ⟨.firmwareWatchdog, .watchdog, sPwr fun x => { x with hold := some ⟨.wake, 4000000, false⟩ }, ⟨.wake, 4000000, false⟩, .inl ⟨rfl, rfl⟩,
        by decide +kernel, by decide +kernel⟩,
    ⟨⟨.wake, 4000000, false⟩, sPwr fun x => { x with hold := some ⟨.wake, 4000000, false⟩ }, by decide +kernel⟩,
    ⟨⟨.wake, 4000000, false⟩, sPwr fun x => { x with hold := some ⟨.wake, 4000000, false⟩ }, 7000, by decide +kernel⟩,
    ⟨7000, sPwr fun x => { x with domains := 1 }, by decide +kernel⟩,
    ⟨sIdle, by decide +kernel⟩,
    ⟨4000000, sPwr fun x => { x with pd2Hold := some 4000000 }, by decide +kernel⟩,
    ⟨4000000, true, imageGot (checked sPd2.m .a), sPd2, by decide +kernel, by decide +kernel, by decide +kernel, ok_of_imageOk
        (by decide +kernel : imageOk (checked sPd2.m .a) = true)⟩,
    ⟨st fun m => { m with grate := { m.grate with restoring := true } }, by decide +kernel⟩⟩

theorem witness_SleepAndPowerLoss :
    (∃ (c : Instr), ∃ (s : State), ((∃ i, viewOf s.m i = true ∧ s.m.pwr.arm = .disarmed ∧ c = .sleep i) ∨ (s.m.pwr.hold = none ∧
        s.m.cb Reg.PWR_CFG 30 = true ∧ c = .wakeFollowSleep)) ∧ s.m.pwr.asleep = false ∧ sleepBusy s.m = false) ∧
    (∃ (c : Instr), ∃ (s : State), ((∃ i, viewOf s.m i = true ∧ s.m.pwr.arm = .disarmed ∧ c = .sleep i) ∨ (s.m.pwr.hold = none ∧
        s.m.cb Reg.PWR_CFG 30 = true ∧ c = .wakeFollowSleep)) ∧ s.m.pwr.asleep = false ∧ sleepBusy s.m = false) ∧
    (∃ (i : Initiator), ∃ (s : State), viewOf s.m i = true ∧ s.m.pwr.asleep = false ∧ s.m.pwr.arm ≠ .disarmed) ∧
    (∃ (src : Nat), ∃ (s : State), s.m.pwr.asleep = true ∧ wakeEnabled s.m src ≠ 0) :=
  ⟨⟨.sleep .debug, sIdle, .inl ⟨.debug, by decide +kernel, by decide +kernel, rfl⟩, by decide +kernel, by decide +kernel⟩,
    ⟨.wakeFollowSleep, st (rg Reg.PWR_CFG 0x40000000), .inr ⟨by decide +kernel, by decide +kernel, rfl⟩, by decide +kernel, by decide +kernel⟩,
    ⟨.debug, sPwr fun x => { x with arm := .armed }, by decide +kernel⟩,
    ⟨1, sPwr fun x => { x with asleep := true }, by decide +kernel⟩⟩

end Sys2Proof.Tests
end

section
/-! Accesses through the register views (R51, R53, R58), and what they do where no register is (R1, R11). -/

namespace Sys2Proof.Proofs

open Sys2Proof Sys2Proof.Machine

/-! ## Accesses through a view -/

theorem viewAt_viewAddr (priv : Bool) {off : Nat} (inView : off < viewLen) : viewAt (viewAddr priv off) = some (priv, off) := by
  unfold viewLen at inView
  cases priv
  · have outside : ¬ (0x60000000 + off < 0x60000000) := by omega
    have below : 0x60000000 + off < 0x80000000 := by omega
    simp [viewAt, viewAddr, privBase, unprivBase, outside, below]
  · have below : 0x40000000 + off < 0x60000000 := by omega
    simp [viewAt, viewAddr, privBase, unprivBase, below]

theorem viewRefusal_eq_none {m : Module} {i : Initiator} {priv : Bool} {off : Nat} (inView : off < viewLen) (aligned : off % 4 = 0)
    (may : granted m i priv = true) : viewRefusal m i priv off 4 = none := by
  simp [viewRefusal, Nat.not_le.2 inView, aligned, may]

/-- An aligned load through a granted view answers the register read. -/
theorem busRead_viewAddr {i : Initiator} {priv : Bool} {off : Nat} {s : State} (inView : off < viewLen) (aligned : off % 4 = 0)
    (here : present s.m i = true) (may : granted s.m i priv = true) :
    busRead i ⟨viewAddr priv off, 4⟩ s =
      s.onModule fun m => (regRead (Initiator.idx i) priv off m).2.send (answerTo i)
        (leBytes 4 (regRead (Initiator.idx i) priv off m).1.toNat) := by
  simp [busRead, here, viewAt_viewAddr priv inView, viewRefusal_eq_none inView aligned may]

/-- An aligned store through a granted view, unless RESTORING holds it off, is the register write. -/
theorem busWrite_viewAddr {i : Initiator} {priv : Bool} {off : Nat} {s : State} (value : Nat) (inView : off < viewLen)
    (aligned : off % 4 = 0) (here : present s.m i = true) (may : granted s.m i priv = true)
    (passes : restoringAt s.m off = true → heldOff i = false) :
    busWrite i ⟨viewAddr priv off, 4, value⟩ s = regWrite i priv off (w32 value) s := by
  have notHeld : ¬ (restoringAt s.m off = true ∧ heldOff i = true) := fun ⟨restoring, held⟩ => by simp [passes restoring] at held
  simp [busWrite, viewWrite, here, viewAt_viewAddr priv inView, viewRefusal_eq_none inView aligned may, notHeld]

/-! ## Where no register is -/

/-- No register answers at `off`: none occupies it (R11), or this variant lacks its block (R1). -/
def noRegister (m : Module) (off : Nat) : Prop := regAt off = none ∨ absent m off = true

theorem absent_of_gnss {m : Module} {off : Nat} (variantP : m.variant = .p) (gnss : off / 0x100000 = 9) : absent m off = true := by
  simp [absent, gnss, variantP]

/-- The GNSS block is none of the blocks whose settings are restored (R42). -/
theorem restoringAt_of_gnss (m : Module) {off : Nat} (gnss : off / 0x100000 = 9) : restoringAt m off = false := by
  have notSwap : inSwapBlock off = false := by unfold inSwapBlock; rw [gnss]; decide
  simp [restoringAt, notSwap]

theorem regRead_of_noRegister {m : Module} {off : Nat} (vacant : noRegister m off) (who : Nat) (priv : Bool) :
    regRead who priv off m = (0, m) := by
  unfold regRead
  obtain unoccupied | lacking := vacant
  · rw [unoccupied]
  · split
    · rfl
    · rw [if_pos lacking]

theorem regWrite_of_noRegister {s : State} {off : Nat} (vacant : noRegister s.m off) (i : Initiator) (priv : Bool) (w : Word) :
    regWrite i priv off w s = s := by
  unfold regWrite
  obtain unoccupied | lacking := vacant
  · rw [unoccupied]
  · split
    · rfl
    · simp [lacking]

theorem load_of_noRegister {i : Initiator} {priv : Bool} {off : Nat} {s : State} (vacant : noRegister s.m off) (inView : off < viewLen)
    (aligned : off % 4 = 0) (here : present s.m i = true) (may : granted s.m i priv = true) :
    Answers (.snapshotLatchRead i ⟨viewAddr priv off, 4⟩) s fun t =>
      t.m = { s.m with out := ⟨answerTo i, s.m.mt, leBytes 4 0⟩ :: s.m.out } ∧ t.mem = s.mem := by
  refine ⟨busRead i ⟨viewAddr priv off, 4⟩ s, rfl, ?_⟩
  rw [busRead_viewAddr inView aligned here may]
  simp [State.onModule, Module.send, regRead_of_noRegister vacant]

theorem store_of_noRegister {i : Initiator} {priv : Bool} {off : Nat} {s : State} (value : Nat) (vacant : noRegister s.m off)
    (inView : off < viewLen) (aligned : off % 4 = 0) (here : present s.m i = true) (may : granted s.m i priv = true)
    (passes : restoringAt s.m off = true → heldOff i = false) :
    Answers (.registerWrite i ⟨viewAddr priv off, 4, value⟩) s fun t => t = s := by
  refine ⟨busWrite i ⟨viewAddr priv off, 4, value⟩ s, rfl, ?_⟩
  rw [busWrite_viewAddr value inView aligned here may passes, regWrite_of_noRegister vacant]

/-- Settles O12: both cases are offsets at which no register answers, and RESTORING does not reach the GNSS block. -/
theorem absentRegistersReadZero : Obligations.AbsentRegistersReadZero := by
  intro i priv off value s premise
  have ⟨vacant, inView, passes⟩ :
      noRegister s.m off ∧ off < viewLen ∧ (restoringAt s.m off = true → heldOff i = false) := by
    obtain ⟨variantP, gnss⟩ | ⟨unoccupied, inView, passes⟩ := premise
    · have inView : off < viewLen := by unfold viewLen; omega
      exact ⟨.inr (absent_of_gnss variantP gnss), inView, by simp [restoringAt_of_gnss s.m gnss]⟩
    · exact ⟨.inl unoccupied, inView, passes⟩
  exact ⟨regRead_of_noRegister vacant _ _, fun w => regWrite_of_noRegister vacant i priv w, fun aligned here may =>
    ⟨load_of_noRegister vacant inView aligned here may, store_of_noRegister value vacant inView aligned here may passes⟩⟩

end Sys2Proof.Proofs
end

section
/-! Loads that fail (R43): the record each leaves in the Ash log (R353 to R355), and what GRATE_STATUS and GRATE_ERR_LOC then show. -/

namespace Sys2Proof.Proofs

open Sys2Proof Sys2Proof.Machine Sys2Proof.Laws

/-! ## Posting a record (R353, R354) -/

@[simp] theorem ashWriteOne_cover (m : Module) (r : AshRec) : (ashWriteOne m r).cover = m.cover := by
  unfold ashWriteOne
  dsimp only
  split <;> rfl

@[simp] theorem ashWrite_cover (m : Module) (n : Nat) : (ashWrite m n).cover = m.cover :=
  foldl_keep Module.cover ashWriteOne ashWriteOne_cover _ _

@[simp] theorem ashOverflow_cover (m : Module) : (ashOverflow m).cover = m.cover := by unfold ashOverflow; split <;> rfl

/-- A post to the log leaves the coverage engine. -/
@[simp] theorem ashPost_cover (m : Module) (code : Nat) (cls : AshClass) (data : List Byte) (by_ : Option Nat) :
    (ashPost m code cls data by_).cover = m.cover := by
  simp [ashPost, apply_ite Module.cover, ashDrop, ashStage]

/-- The OVERFLOW record takes one entry of the staging at most. -/
theorem ashOverflow_staged_length_le (m : Module) : (ashOverflow m).ash.staged.length ≤ m.ash.staged.length + 1 := by
  unfold ashOverflow
  split <;> simp [ashStage]

/-- Records that merge have one CODE. -/
theorem code_eq_of_same {r s : AshRec} (same : r.same s = true) : r.code = s.code := by
  simp only [AshRec.same, Bool.and_eq_true, beq_iff_eq] at same
  obtain ⟨⟨⟨code, _⟩, _⟩, _⟩ := same
  exact code

/-- A post of any class but POWER is staged, as a record of its own or merged into one of the same CODE, unless the staging is full. -/
theorem ashPost_staged_or_full (m : Module) (code : Nat) {cls : AshClass} (data : List Byte) (by_ : Option Nat) (notPower : cls ≠ .power) :
    (∃ r ∈ (ashPost m code cls data by_).ash.staged, r.code = code) ∨ ashStaging ≤ m.ash.staged.length + 1 := by
  have overflow := ashOverflow_staged_length_le m
  unfold ashPost
  simp only [beq_eq_false_iff_ne.2 notPower, Bool.false_and, Bool.false_eq_true, if_false]
  split
  case isTrue merges =>
    obtain ⟨r, staged, same⟩ := List.any_eq_true.1 merges
    exact .inl ⟨r.again, List.mem_map.2 ⟨r, staged, if_pos same⟩, (code_eq_of_same same).symm⟩
  case isFalse =>
    split
    case isTrue full => exact .inr (by omega)
    case isFalse =>
      split
      case isTrue full => exact .inr (by omega)
      case isFalse => exact .inl ⟨_, List.mem_append_right _ (List.mem_singleton_self _), rfl⟩

/-! ## What the Grate shows -/

theorem liveValue_GRATE_STATUS (m : Module) : liveValue m Reg.GRATE_STATUS =
    w32 (m.grate.loadErr.code * 65536 + ofActive (fun l => slotNum l.slot) m * 8 + m.grate.loader.code * 2 + b2n m.structActive) := rfl

theorem liveValue_GRATE_ERR_LOC (m : Module) :
    liveValue m Reg.GRATE_ERR_LOC = w32 (m.grate.errRecord * 65536 + m.grate.errByte) := rfl

theorem loadErr_code_lt (e : LoadErr) : e.code < 256 := by cases e <;> decide

theorem loader_code_lt (l : Loader) : l.code < 3 := by cases l <;> decide

theorem slotNum_lt (slot : Slot) : slotNum slot < 2 := by cases slot <;> decide

theorem ofActive_slotNum_lt (m : Module) : ofActive (fun l => slotNum l.slot) m < 2 := by
  unfold ofActive
  split
  · exact slotNum_lt _
  · decide

theorem b2n_lt (b : Bool) : b2n b < 2 := by cases b <;> decide

/-- Bits 23 to 16 of GRATE_STATUS are LOAD_ERR. -/
theorem fld_GRATE_STATUS_loadErr (m : Module) : fld (liveValue m Reg.GRATE_STATUS) 23 16 = m.grate.loadErr.code := by
  have code := loadErr_code_lt m.grate.loadErr
  have loader := loader_code_lt m.grate.loader
  have slot := ofActive_slotNum_lt m
  have active := b2n_lt m.structActive
  rw [liveValue_GRATE_STATUS]
  simp only [fld, bits, w32, BitVec.toNat_ofNat]
  omega

/-! ## Failed loads (R43) -/

section
variable (m : Module) (slot : Slot) (f : LoadFail)

@[simp] theorem loadFailed_grate :
    (loadFailed m slot f).grate = { m.grate with loadErr := f.err, errRecord := f.record, errByte := f.byte } := by
  simp [loadFailed, Module.updGrate]

@[simp] theorem loadFailed_axes : (loadFailed m slot f).axes = m.axes := by simp [loadFailed]
@[simp] theorem loadFailed_learn : (loadFailed m slot f).learn = m.learn := by simp [loadFailed]
@[simp] theorem loadFailed_gnss : (loadFailed m slot f).gnss = m.gnss := by simp [loadFailed]
@[simp] theorem loadFailed_cover : (loadFailed m slot f).cover = m.cover := by simp [loadFailed]
@[simp] theorem loadFailed_loops : (loadFailed m slot f).loops = m.loops := by simp [loadFailed]

/-- LOAD_FAIL is raised: the record posted after it leaves the flags of the Grate. -/
theorem loadFailed_raises_loadFail : bit ((loadFailed m slot f).rd Reg.GRATE_INT_STATUS) 1 = true := by
  have beside : noteKeep Reg.GRATE_INT_STATUS := by decide
  rw [loadFailed, noteRd_ashPost beside]
  exact bit_raise _ _ 1 (by decide)

theorem loadFailed_staged_or_full :
    (∃ r ∈ (loadFailed m slot f).ash.staged, r.code = 0x0010) ∨ ashStaging ≤ m.ash.staged.length + 1 :=
  ashPost_staged_or_full ((m.updGrate _).raise Reg.GRATE_INT_STATUS 1) 0x0010 _ none (by decide)

end

/-- Why a load of `slot` fails: another load runs, a check of the image fails, or the staging copy does not read back (R41, R43). -/
def loadFailsWith (m : Module) (slot : Slot) (sigOk readbackOk : Bool) (f : LoadFail) : Prop :=
  (m.grate.loader ≠ .idle ∧ f = ⟨.busy, hdrRec, 0⟩) ∨
    (m.grate.loader = .idle ∧ m.grate.candRunning = false ∧
      (checkImage (imageEnv m sigOk) slot (slotOf m slot).image = .error f ∨
        ∃ l, checkImage (imageEnv m sigOk) slot (slotOf m slot).image = .ok l ∧ readbackOk = false ∧ f = ⟨.readback, hdrRec, 0⟩))

theorem imageLoad_of_loadFailsWith {m : Module} {slot : Slot} {sigOk readbackOk : Bool} {f : LoadFail}
    (fails : loadFailsWith m slot sigOk readbackOk f) : imageLoad slot sigOk readbackOk m = loadFailed m slot f := by
  obtain ⟨busy, rfl⟩ | ⟨idle, noCheck, failed | ⟨l, passed, rfl, rfl⟩⟩ := fails
  · simp [imageLoad, loadSlot, busy]
  · simp [imageLoad, loadSlot, idle, noCheck, failed]
  · simp [imageLoad, loadSlot, idle, noCheck, passed]

/-- A load that fails a boot (R44) changes the security subsystem and nothing else. -/
theorem bootLoadFailed_eq_updSec (m : Module) : ∃ g, bootLoadFailed m = m.updSec g := by
  unfold bootLoadFailed
  split
  · exact ⟨_, rfl⟩
  · exact ⟨id, rfl⟩

theorem imageLoadCmd_of_loadFailsWith {m : Module} {slot : Slot} {sigOk readbackOk : Bool} {f : LoadFail}
    (fails : loadFailsWith m slot sigOk readbackOk f) :
    ∃ g, imageLoadCmd slot sigOk readbackOk m = (loadFailed m slot f).updSec g := by
  unfold imageLoadCmd
  rw [imageLoad_of_loadFailsWith fails]
  dsimp only
  split
  · exact bootLoadFailed_eq_updSec _
  · exact ⟨id, rfl⟩

theorem exec_imageLoad_of_loadFailsWith {s : State} {slot : Slot} {sigOk readbackOk : Bool} {f : LoadFail}
    (fails : loadFailsWith s.m slot sigOk readbackOk f) :
    ∃ g, exec (.imageLoad slot sigOk readbackOk) s = .next { s with m := (loadFailed s.m slot f).updSec g } := by
  obtain ⟨g, load⟩ := imageLoadCmd_of_loadFailsWith fails
  exact ⟨g, by rw [← load]; rfl⟩

/-- Settles O17: every failed load ends in `loadFailed`, and a boot that fails with it adds to that in the security subsystem only. -/
theorem failedLoadLeavesStructure : Obligations.FailedLoadLeavesStructure := by
  intro slot sigOk readbackOk f s fails
  obtain ⟨g, load⟩ := exec_imageLoad_of_loadFailsWith fails
  refine ⟨_, load, loadFailed_grate .., loadFailed_axes .., loadFailed_learn .., loadFailed_gnss .., loadFailed_cover ..,
    loadFailed_loops .., ?status, ?location, loadFailed_raises_loadFail .., loadFailed_staged_or_full ..⟩
  case status => rw [fld_GRATE_STATUS_loadErr, updSec_grate, loadFailed_grate]
  case location => rw [liveValue_GRATE_ERR_LOC, updSec_grate, loadFailed_grate]

end Sys2Proof.Proofs
end

section
/-! Measurements of a frozen channel (R170): what the judged measurement reports, and what the marking of the coverage engine (R223)
that follows it leaves. -/

namespace Sys2Proof.Proofs

open Sys2Proof Sys2Proof.Machine Sys2Proof.Laws

/-! ## What the marking leaves (R223) -/

/-- What marking a spray does not touch: what the coverage engine's emissions leave, and register `o` when it lies outside its block. -/
def besideMarks (o : Nat) (m : Module) := (evRest m, m.rd o)

@[simp] theorem besideMarks_updCover (o : Nat) (m : Module) (f : CoverSt → CoverSt) : besideMarks o (m.updCover f) = besideMarks o m := rfl
@[simp] theorem besideMarks_updTile (o : Nat) (m : Module) (key : TileKey) (f : Tile → Tile) :
    besideMarks o (m.updTile key f) = besideMarks o m := rfl

@[simp] theorem besideMarks_cacheRoom (o : Nat) (m : Module) : besideMarks o (cacheRoom m) = besideMarks o m := by
  unfold cacheRoom
  dsimp only
  split
  · rfl
  · split <;> rfl

section
variable {o : Nat} (outside : evKeep o)
include outside

theorem besideMarks_markLost (m : Module) : besideMarks o (markLost m) = besideMarks o m := by
  have counter : Reg.COVER_PUB_MARK_LOST ≠ o := evKeep_ne outside (by decide)
  have flag : Reg.COVER_INT_STATUS ≠ o := evKeep_ne outside (by decide)
  simp [besideMarks, markLost, coverInt, counter, flag]

theorem besideMarks_markCell (m : Module) (q : Int × Int) : besideMarks o (markCell m q) = besideMarks o m := by
  unfold markCell
  dsimp only
  split
  · split <;> simp
  · split
    · simp [besideMarks_markLost outside]
    · simp

theorem besideMarks_markSpray (m : Module) (k budget : Nat) (s : Spray) :
    besideMarks o (markSpray m k budget s).1 = besideMarks o m := by
  have cells (l : List (Int × Int)) : besideMarks o (l.foldl markCell m) = besideMarks o m :=
    foldl_keep (besideMarks o) markCell (besideMarks_markCell outside) l m
  simp only [markSpray]
  split
  · rfl
  · split
    · rfl
    · split
      · rfl
      · split
        · exact besideMarks_markLost outside m
        · split
          · exact besideMarks_markLost outside m
          · split <;> exact cells _

theorem besideMarks_markSection (m : Module) (k budget : Nat) :
    besideMarks o (markSection (m, budget) k).1 = besideMarks o m :=
  List.foldlRecOn (motive := fun a : Module × Nat × List Spray => besideMarks o a.1 = besideMarks o m) (sect m k).sprays _ rfl
    fun a kept s _ => (besideMarks_markSpray outside a.1 k a.2.1 s).trans kept

theorem besideMarks_sprayOpened (m : Module) (k : Fin 128) : besideMarks o (sprayOpened k m) = besideMarks o m := by
  unfold sprayOpened
  dsimp only
  split
  · rfl
  · rw [besideMarks_markSection outside]
    split <;> rfl

theorem besideMarks_sprayClosed (m : Module) (k : Fin 128) (off : Option Nat) :
    besideMarks o (sprayClosed k off m) = besideMarks o m := by
  unfold sprayClosed
  dsimp only
  split
  · rfl
  · rw [besideMarks_markSection outside]
    split
    · split <;> rfl
    · rfl

end

/-! ## The channel a command is about (R162, R190) -/

theorem homeVc_lt (m : Module) (k : Fin 128) : homeVc m k < 128 := by
  unfold homeVc vcHome
  split <;> omega

/-- The home channel of a home channel is itself. -/
theorem vcHome_vcHome (m : Module) (c : Nat) : vcHome m (vcHome m c) = vcHome m c := by
  unfold vcHome
  split
  · split <;> omega
  · rfl

/-- The home channel as a channel of its own. -/
def homeFin (m : Module) (k : Fin 128) : Fin 128 := ⟨homeVc m k, homeVc_lt m k⟩

theorem homeVc_homeFin (m : Module) (k : Fin 128) : homeVc m (homeFin m k) = homeVc m k := vcHome_vcHome m k.val

theorem fin?_homeVc (m : Module) (k : Fin 128) : fin? 128 (homeVc m k) = some (homeFin m k) := dif_pos (homeVc_lt m k)

/-! ## Sides of a channel -/

theorem learnCh_updLearn_self (m : Module) {k : Nat} (f : LearnCh → LearnCh) (channel : k < 128) :
    learnCh (m.updLearn k f) k = f (learnCh m k) := by
  simp [learnCh, Module.updLearn, getD_updD, channel]

@[simp] theorem side_updSide_self (l : LearnCh) (opening : Bool) (f : SideSt → SideSt) :
    (l.updSide opening f).side opening = f (l.side opening) := by cases opening <;> rfl

@[simp] theorem side_updSide_other (l : LearnCh) (opening : Bool) (f : SideSt → SideSt) :
    (l.updSide opening f).side (!opening) = l.side (!opening) := by cases opening <;> rfl

/-! ## The report (R166) -/

section
variable (m : Module) {k : Nat} (opening : Bool) (mm code : Nat)

theorem reportMeas_side (channel : k < 128) : (learnCh (reportMeas m k opening mm code) k).side opening =
    { (learnCh m k).side opening with lastM := mm, lastCode := code } := by
  rw [reportMeas, learnCh_updLearn_self _ _ channel]
  exact side_updSide_self (learnCh m k) opening _

theorem reportMeas_side_other (channel : k < 128) :
    (learnCh (reportMeas m k opening mm code) k).side (!opening) = (learnCh m k).side (!opening) := by
  rw [reportMeas, learnCh_updLearn_self _ _ channel]
  exact side_updSide_other (learnCh m k) opening _

/-- A report stores one register: the counter that its code names. -/
theorem reportMeas_rd (o : Nat) : (reportMeas m k opening mm code).rd o =
    (m.count (if code = 0 then Reg.LEARN_PUB_VALID else Reg.LEARN_PUB_REJECT)).rd o := by
  simp only [reportMeas, updLearn_rd, beq_iff_eq]

theorem reportMeas_rd_valid : (reportMeas m k opening mm code).rd Reg.LEARN_PUB_VALID =
    m.rd Reg.LEARN_PUB_VALID + (if code = 0 then 1 else 0) := by
  have other : Reg.LEARN_PUB_REJECT ≠ Reg.LEARN_PUB_VALID := by decide
  rw [reportMeas_rd]
  by_cases ok : code = 0
  · rw [if_pos ok, if_pos ok, count_rd, if_pos rfl]
  · rw [if_neg ok, if_neg ok, rd_count_ne m other]
    exact (BitVec.add_zero _).symm

theorem reportMeas_rd_reject : (reportMeas m k opening mm code).rd Reg.LEARN_PUB_REJECT =
    m.rd Reg.LEARN_PUB_REJECT + (if code = 0 then 0 else 1) := by
  have other : Reg.LEARN_PUB_VALID ≠ Reg.LEARN_PUB_REJECT := by decide
  rw [reportMeas_rd]
  by_cases ok : code = 0
  · rw [if_pos ok, if_pos ok, rd_count_ne m other]
    exact (BitVec.add_zero _).symm
  · rw [if_neg ok, if_neg ok, count_rd, if_pos rfl]

@[simp] theorem reportMeas_cb (o i : Nat) : (reportMeas m k opening mm code).cb o i = m.cb o i := rfl

end

/-- A measurement of a frozen channel is reported, and nothing else (R170). -/
theorem learnMeas_of_frozen {m : Module} {k : Nat} (frozen : m.cb (Reg.LEARN_CH_CFG k) 8 = true) (opening : Bool) (c : Sparse Word)
    (p mm code : Nat) : learnMeas m k opening c p mm code = reportMeas m k opening mm code := by
  simp [learnMeas, frozen]

/-- From `m` to `m'` a measurement of one side of channel `h` was counted once and reported, and neither side learned. -/
def reportedOnly (m m' : Module) (h : Nat) (opening : Bool) : Prop :=
  let x := (learnCh m h).side opening
  let y := (learnCh m' h).side opening
  y.est = x.est ∧ y.n = x.n ∧ y.run = x.run ∧ y.runUp = x.runUp ∧ y.sum = x.sum ∧
  (learnCh m' h).side (!opening) = (learnCh m h).side (!opening) ∧
  m'.rd Reg.LEARN_PUB_VALID = m.rd Reg.LEARN_PUB_VALID + (if y.lastCode = 0 then 1 else 0) ∧
  m'.rd Reg.LEARN_PUB_REJECT = m.rd Reg.LEARN_PUB_REJECT + (if y.lastCode = 0 then 0 else 1)

/-- The marking of a spray takes nothing from a report: the counters and the sides lie beside it. -/
theorem reportedOnly_of_besideMarks {m m₁ m₂ : Module} {h : Nat} {opening : Bool} (report : reportedOnly m m₁ h opening)
    (marks : ∀ o, evKeep o → besideMarks o m₂ = besideMarks o m₁) : reportedOnly m m₂ h opening := by
  have valid : m₂.rd Reg.LEARN_PUB_VALID = m₁.rd Reg.LEARN_PUB_VALID := congrArg (·.2) (marks _ (by decide))
  have reject : m₂.rd Reg.LEARN_PUB_REJECT = m₁.rd Reg.LEARN_PUB_REJECT := congrArg (·.2) (marks _ (by decide))
  have learn : m₂.learn = m₁.learn := congrArg (·.1.1.2.2.2.2.2.2.2.2.1) (marks Reg.LEARN_PUB_VALID (by decide))
  have channel : learnCh m₂ h = learnCh m₁ h := by simp only [learnCh, learn]
  simp only [reportedOnly, channel, valid, reject]
  exact report

/-- Judging a frozen channel reports only, also from a later module `m₀` whose registers and sides are still those of `m`. -/
theorem reportedOnly_learnMeas {m m₀ : Module} {k : Nat} (channel : k < 128) (frozen : m₀.cb (Reg.LEARN_CH_CFG k) 8 = true)
    (counters : ∀ o, m₀.rd o = m.rd o) (sides : (learnCh m₀ k).side = (learnCh m k).side) (opening : Bool) (c : Sparse Word)
    (p mm code : Nat) : reportedOnly m (learnMeas m₀ k opening c p mm code) k opening := by
  rw [learnMeas_of_frozen frozen]
  simp only [reportedOnly, reportMeas_side _ _ _ _ channel, reportMeas_side_other _ _ _ _ channel, reportMeas_rd_valid,
    reportMeas_rd_reject, counters, sides, and_self]

/-! ## The searches' ends (R164, R165) -/

/-- The module at the end of a search at MT `t`, the measurement of channel `h` no longer in progress. -/
def searchEnded (m : Module) (h t : Nat) (opening : Bool) : Module :=
  (m.advanceTo t).updLearn h fun l => if opening then { l with openMeas := none } else { l with closeMeas := none }

theorem searchEnded_side (m : Module) {h : Nat} (t : Nat) (opening : Bool) (channel : h < 128) :
    (learnCh (searchEnded m h t opening) h).side = (learnCh m h).side := by
  have same : learnCh (m.advanceTo t) h = learnCh m h := by simp [learnCh]
  rw [searchEnded, learnCh_updLearn_self _ _ channel, same]
  cases opening <;> rfl

/-- The end of a search on a frozen channel reports the measurement, whatever the judgement. -/
theorem reportedOnly_searchEnded {m : Module} {h : Nat} (channel : h < 128) (frozen : m.cb (Reg.LEARN_CH_CFG h) 8 = true)
    (t : Nat) (opening : Bool) (c : Sparse Word) (p mm code : Nat) :
    reportedOnly m (learnMeas (searchEnded m h t opening) h opening c p mm code) h opening :=
  reportedOnly_learnMeas channel (by simpa [searchEnded, Module.cb] using frozen) (by simp [searchEnded])
    (searchEnded_side m t opening channel) opening c p mm code

/-- An opening measurement in progress ends in a judgement of its channel. -/
theorem openingMeasurement_judges {m : Module} {k : Fin 128} {t0 : Nat} (o : OpenSamples)
    (pending : (learnCh m (homeVc m k)).openMeas = some t0) (learning : (learnCh m (homeVc m k)).phase ≠ .none) :
    ∃ t c p mm code, openingMeasurement k o m = learnMeas (searchEnded m (homeVc m k) t true) (homeVc m k) true c p mm code := by
  simp only [openingMeasurement, pending, learning, if_false]
  exact ⟨_, _, _, _, _, rfl⟩

/-- A closing measurement in progress ends in a judgement of its channel. -/
theorem closingMeasurement_judges {m : Module} {k : Fin 128} {t0 : Nat} (o : CloseSamples)
    (pending : (learnCh m (homeVc m k)).closeMeas = some t0) (learning : (learnCh m (homeVc m k)).phase ≠ .none) :
    ∃ t c p mm code, closingMeasurement k o m = learnMeas (searchEnded m (homeVc m k) t false) (homeVc m k) false c p mm code := by
  simp only [closingMeasurement, pending, learning, if_false]
  exact ⟨_, _, _, _, _, rfl⟩

theorem openingMeasured_eq {m : Module} {k : Fin 128} {t0 : Nat} (o : OpenSamples)
    (pending : (learnCh m (homeVc m k)).openMeas = some t0) :
    openingMeasured k o m = sprayOpened (homeFin m k) (openingMeasurement (homeFin m k) o m) := by
  simp [openingMeasured, fin?_homeVc, pending]

theorem closingMeasured_eq {m : Module} {k : Fin 128} {t0 : Nat} (o : CloseSamples)
    (pending : (learnCh m (homeVc m k)).closeMeas = some t0) :
    closingMeasured k o m = sprayClosed (homeFin m k) (some t0) (closingMeasurement (homeFin m k) o m) := by
  simp [closingMeasured, fin?_homeVc, pending]

section
variable {m : Module} {k : Fin 128} {t0 : Nat} (learning : (learnCh m (homeVc m k)).phase ≠ .none)
  (frozen : m.cb (Reg.LEARN_CH_CFG (homeVc m k)) 8 = true)
include learning frozen

theorem reportedOnly_openingMeasured (o : OpenSamples) (pending : (learnCh m (homeVc m k)).openMeas = some t0) :
    reportedOnly m (openingMeasured k o m) (homeVc m k) true := by
  rw [openingMeasured_eq o pending]
  refine reportedOnly_of_besideMarks ?_ fun _ outside => besideMarks_sprayOpened outside _ _
  rw [← homeVc_homeFin] at pending learning frozen ⊢
  obtain ⟨t, c, p, mm, code, judged⟩ := openingMeasurement_judges o pending learning
  rw [judged]
  exact reportedOnly_searchEnded (homeVc_lt _ _) frozen t true c p mm code

theorem reportedOnly_closingMeasured (o : CloseSamples) (pending : (learnCh m (homeVc m k)).closeMeas = some t0) :
    reportedOnly m (closingMeasured k o m) (homeVc m k) false := by
  rw [closingMeasured_eq o pending]
  refine reportedOnly_of_besideMarks ?_ fun _ outside => besideMarks_sprayClosed outside _ _ _
  rw [← homeVc_homeFin] at pending learning frozen ⊢
  obtain ⟨t, c, p, mm, code, judged⟩ := closingMeasurement_judges o pending learning
  rw [judged]
  exact reportedOnly_searchEnded (homeVc_lt _ _) frozen t false c p mm code

end

/-- Settles O29: with FREEZE set the judgement ends in the report, and the marking that follows leaves the learning unit. -/
theorem frozenLearningOnlyReports : Obligations.FrozenLearningOnlyReports :=
  ⟨fun k o _ s pending learning frozen =>
      ⟨s.onModule (openingMeasured k o), rfl, reportedOnly_openingMeasured learning frozen o pending⟩,
    fun k o _ s pending learning frozen =>
      ⟨s.onModule (closingMeasured k o), rfl, reportedOnly_closingMeasured learning frozen o pending⟩⟩

end Sys2Proof.Proofs
end

section
/-! The time-pulse input (R290): the edges it captures, and what a capture stores and leaves. -/

namespace Sys2Proof.Proofs

open Sys2Proof Sys2Proof.Machine Sys2Proof.Laws

/-- The module once the time-pulse input has captured an edge: its MT is stored and TPIN raised. -/
def tpinCaptured (m : Module) : Module := (m.updFlue fun f => { f with tpin := m.mt }).raise Reg.FLUE_INT_STATUS 8

theorem tpinEdge_of_captures {rising : Bool} {m : Module} (enabled : m.cb Reg.FLUE_TPIN_CFG 31 = true)
    (edge : rising = !m.cb Reg.FLUE_TPIN_CFG 30) : tpinEdge rising m = tpinCaptured m := if_pos ⟨enabled, edge⟩

theorem tpinEdge_of_ignores {rising : Bool} {m : Module}
    (ignores : m.cb Reg.FLUE_TPIN_CFG 31 = false ∨ rising = m.cb Reg.FLUE_TPIN_CFG 30) : tpinEdge rising m = m := by
  refine if_neg fun ⟨enabled, edge⟩ => ?_
  obtain disabled | other := ignores
  · exact Bool.false_ne_true (disabled.symm.trans enabled)
  · exact (Bool.eq_not_self _).1 (other.symm.trans edge)

theorem liveValue_FLUE_TPIN_MT_LO (m : Module) : liveValue m Reg.FLUE_TPIN_MT_LO = w32 (m.flue.tpin % 2 ^ 32) := rfl

theorem liveValue_FLUE_TPIN_MT_HI (m : Module) : liveValue m Reg.FLUE_TPIN_MT_HI = w32 (m.flue.tpin / 2 ^ 32) := rfl

@[simp] theorem tpinCaptured_flue (m : Module) : (tpinCaptured m).flue = { m.flue with tpin := m.mt } := rfl

theorem tpinCaptured_raises_tpin (m : Module) : bit ((tpinCaptured m).rd Reg.FLUE_INT_STATUS) 8 = true :=
  bit_raise _ _ 8 (by decide)

/-- A capture touches the Flue unit and the register store only: it disciplines nothing. -/
theorem tpinCaptured_rest (m : Module) : { tpinCaptured m with regs := m.regs, flue := m.flue } = m := rfl

theorem tpinCaptured_rd_ne (m : Module) {off : Nat} (other : off ≠ Reg.FLUE_INT_STATUS) : (tpinCaptured m).rd off = m.rd off :=
  rd_raise_ne _ 8 other.symm

theorem exec_tpin (rising : Bool) (s : State) : exec (.tpin rising) s = .next { s with m := tpinEdge rising s.m } := rfl

theorem exec_tpin_of_captures {rising : Bool} {s : State} (enabled : s.m.cb Reg.FLUE_TPIN_CFG 31 = true)
    (edge : rising = !s.m.cb Reg.FLUE_TPIN_CFG 30) : exec (.tpin rising) s = .next { s with m := tpinCaptured s.m } := by
  rw [exec_tpin, tpinEdge_of_captures enabled edge]

theorem exec_tpin_of_ignores {rising : Bool} {s : State}
    (ignores : s.m.cb Reg.FLUE_TPIN_CFG 31 = false ∨ rising = s.m.cb Reg.FLUE_TPIN_CFG 30) : exec (.tpin rising) s = .next s := by
  rw [exec_tpin, tpinEdge_of_ignores ignores]

/-- Settles O45: an edge either is captured, which stores its MT and one flag, or leaves the module. -/
theorem timePulseInputCaptured : Obligations.TimePulseInputCaptured := by
  refine fun rising s => ⟨fun enabled edge => ⟨_, exec_tpin_of_captures enabled edge, ?low, ?high, ?flag, ?unit, ?rest, ?registers⟩,
    fun ignores => ⟨s, exec_tpin_of_ignores ignores, rfl⟩⟩
  case low => rw [liveValue_FLUE_TPIN_MT_LO, tpinCaptured_flue]
  case high => rw [liveValue_FLUE_TPIN_MT_HI, tpinCaptured_flue]
  case flag => exact tpinCaptured_raises_tpin s.m
  case unit => exact tpinCaptured_flue s.m
  case rest => exact tpinCaptured_rest s.m
  case registers => exact fun _ other => tpinCaptured_rd_ne s.m other

end Sys2Proof.Proofs
end
